-- ==== Sys2Proof/Word.lean ====
section
/-! DEFINITION. The one word type of the link: a byte. Everything wider is put together from bytes in Machine/Operands.lean. -/

namespace Sys2Proof

/-- One byte of the lane link (section 1.7 of The Lane Link). -/
abbrev Byte := BitVec 8

/-- The byte that carries the low eight bits of a number. -/
abbrev Byte.of (n : Nat) : Byte := BitVec.ofNat 8 n

end Sys2Proof
end

