-- ==== Sys2Proof/Config.lean ====
section
/-! DEFINITION. What is fixed for the part (sizes, limits, times the rules give as numbers), and the FREE VALUES: constants
without a body, for values the manual uses and does not state. -/

namespace Sys2Proof.Config

/-- Receive buffer size in bytes (R2). -/
def rxSize : Nat := 2048
/-- LRDY is deasserted when the buffer comes to hold this many bytes (R2). -/
def lrdyLevel : Nat := 1536
/-- Greatest body length of a frame (R5). -/
def maxBody : Nat := 1024
/-- Sync byte of every frame (R4). -/
def sync : Byte := 0xA5
/-- Places of the reply queue (R9). -/
def replyPlaces : Nat := 8
/-- Places of the store's access queue (R100). -/
def accessPlaces : Nat := 4
/-- Record slots of a sector (R96). -/
def slotsPerSector : Nat := 128
/-- Sectors of the flash array (R96). -/
def sectors : Nat := 8
/-- Unused slots kept for CARRIED copies while no sector is ERASED (R99). -/
def reserveSlots : Nat := 2
/-- Last number that the store can issue (R98) and the last transaction number (R65). -/
def maxNumber : Nat := 4294967295
/-- Successive failures of programs and marks at which the store enters FAILED (R101, R103). -/
def maxFailures : Nat := 3
/-- Completed pulses after which a failed blank verify retires the sector (R106). -/
def maxPulses : Nat := 6
/-- Places shared by expectations and reservations (R120). -/
def expectPlaces : Nat := 16
/-- Items of the bagged list (R124). -/
def baggedPlaces : Nat := 8
/-- Entries of the weighed-sale list (R73). -/
def salePlaces : Nat := 32
/-- Greatest price that latches (R88). -/
def maxPrice : Int := 9999999
/-- Greatest unit price (R80). -/
def maxUnitPrice : Nat := 999999
/-- Records of the print queue (R177). -/
def printPlaces : Nat := 256
/-- Payload bytes of the print queue (R177). -/
def printBytes : Nat := 16384
/-- Payload bytes of one RASTER record (R177). -/
def rasterBytes : Nat := 80
/-- Entries of a capture stream (R147). -/
def streamEntries : Nat := 2048
/-- Saturation of the 16-bit counts (R76, R102, R166). -/
def count16 : Nat := 65535
/-- The conversion watchdog in ms (R22). -/
def watchdogMs : Nat := 100
/-- The tracking timer in ms (R32). -/
def trackingMs : Nat := 1000
/-- Jam timer of a cutter cycle in ms (R189). -/
def jamMs : Nat := 500
/-- Length of the accept chirp in ms (R203). -/
def acceptMs : Nat := 40
/-- One beep of HOST_BEEP, on and off parts together, in ms (R202). -/
def beepMs : Nat := 200

/-- FREE VALUE (log entry 3). Dot row `row` (0 to 23) of the fixed shape of a glyph, 16 dots across. The manual says that
the shapes "are fixed in the part" (R187) and does not give them. The space glyph is not asked of it: R187 gives that one. -/
opaque glyphRow : (glyph : Nat) → (row : Nat) → BitVec 16

/-- FREE VALUE (log entry 4). The one-byte count that a reply carries when the count is above 255: R178 gives the count of
records queued one byte and admits a message of 256 records. -/
opaque countByte : (count : Nat) → Byte

/-- FREE VALUE (log entry 6). What a four-byte ref field carries while its present flag is clear: BAG_STATE and BAG_GET give
the field and the flag (R138, R139) and no value for the absent ref. -/
opaque absentRef : BitVec 32

end Sys2Proof.Config
end

