-- ==== Sys2Proof/Syntax.lean ====
section
/-! DEFINITION. The commands of the part: one constructor of `Instr` for each row of spec/opcode_table.json, with the row's
operands. A request row carries the host's tag and the raw fields of its body; an event row carries what the event brings in
from outside (a level, a sample, the outcome of a flash operation). -/

namespace Sys2Proof

/-- The two weighing channels; the channel field of the link carries 0 for P and 1 for B. -/
inductive Ch where
  | p | b
  deriving DecidableEq, Repr

/-- The two drawer ports. -/
inductive Port where
  | one | two
  deriving DecidableEq, Repr

/-- The two card tracks. -/
inductive Track where
  | a | b
  deriving DecidableEq, Repr

/-- The two contacts of the card slot (R140). -/
inductive CardSwitch where
  | front | rear
  deriving DecidableEq, Repr

/-- How the words of a used slot read (R96), as the flash array shows them. -/
inductive Health where
  | clean | corrected | uncorrectable
  deriving DecidableEq, Repr

/-- A sector's header (R97): blank, marked (with the sequence number if IN_USE is programmed), or not readable. -/
inductive Header where
  | blank
  | marked (inUse : Option Nat) (full released : Bool)
  | damaged
  deriving DecidableEq, Repr

/-- What the recovery scan finds at one sector (R113, R115): how the header reads where it does not read as programmed, how
each used slot's words read (a slot past the end of the list reads clean), whether the blank check of an ERASED candidate
passes, and whether an erase of the sector ends ERASED. -/
structure SectorScan where
  header  : Option Header
  slots   : List Health
  blankOk : Bool
  eraseOk : Bool
  deriving DecidableEq, Repr

/-- What the recovery scan meets: the eight sectors in physical order, and whether each mark that recovery programs verifies
within its attempts, in the order in which recovery programs them (a mark past the end of the list verifies). -/
structure Scan where
  sectors : List SectorScan
  marks   : List Bool
  deriving DecidableEq, Repr

/-- What a power-on reset leaves of the flash operation that it broke off (log entry 14). -/
inductive FlashFate where
  | notApplied | applied | damaged
  deriving DecidableEq, Repr

/-- The levels that the part samples from its pins at a power-on reset, without waiting. -/
structure Pins where
  rateHigh        : Bool
  hrdy            : Bool
  metrologyClosed : Bool
  cardFrontClosed : Bool
  cardRearClosed  : Bool
  drawer1High     : Bool
  drawer2High     : Bool
  paperPresent    : Bool
  paperLow        : Bool
  coverOpen       : Bool
  cutterHome      : Bool
  headSupply      : Nat
  headTemp        : Int
  deriving DecidableEq, Repr

/-- What the head supply input shows, in units of 0.1 V: at a sample of the head monitor, and at the phase plannings that follow
until the next one (R190; log entry 39). -/
structure SupplySamples where
  monitor   : Nat
  plannings : List Nat
  deriving DecidableEq, Repr

/-- What the head temperature input shows, in °C: at a sample of the head monitor, and at the line starts that follow until the
next one (R190; log entry 39). -/
structure TempSamples where
  monitor    : Int
  lineStarts : List Int
  deriving DecidableEq, Repr

/-- The commands, in the order of spec/opcode_table.json. -/
inductive Instr where
  | powerOnReset (pins : Pins) (fate : FlashFate)
  | recoveryScanEnd (scan : Scan)
  | byteReceived (byte : Byte) (gap : Bool) (framingError : Bool)
  | candidateAbandoned
  | frameTaken
  | hrdyChange (asserted : Bool)
  | frameSent
  | ping (tag : Byte)
  | statusGet (tag : Byte)
  | laneReset (tag : Byte)
  | settingPut (tag : Byte) (block setting : Byte) (value : BitVec 32)
  | settingGet (tag : Byte) (block setting : Byte)
  | noticeMask (tag : Byte) (mask : BitVec 16)
  | attnBeep (tag : Byte) (count pitch : Byte)
  | attnSilence (tag : Byte)
  | weightGet (tag : Byte) (channel : Byte)
  | zero (tag : Byte) (channel : Byte)
  | tareSemi (tag : Byte) (value : BitVec 32)
  | tarePreset (tag : Byte) (value : BitVec 32)
  | tareClear (tag : Byte) (value : BitVec 32)
  | conversionComplete (channel : Ch) (raw : BitVec 24)
  | conversionWatchdogExpiry (channel : Ch)
  | trackingStep (channel : Ch)
  | metrologySwitchChange (closed : Bool)
  | calBegin (tag : Byte) (channel : Byte)
  | calPointZero (tag : Byte) (mass : BitVec 32)
  | calPointSpan (tag : Byte) (mass : BitVec 32)
  | calParams (tag : Byte) (max : BitVec 32) (e : BitVec 16) (n s tracking : Byte)
  | calCommit (tag : Byte)
  | calAbandon (tag : Byte)
  | txnOpen (tag : Byte) (laneTime : BitVec 32)
  | txnTender (tag : Byte) (kind : Byte)
  | txnResume (tag : Byte)
  | txnClose (tag : Byte)
  | txnAbort (tag : Byte)
  | priceWeigh (tag : Byte) (unitPrice presetTare : BitVec 32) (flags : Byte) (tolerance : BitVec 16)
  | saleRecordHandover
  | settleTimerExpiry
  | priceCancel (tag : Byte)
  | alibiRead (tag : Byte) (first : BitVec 32) (count : Byte)
  | alibiRelease (tag : Byte) (upTo : BitVec 32)
  | alibiInfo (tag : Byte)
  | recordProgramEnd (verified : Bool)
  | headerMarkEnd (verified : Bool)
  | recordReadEnd (slots : List Health)
  | erasePulseEnd
  | blankVerifyEnd (blank : Bool)
  | expectAdd (tag : Byte) (ref weight : BitVec 32) (tolerance : BitVec 16) (flags : Byte)
  | expectRemove (tag : Byte) (ref weight : BitVec 32) (tolerance : BitVec 16)
  | bagClear (tag : Byte)
  | bagSkip (tag : Byte) (ref : BitVec 32)
  | bagGet (tag : Byte)
  | deadlineExpiry (index : Nat)
  | cardSwitchChange (switch : CardSwitch) (closed : Bool)
  | fluxTransition (track : Track) (elapsed : Nat)
  | fluxGap (track : Track)
  | decodeEnd
  | cardLeftTimerExpiry
  | holdTimerExpiry
  | cardArm (tag : Byte) (tracks : Byte)
  | cardDisarm (tag : Byte)
  | cardFetch (tag : Byte)
  | drawerOpen (tag : Byte) (port reason : Byte)
  | drawerSensorChange (port : Port) (high : Bool)
  | kickTimerExpiry (port : Port)
  | holdLimitExpiry (port : Port)
  | overdueTimerExpiry (port : Port)
  | strobePhaseEnd
  | printRecords (tag : Byte) (body : List Byte)
  | printCancel (tag : Byte)
  | printResume (tag : Byte)
  | paperAdvanceEnd
  | weighedLineReadHandover
  | cutterDriveEnd
  | cutterHomeChange (home : Bool)
  | jamTimerExpiry
  | paperSensorChange (present : Bool)
  | coverSensorChange (coverOpen : Bool)
  | paperLowChange (low : Bool)
  | headMonitorSample (headSupply : SupplySamples) (headTemp : TempSamples)
  | hostBeepEnd
  | acceptEnd
  | byteSent
  deriving DecidableEq, Repr

end Sys2Proof
end

