-- ==== Sys2Proof/Decode.lean ====
section
/-! DEFINITION. The commands that a word spells by the bits of spec/opcode_table.json. The table gives NO row any bits (the
reader's count: 83 rows, none with fixed bits or fields), so no word spells a command. How a request is spelt by the bytes of
a frame (section 1.7) is modelled where the part reads it: Machine/Operands.lean and Machine/Requests.lean. -/

namespace Sys2Proof

/-- The command that the table's bits spell: none, for every word, because no row of the table has bits. -/
def decodeTableWord (_nbits _w : Nat) : Option Instr := none

end Sys2Proof
end

