-- ==== Sys2Proof/Machine/State.lean ====
section
/-! DEFINITION. The state of the part as plain data, block by block (section "Functional blocks" of 00_scope.md), and its
value right after a power-on reset. A timer is the moment, in ms of the model's clock, at which it expires; `none` is stopped. -/

namespace Sys2Proof.Machine

/-- The moment at which a running timer expires, or none. -/
abbrev Timer := Option Nat

/-! ## Link interface (chapter 1) -/

/-- A byte of the receive buffer with its two marks (R2). -/
structure RxByte where
  byte : Byte
  gap  : Bool
  loss : Bool
  deriving DecidableEq, Repr

/-- A message to send: kind, tag and body (R4, R8, R10). -/
structure Frame where
  kind : Byte
  tag  : Byte
  body : List Byte
  deriving DecidableEq, Repr

/-- The twelve notice slots, in the order of R11. -/
inductive Slot where
  | laneReady | calState | storeState | priceResult | txnState | bagState | drawer1 | drawer2 | cardState | printState
  | weightP | weightB
  deriving DecidableEq, Repr

/-- The notice slots (R10): each empty or holding the body of one snapshot. -/
structure Slots where
  laneReady   : Option (List Byte)
  calState    : Option (List Byte)
  storeState  : Option (List Byte)
  priceResult : Option (List Byte)
  txnState    : Option (List Byte)
  bagState    : Option (List Byte)
  drawer1     : Option (List Byte)
  drawer2     : Option (List Byte)
  cardState   : Option (List Byte)
  printState  : Option (List Byte)
  weightP     : Option (List Byte)
  weightB     : Option (List Byte)
  deriving DecidableEq, Repr

/-- The frame being sent (R3): its bytes, the byte that is next or in flight, whether that byte has been started, and whether
the frame is the oldest filled reply. -/
structure TxFrame where
  bytes    : List Byte
  index    : Nat
  inFlight : Bool
  isReply  : Bool
  deriving DecidableEq, Repr

structure Link where
  rateHigh  : Bool              -- R1
  starting  : Bool              -- R14
  rx        : List RxByte       -- R2, oldest first
  lossNext  : Bool              -- R2: the byte just before was lost
  lineQuiet : Bool              -- R6: more than 20 ms without a byte
  lrdy      : Bool              -- R2
  hrdy      : Bool              -- R3
  reserved  : Nat               -- R9: places reserved and not yet filled
  replies   : List Frame        -- R9: filled places, oldest first
  slots     : Slots             -- R10
  mask      : BitVec 10         -- R12 notices/mask
  weightB   : Bool              -- R12 notices/weight_b
  resetTag  : Option Byte       -- R19: the reset-in-progress flag, with the tag of its request
  tx        : Option TxFrame    -- R3
  deriving DecidableEq, Repr

/-! ## Weighing channels and calibration (chapters 2 and 3) -/

/-- Channel states (R20), codes 0 to 4. -/
inductive ChState where
  | uncalibrated | noZero | weighing | calibrating | fault
  deriving DecidableEq, Repr

/-- Reading conditions (R40), codes 0 to 3. -/
inductive Condition where
  | valid | over | under | saturated
  deriving DecidableEq, Repr

/-- The parameters a channel limits and rounds by (R24). -/
structure Params where
  max      : Nat
  e        : Nat
  n        : Nat
  s        : Nat
  tracking : Bool
  deriving DecidableEq, Repr

/-- A calibration in force (R24): zero count, span count, span mass in mg, and the parameters. -/
structure Calibration where
  zc     : Int
  cs     : Int
  ms     : Int
  params : Params
  deriving DecidableEq, Repr

/-- What a reading leaves behind: the filtered count and the stable flag. Its weights follow from these under the channel's
present state, zero, tare and calibration (R43, R44). -/
structure Reading where
  a      : Int
  stable : Bool
  deriving DecidableEq, Repr

/-- The weight report (R44), without the channel field. -/
structure Report where
  state     : ChState
  condition : Condition
  stable    : Bool
  centre    : Bool
  gross     : Int
  net       : Int
  tare      : Int
  raw       : Int
  deriving DecidableEq, Repr

structure Channel where
  state      : ChState
  resume     : ChState          -- R22
  samples    : List Int         -- R25, oldest first
  saturated  : Nat              -- R25 saturated-sample count
  window     : List Int         -- R28 stability window, oldest first
  zo         : Int              -- R30 zero offset, mg
  zoInit     : Int              -- R30 initial zero, mg
  tare       : Int              -- R35, mg; 0 on channel B
  tracking   : Timer            -- R32
  watchdog   : Timer            -- R22
  latest     : Option Reading   -- R42
  lastReport : Option Report    -- R45
  deriving DecidableEq, Repr

/-- Causes of CAL_STATE (R62), codes 0 to 3; a session records one of the last three. -/
inductive Cause where
  | none | request | switch | reset
  deriving DecidableEq, Repr

/-- A calibration session (section 3.2). -/
structure Session where
  channel      : Ch
  home         : ChState
  zc           : Option Int
  span         : Option (Int × Int)   -- Cs and Ms
  params       : Params
  zeroStaged   : Bool
  spanStaged   : Bool
  paramsStaged : Bool
  committing   : Bool
  endMark      : Bool
  cause        : Cause
  deriving DecidableEq, Repr

structure Calib where
  switchClosed : Bool                 -- R49
  inForceP     : Option Calibration
  inForceB     : Option Calibration
  counterP     : Nat
  counterB     : Nat
  session      : Option Session
  lastRecord   : Nat                  -- last-written record number
  lastChannel  : Ch                   -- R62: channel of the last session, P before any
  deriving DecidableEq, Repr

/-! ## Transaction and priced weighing (chapters 4 and 5) -/

/-- Transaction states, codes 0 to 3. -/
inductive TxnState where
  | idle | opened | tender | closing
  deriving DecidableEq, Repr

/-- Receipt states (R64), codes 0 to 4. -/
inductive ReceiptState where
  | none | opened | queued | printed | cancelled
  deriving DecidableEq, Repr

/-- End causes (R64), codes 0 to 3. -/
inductive EndCause where
  | none | closed | aborted | reset
  deriving DecidableEq, Repr

/-- An entry of the weighed-sale list (R73). -/
structure Sale where
  number  : Nat
  net     : Int
  price   : Int
  queued  : Bool
  printed : Bool
  deriving DecidableEq, Repr

structure Txn where
  number      : Nat
  state       : TxnState
  laneTime    : Nat
  tenderCash  : Bool
  tenderCard  : Bool
  tenderOther : Bool
  fired1      : Bool
  fired2      : Bool
  sales       : List Sale          -- in the order the sales completed
  receipt     : ReceiptState
  bagSkip     : Nat
  inFlight    : Bool
  endCause    : EndCause
  deriving DecidableEq, Repr

/-- States of the priced-weighing unit (R79), codes 0 to 4. -/
inductive PwState where
  | idle | waitRearm | waitStable | storing | detached
  deriving DecidableEq, Repr

/-- Results of a priced weighing (R95), codes 0 to 6. -/
inductive PwResult where
  | none | done | cancelled | expired | priceOverflow | storeFailed | aborted
  deriving DecidableEq, Repr

/-- Expiry reasons (R95), codes 0 to 6. -/
inductive PwReason where
  | none | notRearmed | motion | over | under | saturated | belowMin
  deriving DecidableEq, Repr

/-- The values fixed at the latch, or computed at a failed one (R88). -/
structure Latch where
  net     : Int
  tare    : Int
  price   : Int
  counter : Nat
  deriving DecidableEq, Repr

/-- Fields of a SALE record (R98) but for its alibi number. -/
structure SaleFields where
  presetTare  : Bool
  tarePresent : Bool
  counter     : Nat
  txn         : Nat
  laneTime    : Nat
  unitPrice   : Nat
  tare        : Int
  net         : Int
  price       : Int
  deriving DecidableEq, Repr

/-- Fields of a CAL record (R98) but for its alibi number. -/
structure CalFields where
  channel : Ch
  carried : Bool
  counter : Nat
  cal     : Calibration
  deriving DecidableEq, Repr

structure Pricing where
  state         : PwState
  txn           : Nat              -- transaction number of the request
  unitPrice     : Nat
  preset        : Bool
  reserved      : Bool             -- reservation flag
  tolerance     : Int              -- applied bag tolerance
  settle        : Timer
  latch         : Option Latch
  rearm         : Bool             -- R83
  reference     : Int              -- R84, g
  result        : PwResult
  reason        : PwReason
  lastAlibi     : Nat
  waiting       : Option SaleFields  -- R89: the record that waits for a place in the access queue
  settleS       : Nat              -- R48 channel P/settle_s
  tareAutoclear : Bool             -- R48 channel P/tare_autoclear
  deriving DecidableEq, Repr

/-! ## The alibi store (chapter 6) -/

/-- What the store writes: the fields of one record. -/
inductive RecordBody where
  | sale (r : SaleFields)
  | cal (r : CalFields)
  deriving DecidableEq, Repr

/-- A used slot of the flash array (R96): a programmed record, or a slot cleared after a failed program (R101). -/
inductive UsedSlot where
  | record (number : Nat) (body : RecordBody)
  | cleared
  deriving DecidableEq, Repr

/-- One sector of the flash array: its header and its used slots from slot 0; every later slot is blank (R96). -/
structure FlashSector where
  header : Header
  slots  : List UsedSlot
  deriving DecidableEq, Repr

/-- Sector states (R97), codes 0 to 4. -/
inductive SectorState where
  | erased | active | full | erasing | retired
  deriving DecidableEq, Repr

/-- An entry of the sector table (R97). -/
structure SectorEntry where
  state    : SectorState
  seq      : Nat
  first    : Option Nat
  used     : Nat
  released : Bool
  pending  : Bool
  deriving DecidableEq, Repr

/-- Store conditions (R99), codes 0 to 3. -/
inductive StoreCondition where
  | normal | noSpare | storeFull | failed
  deriving DecidableEq, Repr

/-- Accesses (R100). The printer's read carries whether its result is still wanted (R194). -/
inductive Access where
  | write (r : RecordBody)
  | readHost (tag : Byte) (first count : Nat)
  | readPrinter (number : Nat) (live : Bool)
  | release (sectors : List Nat)
  deriving DecidableEq, Repr

/-- The flash operation in progress (R100): one at a time. -/
inductive FlashOp where
  | idle
  | programHead
  | programCopy (channel : Ch)
  | markFull (sector : Nat) (released : Bool)
  | markInUse (sector seq : Nat)
  | markReleased (sector : Nat)
  | read
  | pulse (reapplied : Bool)
  | verify
  deriving DecidableEq, Repr

/-- The rotation marks still owed (R104): both, or only IN_USE after FULL has verified. -/
inductive Rotation where
  | none
  | owesFull (sector : Nat)
  | owesInUse (sector : Nat) (released : Bool)
  deriving DecidableEq, Repr

/-- The next step of the erase in progress (R106, R107). -/
inductive EraseStep where
  | pulse | reapply | verify
  deriving DecidableEq, Repr

/-- An erase in progress (R106). -/
structure Erase where
  sector : Nat
  pulses : Nat
  next   : EraseStep
  deriving DecidableEq, Repr

/-- A block with an accepted request that waits for a place in the access queue (R100). -/
inductive Waiter where
  | sale | line
  deriving DecidableEq, Repr

/-- The held copy of a channel's current CAL record (R105). -/
structure CurrentCal where
  number : Nat
  fields : CalFields
  deriving DecidableEq, Repr

structure Store where
  table          : List SectorEntry
  queue          : List Access          -- oldest first
  waiters        : List Waiter          -- in the order in which they began to wait
  op             : FlashOp
  rotation       : Rotation
  copies         : List Ch              -- CARRIED copies owed
  erase          : Option Erase
  condition      : StoreCondition
  failed         : Bool                 -- R99: the FAILED latch
  failures       : Nat                  -- successive-failure count
  next           : Nat                  -- next number
  releasePoint   : Nat
  currentP       : Option CurrentCal
  currentB       : Option CurrentCal
  damagedFound   : Nat
  retired        : Nat
  lastSeq        : Nat                  -- R104: highest sequence number in use or last used
  eraseFirst     : Bool                 -- R116 store/suspend_mode
  holdUnexported : Bool                 -- R116 store/hold_unexported
  deriving DecidableEq, Repr

/-! ## Bagging verifier (chapter 7) -/

/-- Verifier states (R118), codes 0 to 2. -/
inductive BagPhase where
  | inactive | watching | hold
  deriving DecidableEq, Repr

/-- Exception kinds (R118), codes 0 to 5. -/
inductive ExceptionKind where
  | none | unexpectedAdd | unexpectedRemove | notPlaced | bagOverload | scaleFault
  deriving DecidableEq, Repr

/-- Directions of an expectation (R120). -/
inductive Direction where
  | add | remove
  deriving DecidableEq, Repr

/-- Origins of an expectation (R120). -/
inductive Origin where
  | host | sale
  deriving DecidableEq, Repr

/-- An entry of the expectation queue (R120); `held` marks the held entry of a NOT_PLACED hold (R132). -/
structure Expect where
  dir       : Direction
  ref       : Nat
  origin    : Origin
  expected  : Int
  tolerance : Int
  skippable : Bool
  deadline  : Timer
  overdue   : Bool
  held      : Bool
  deriving DecidableEq, Repr

/-- An item of the bagged list (R124). -/
structure Bagged where
  ref       : Nat
  expected  : Int
  tolerance : Int
  deriving DecidableEq, Repr

structure Bag where
  state       : BagPhase
  baseline    : Int
  entries     : List Expect        -- oldest first
  reserved    : Nat
  bagged      : List Bagged        -- newest first
  kind        : ExceptionKind
  delta       : Int
  ref         : Option Nat         -- the exception's ref
  lastMatched : Option Nat
  enableSet   : Bool               -- R119 bagging/enable as last written
  enabled     : Bool               -- R119 bagging/enable in effect
  band        : Nat
  placementS  : Nat
  pairMatch   : Bool
  requireClear : Bool
  acceptChirp : Bool
  deriving DecidableEq, Repr

/-! ## Card reader (chapter 8) -/

/-- Seat positions (R141). -/
inductive Seat where
  | empty | entering | seated | withdrawing | readerFault
  deriving DecidableEq, Repr

/-- The two passes of a card (R147). -/
inductive Pass where
  | insertion | withdrawal
  deriving DecidableEq, Repr

/-- Where the timing of a stream stands (R147): no transition yet, timing an interval, or past a GAP marker. -/
inductive FluxPhase where
  | waitFirst | timing | inGap
  deriving DecidableEq, Repr

/-- A capture stream (R147): intervals in µs, `none` being a GAP marker, oldest first. -/
structure Stream where
  entries  : List (Option Nat)
  overflow : Bool
  phase    : FluxPhase
  deriving DecidableEq, Repr

/-- The four capture streams. -/
structure Streams where
  insertA     : Option Stream
  insertB     : Option Stream
  withdrawA   : Option Stream
  withdrawB   : Option Stream
  deriving DecidableEq, Repr

/-- Track statuses (R152), codes 0 to 5. -/
inductive TrackStatus where
  | ok | parityErr | lrcErr | noStart | noEnd | empty
  deriving DecidableEq, Repr

/-- The block of one decoded track (R153). -/
structure TrackBlock where
  status       : TrackStatus
  pass         : Pass
  reversed     : Bool
  parityErrors : Nat
  chars        : List Nat
  deriving DecidableEq, Repr

/-- A read record with the flags of the held read (R154, R155). -/
structure CardRead where
  number   : Nat
  txn      : Nat
  trackA   : Option TrackBlock
  trackB   : Option TrackBlock
  replaced : Bool
  overflow : Bool
  deriving DecidableEq, Repr

structure Card where
  frontClosed : Bool
  rearClosed  : Bool
  seat        : Seat
  armedA      : Bool
  armedB      : Bool
  streams     : Streams
  pass        : Option Pass          -- the pass in progress
  decoder     : Option Streams       -- BUSY with these streams, or IDLE
  held        : Option CardRead
  counter     : Nat                  -- read counter
  leftTimer   : Timer
  holdTimer   : Timer
  cardLeft    : Bool                 -- CARD_LEFT asserted
  leftS       : Nat                  -- R157 card/left_s
  holdS       : Nat                  -- R157 card/hold_s
  deriving DecidableEq, Repr

/-! ## Supply arbiter and drawer ports (chapter 9) -/

/-- A strobe phase: its blocks, its load in dot loads, its strobe width in µs, and the re-application mark. -/
structure Phase where
  blocks    : List Nat
  load      : Nat
  width     : Nat
  reapplied : Bool
  deriving DecidableEq, Repr

structure Supply where
  budget    : Nat               -- R160 budget in effect
  staged    : Nat               -- R160 staged budget
  kickFirst : Bool              -- R160 supply/mode
  phase     : Option Phase      -- R161: the printer's grant
  owed      : Option Phase      -- R165: owed re-application
  deriving DecidableEq, Repr

/-- Drawer port states (section 9.2), codes 0 to 6. -/
inductive DrawerState where
  | closed | waitSupply | kick | hold | opened | overdue | noOpen
  deriving DecidableEq, Repr

/-- Reasons of a kick (R166), codes 0 to 2. -/
inductive KickReason where
  | none | sale | noSale
  deriving DecidableEq, Repr

structure Drawer where
  state        : DrawerState
  levelHigh    : Bool             -- R167: debounced level of the sensor pin
  sensorOpen   : Bool             -- R167: sensor state
  forced       : Bool
  reason       : KickReason
  kickTimer    : Timer
  holdTimer    : Timer
  overdueTimer : Timer
  grant        : Nat              -- R161: load held
  holdLoad     : Nat              -- R169: hold load recorded at the grant
  fittedSet    : Bool             -- R174: fitted as last written
  fitted       : Bool             -- R174: fitted in effect
  kickMs       : Nat
  holdDuty     : Nat
  holdMs       : Nat
  overdueS     : Nat
  polarity     : Bool
  kickLoad     : Nat
  deriving DecidableEq, Repr

/-! ## Receipt printer (chapter 10) -/

/-- A print record (section 1.7), without its receipt. -/
inductive PrintRecord where
  | receiptBegin (txn : Nat)
  | raster (repeats : Nat) (dots : List Byte)
  | feed (lines : Nat)
  | weighedLine (number : Nat)
  | cut (partialCut : Bool)
  | receiptEnd
  deriving DecidableEq, Repr

/-- A record of the print queue with the number of the receipt it belongs to (0 for a slip). -/
structure Queued where
  record  : PrintRecord
  receipt : Nat
  deriving DecidableEq, Repr

/-- The open receipt (R179): its number and its queued set. -/
structure OpenReceipt where
  number : Nat
  queued : List Nat
  deriving DecidableEq, Repr

/-- The glyphs of weighed lines (R187). -/
inductive Glyph where
  | digit (d : Nat)
  | point | hash | k | g | slash | at | tare | minus | space
  deriving DecidableEq, Repr

/-- A weighed line being printed: its text lines of 40 cells, the dot line it stands at, and whether it prints with dashes. -/
structure TextJob where
  number  : Nat
  lines   : List (List Glyph)
  row     : Nat
  damaged : Bool
  deriving DecidableEq, Repr

/-- The record in progress with its position. -/
inductive Work where
  | raster (left : Nat) (dots : List Byte)
  | feed (left : Nat)
  | reading (number : Nat)
  | text (job : TextJob)
  | cut (partialCut : Bool)
  deriving DecidableEq, Repr

/-- The line in progress (R182): block loads, printed blocks, whether the paper is advancing, and the head temperature
sampled at the line start. -/
structure Line where
  loads     : List Nat
  printed   : List Bool
  advancing : Bool
  temp      : Int
  deriving DecidableEq, Repr

/-- Engine states (section 10.2), codes 0 to 5. -/
inductive Engine where
  | idle | printing | waitSupply | waitStore | cutting | suspended
  deriving DecidableEq, Repr

/-- Suspension reasons (section 10.5). -/
structure Reasons where
  paperOut  : Bool
  coverOpen : Bool
  headHot   : Bool
  lowSupply : Bool
  cutterJam : Bool
  deriving DecidableEq, Repr

/-- The pending restart (chapter 10 table); a cycle to be repeated keeps its kind, FULL or PARTIAL. -/
inductive Restart where
  | none | reprintLine
  | repeatCut (partialCut : Bool)
  deriving DecidableEq, Repr

/-- A cutter cycle (R189): the cut that is driven, FULL or PARTIAL, and whether the drive runs still or the cycle waits for the
home sensor. -/
structure CutCycle where
  partialCut : Bool
  driving    : Bool
  deriving DecidableEq, Repr

structure Printer where
  queue        : List Queued           -- the head is the record in progress, if there is one
  openReceipt  : Option OpenReceipt
  work         : Option Work           -- record in progress
  ending       : Bool                  -- R194: the record in progress ends with its line
  line         : Option Line
  engine       : Engine
  reasons      : Reasons
  restart      : Restart
  cutter       : Option CutCycle
  jamTimer     : Timer
  darkness     : Nat                   -- in effect
  darknessSet  : Nat                   -- R197 printer/darkness as last written
  decimals     : Nat                   -- R197 printer/decimals
  lastDone     : Nat
  doneCount    : Nat
  damagedLine  : Bool
  damagedNumber : Nat
  paperPresent : Bool
  paperLow     : Bool
  coverOpen    : Bool
  cutterHome   : Bool
  headSupply   : Nat                   -- V as last sampled, 0.1 V
  headTemp     : Int                   -- θ as last sampled, °C
  supplyInput  : List Nat              -- what the V input shows at the phase plannings to come (log entry 39)
  tempInput    : List Int              -- what the θ input shows at the line starts to come (log entry 39)
  deriving DecidableEq, Repr

/-! ## Attention outputs (chapter 11) -/

/-- A source (R199). -/
structure Source where
  active : Bool
  muted  : Bool
  start  : Nat                         -- cadence start
  deriving DecidableEq, Repr

/-- The six sources, in the order of their priority. -/
inductive SourceName where
  | bagHold | drawerForced | drawerOverdue | cardLeft | hostBeep | accept
  deriving DecidableEq, Repr

structure Attention where
  bagHold       : Source
  drawerForced  : Source
  drawerOverdue : Source
  cardLeft      : Source
  hostBeep      : Source
  accept        : Source
  beepCount     : Nat                  -- R202
  beepPitch     : Nat                  -- R202, code 0 to 2
  beepEnd       : Timer
  acceptEnd     : Timer
  tone          : Bool                 -- R204 attention/tone
  deriving DecidableEq, Repr

/-! ## The whole part -/

/-- Everything the manual gives the part, the flash array it keeps through a power-on reset, the model's clock in ms (log
entry 2), and the queue of commands that wait. -/
structure State where
  clock   : Nat
  link    : Link
  chP     : Channel
  chB     : Channel
  cal     : Calib
  txn     : Txn
  pw      : Pricing
  store   : Store
  flash   : List FlashSector
  bag     : Bag
  card    : Card
  supply  : Supply
  drw1    : Drawer
  drw2    : Drawer
  noSale  : Nat                        -- R166
  prn     : Printer
  attn    : Attention
  pending : List Instr
  deriving DecidableEq, Repr

/-- No command of this part ends in a fault: the manual gives every row an effect, in every state. -/
inductive Fault where
  deriving DecidableEq, Repr

/-- Why a step has no meaning. -/
inductive Refusal where
  /-- Raised by `exec` alone, for a command without a meaning. Safe. No arm of this model raises it. -/
  | notModelled (mnemonic : String)
  deriving DecidableEq, Repr

/-! ## Values right after a power-on reset -/

def Slots.empty : Slots :=
  ⟨none, none, none, none, none, none, none, none, none, none, none, none⟩

/-- The report of a channel at power-on reset (R20, R44): UNCALIBRATED without a reading. -/
def Report.reset : Report :=
  { state := .uncalibrated, condition := .valid, stable := false, centre := false, gross := 0, net := 0, tare := 0, raw := 0 }

/-- R1, R2, R3, R5, R9, R10, R12, R14. The first report of each channel raises WEIGHT at the reset itself (R45); that of
channel B is disabled (R12), so the slot of channel P alone is filled. -/
def Link.reset : Link :=
  { rateHigh := false, starting := true, rx := [], lossNext := false, lineQuiet := false, lrdy := true, hrdy := true,
    reserved := 0, replies := [], slots := { Slots.empty with weightP := some (List.replicate 20 0) },
    mask := 1023, weightB := false, resetTag := none, tx := none }

/-- R20, R22: UNCALIBRATED, windows empty, zeros and tare 0, tracking stopped, watchdog started. -/
def Channel.reset : Channel :=
  { state := .uncalibrated, resume := .uncalibrated, samples := [], saturated := 0, window := [], zo := 0, zoInit := 0,
    tare := 0, tracking := none, watchdog := some Config.watchdogMs, latest := none, lastReport := some Report.reset }

def Calib.reset : Calib :=
  { switchClosed := false, inForceP := none, inForceB := none, counterP := 0, counterB := 0, session := none,
    lastRecord := 0, lastChannel := .p }

/-- R64. -/
def Txn.reset : Txn :=
  { number := 0, state := .idle, laneTime := 0, tenderCash := false, tenderCard := false, tenderOther := false,
    fired1 := false, fired2 := false, sales := [], receipt := .none, bagSkip := 0, inFlight := false, endCause := .none }

/-- R79, R48. -/
def Pricing.reset : Pricing :=
  { state := .idle, txn := 0, unitPrice := 0, preset := false, reserved := false, tolerance := 0, settle := none,
    latch := none, rearm := true, reference := 0, result := .none, reason := .none, lastAlibi := 0, waiting := none,
    settleS := 10, tareAutoclear := true }

def SectorEntry.blank : SectorEntry :=
  { state := .erased, seq := 0, first := none, used := 0, released := false, pending := false }

/-- R98 to R101, R110, R114, R116; the sector table is built by the recovery (R97). -/
def Store.reset : Store :=
  { table := List.replicate Config.sectors SectorEntry.blank, queue := [], waiters := [], op := .idle, rotation := .none,
    copies := [], erase := none, condition := .normal, failed := false, failures := 0, next := 1, releasePoint := 0,
    currentP := none, currentB := none, damagedFound := 0, retired := 0, lastSeq := 0, eraseFirst := false,
    holdUnexported := false }

/-- The flash array of a new part: eight blank sectors (log entry 5). -/
def Flash.blank : List FlashSector := List.replicate Config.sectors { header := .blank, slots := [] }

/-- R118, R119. DESIGN CHOICE: while its kind is NONE the exception record has delta 0 and no ref (log entry 60). -/
def Bag.reset : Bag :=
  { state := .inactive, baseline := 0, entries := [], reserved := 0, bagged := [], kind := .none, delta := 0, ref := none,
    lastMatched := none, enableSet := true, enabled := true, band := 2, placementS := 15, pairMatch := true,
    requireClear := true, acceptChirp := true }

def Streams.none : Streams := ⟨Option.none, Option.none, Option.none, Option.none⟩

/-- Section 8 table, R157. -/
def Card.reset : Card :=
  { frontClosed := false, rearClosed := false, seat := .empty, armedA := false, armedB := false, streams := Streams.none,
    pass := none, decoder := none, held := none, counter := 0, leftTimer := none, holdTimer := none, cardLeft := false,
    leftS := 60, holdS := 30 }

/-- Section 9 table. -/
def Supply.reset : Supply :=
  { budget := 384, staged := 384, kickFirst := false, phase := none, owed := none }

/-- R166, for a port with the given fitted default and a sensor that reads closed. -/
def Drawer.reset (fitted : Bool) : Drawer :=
  { state := .closed, levelHigh := false, sensorOpen := false, forced := false, reason := .none, kickTimer := none,
    holdTimer := none, overdueTimer := none, grant := 0, holdLoad := 0, fittedSet := fitted, fitted := fitted, kickMs := 80,
    holdDuty := 25, holdMs := 400, overdueS := 120, polarity := false, kickLoad := 256 }

def Reasons.none : Reasons := ⟨false, false, false, false, false⟩

/-- Section 10 table, R190, R197. -/
def Printer.reset : Printer :=
  { queue := [], openReceipt := none, work := none, ending := false, line := none, engine := .idle, reasons := Reasons.none,
    restart := .none, cutter := none, jamTimer := none, darkness := 4, darknessSet := 4, decimals := 2, lastDone := 0,
    doneCount := 0, damagedLine := false, damagedNumber := 0, paperPresent := true, paperLow := false, coverOpen := false,
    cutterHome := true, headSupply := 240, headTemp := 25, supplyInput := [], tempInput := [] }

def Source.off : Source := { active := false, muted := false, start := 0 }

/-- R199, R204. -/
def Attention.reset : Attention :=
  { bagHold := Source.off, drawerForced := Source.off, drawerOverdue := Source.off, cardLeft := Source.off,
    hostBeep := Source.off, accept := Source.off, beepCount := 0, beepPitch := 0, beepEnd := none, acceptEnd := none,
    tone := true }

/-- The part right after a power-on reset, with the pins and the flash array of log entry 5. -/
def State.reset : State :=
  { clock := 0, link := Link.reset, chP := Channel.reset, chB := Channel.reset, cal := Calib.reset, txn := Txn.reset,
    pw := Pricing.reset, store := Store.reset, flash := Flash.blank, bag := Bag.reset, card := Card.reset,
    supply := Supply.reset, drw1 := Drawer.reset true, drw2 := Drawer.reset false, noSale := 0, prn := Printer.reset,
    attn := Attention.reset, pending := [] }

end Sys2Proof.Machine
end

