-- ==== Sys2Proof/Machine/Operands.lean ====
section
/-! DEFINITION. Operands of the link: numbers as bytes and bytes as numbers (section 1.7), the check of a frame (R4), the
exact roundings of 00_scope.md, the codes of enumerated fields, and the bodies of the request kinds. -/

namespace Sys2Proof

/-- The channel field: 0 for P, 1 for B (section 1.7). -/
def Ch.code : Ch → Nat | .p => 0 | .b => 1
def Ch.ofCode? : Nat → Option Ch | 0 => some .p | 1 => some .b | _ => none
/-- The drawer port field: 1 or 2 (section 1.7). -/
def Port.code : Port → Nat | .one => 1 | .two => 2
def Port.ofCode? : Nat → Option Port | 1 => some .one | 2 => some .two | _ => none

end Sys2Proof

namespace Sys2Proof.Machine

/-! ## Numbers as bytes -/

/-- A number in one byte. -/
def byte1 (n : Nat) : List Byte := [Byte.of n]

/-- A number in two bytes, little-endian. -/
def le16 (n : Nat) : List Byte := [Byte.of n, Byte.of (n / 256)]

/-- A number in four bytes, little-endian. -/
def le32 (n : Nat) : List Byte := [Byte.of n, Byte.of (n / 256), Byte.of (n / 65536), Byte.of (n / 16777216)]

/-- A signed number in two bytes, little-endian. -/
def leI16 (i : Int) : List Byte := le16 (BitVec.ofInt 16 i).toNat

/-- A signed number in four bytes, little-endian. -/
def leI32 (i : Int) : List Byte := le32 (BitVec.ofInt 32 i).toNat

/-- The unsigned byte at an offset. -/
def u8 (l : List Byte) (at_ : Nat) : Nat := (l.getD at_ 0).toNat

/-- The unsigned two-byte field at an offset. -/
def u16 (l : List Byte) (at_ : Nat) : Nat := u8 l at_ + 256 * u8 l (at_ + 1)

/-- The unsigned four-byte field at an offset. -/
def u32 (l : List Byte) (at_ : Nat) : Nat := u16 l at_ + 65536 * u16 l (at_ + 2)

/-- The signed two-byte field at an offset. -/
def i16 (l : List Byte) (at_ : Nat) : Int := (BitVec.ofNat 16 (u16 l at_)).toInt

/-- The signed four-byte field at an offset. -/
def i32 (l : List Byte) (at_ : Nat) : Int := (BitVec.ofNat 32 (u32 l at_)).toInt

/-- A one-byte count; above 255 the byte is a free value (log entry 4). -/
def countField (n : Nat) : List Byte := if n ≤ 255 then byte1 n else [Config.countByte n]

/-- A flags byte: the flags are bits 0, 1, 2, … in the order named (section 1.7). -/
def flagsByte (flags : List Bool) : Nat := flags.foldr (fun f acc => (if f then 1 else 0) + 2 * acc) 0

/-! ## Rounding -/

/-- "Nearest, ties away from zero" of an exact quotient with a positive divisor. -/
def roundAway (num : Int) (den : Nat) : Int :=
  if 0 ≤ num then (((2 * num.natAbs + den) / (2 * den) : Nat) : Int) else -(((2 * num.natAbs + den) / (2 * den) : Nat) : Int)

/-- A value clamped to a range. -/
def clampNat (lo hi v : Nat) : Nat := max lo (min hi v)

/-- A count that saturates at 65,535. -/
def sat16 (n : Nat) : Nat := min n Config.count16

/-! ## Frames -/

/-- One bit of the CRC-16 of R4, most significant bit first. -/
def crcBits : Nat → BitVec 16 → BitVec 16
  | 0, r => r
  | n + 1, r => crcBits n (if r.msb then (r <<< 1) ^^^ 0x1021#16 else r <<< 1)

/-- One byte of the CRC-16 of R4. -/
def crcByte (r : BitVec 16) (b : Byte) : BitVec 16 := crcBits 8 (r ^^^ (b.zeroExtend 16 <<< 8))

/-- The CRC-16 of R4: x^16 + x^12 + x^5 + 1, from 0xFFFF, no reflection, no inversion. -/
def crc16 (l : List Byte) : BitVec 16 := l.foldl crcByte 0xFFFF#16

/-- The bytes of a frame that its check covers (R4). -/
def Frame.covered (f : Frame) : List Byte := le16 f.body.length ++ [f.kind, f.tag] ++ f.body

/-- A frame as its bytes on the line (section 1.7). -/
def Frame.bytes (f : Frame) : List Byte := Config.sync :: (f.covered ++ le16 (crc16 f.covered).toNat)

/-! ## Result codes (section 1.4) -/

inductive Result where
  | ok | busy | wrongState | badFrame | badValue | unknownKind | full | notFound | switchOpen | tooLate | uncalibrated
  | storeFull | storeFailed | motion | outOfRange | bagHold | itemsPending | drawerOpen | notAllowed | starting | bagNotClear
  deriving DecidableEq, Repr

def Result.code : Result → Nat
  | .ok => 0x00 | .busy => 0x01 | .wrongState => 0x02 | .badFrame => 0x03 | .badValue => 0x04 | .unknownKind => 0x05
  | .full => 0x06 | .notFound => 0x07 | .switchOpen => 0x08 | .tooLate => 0x09 | .uncalibrated => 0x0A
  | .storeFull => 0x0B | .storeFailed => 0x0C | .motion => 0x0D | .outOfRange => 0x0E | .bagHold => 0x0F
  | .itemsPending => 0x10 | .drawerOpen => 0x11 | .notAllowed => 0x12 | .starting => 0x13 | .bagNotClear => 0x14

/-- A result with the fields that follow it in the reply body (R8). -/
structure Answer where
  result : Result
  fields : List Byte
  deriving DecidableEq, Repr

/-- A refused request: a body of the result code alone (R8). -/
def Answer.refuse (r : Result) : Answer := ⟨r, []⟩

/-- An accepted request with its fields. -/
def Answer.accept (fields : List Byte) : Answer := ⟨.ok, fields⟩

/-! ## Codes of enumerated fields and states -/

def ChState.code : ChState → Nat | .uncalibrated => 0 | .noZero => 1 | .weighing => 2 | .calibrating => 3 | .fault => 4
def Condition.code : Condition → Nat | .valid => 0 | .over => 1 | .under => 2 | .saturated => 3
def Cause.code : Cause → Nat | .none => 0 | .request => 1 | .switch => 2 | .reset => 3
def TxnState.code : TxnState → Nat | .idle => 0 | .opened => 1 | .tender => 2 | .closing => 3
def ReceiptState.code : ReceiptState → Nat | .none => 0 | .opened => 1 | .queued => 2 | .printed => 3 | .cancelled => 4
def EndCause.code : EndCause → Nat | .none => 0 | .closed => 1 | .aborted => 2 | .reset => 3
def PwState.code : PwState → Nat | .idle => 0 | .waitRearm => 1 | .waitStable => 2 | .storing => 3 | .detached => 4
def PwResult.code : PwResult → Nat
  | .none => 0 | .done => 1 | .cancelled => 2 | .expired => 3 | .priceOverflow => 4 | .storeFailed => 5 | .aborted => 6
def PwReason.code : PwReason → Nat
  | .none => 0 | .notRearmed => 1 | .motion => 2 | .over => 3 | .under => 4 | .saturated => 5 | .belowMin => 6
def SectorState.code : SectorState → Nat | .erased => 0 | .active => 1 | .full => 2 | .erasing => 3 | .retired => 4
def StoreCondition.code : StoreCondition → Nat | .normal => 0 | .noSpare => 1 | .storeFull => 2 | .failed => 3
def BagPhase.code : BagPhase → Nat | .inactive => 0 | .watching => 1 | .hold => 2
def ExceptionKind.code : ExceptionKind → Nat
  | .none => 0 | .unexpectedAdd => 1 | .unexpectedRemove => 2 | .notPlaced => 3 | .bagOverload => 4 | .scaleFault => 5
def Direction.code : Direction → Nat | .add => 0 | .remove => 1
def Origin.code : Origin → Nat | .host => 0 | .sale => 1
def Pass.code : Pass → Nat | .insertion => 0 | .withdrawal => 1
def TrackStatus.code : TrackStatus → Nat
  | .ok => 0 | .parityErr => 1 | .lrcErr => 2 | .noStart => 3 | .noEnd => 4 | .empty => 5
def DrawerState.code : DrawerState → Nat
  | .closed => 0 | .waitSupply => 1 | .kick => 2 | .hold => 3 | .opened => 4 | .overdue => 5 | .noOpen => 6
def KickReason.code : KickReason → Nat | .none => 0 | .sale => 1 | .noSale => 2
def Engine.code : Engine → Nat
  | .idle => 0 | .printing => 1 | .waitSupply => 2 | .waitStore => 3 | .cutting => 4 | .suspended => 5

/-! ## Requests (section 1.4) -/

/-- A request with its body fields as numbers, read by the layouts of section 1.4. A print body holds its records, with the
mark that the code of a CUT is one of those listed. -/
inductive Request where
  | ping | statusGet | laneReset
  | settingPut (block setting value : Nat)
  | settingGet (block setting : Nat)
  | noticeMask (mask : Nat)
  | attnBeep (count pitch : Nat)
  | attnSilence
  | weightGet (channel : Nat)
  | zero (channel : Nat)
  | tare (action : Nat) (value : Int)
  | calBegin (channel : Nat)
  | calPoint (point mass : Nat)
  | calParams (max : Int) (e n s tracking : Nat)
  | calCommit | calAbandon
  | txnOpen (laneTime : Nat)
  | txnTender (kind : Nat)
  | txnResume | txnClose | txnAbort
  | priceWeigh (unitPrice : Nat) (presetTare : Int) (flags : Nat) (tolerance : Int)
  | priceCancel
  | alibiRead (first count : Nat)
  | alibiRelease (upTo : Nat)
  | alibiInfo
  | expectAdd (ref : Nat) (weight tolerance : Int) (flags : Nat)
  | expectRemove (ref : Nat) (weight tolerance : Int)
  | bagClear
  | bagSkip (ref : Nat)
  | bagGet
  | cardArm (tracks : Nat)
  | cardDisarm | cardFetch
  | drawerOpen (port reason : Nat)
  | printRecords (records : List (PrintRecord × Bool))
  | printCancel | printResume
  deriving DecidableEq, Repr

/-- The Kind byte of a request (section 1.4). -/
def Request.kind : Request → Nat
  | .ping => 0x01 | .statusGet => 0x02 | .laneReset => 0x03 | .settingPut .. => 0x04 | .settingGet .. => 0x05
  | .noticeMask .. => 0x06 | .attnBeep .. => 0x08 | .attnSilence => 0x09 | .weightGet .. => 0x10 | .zero .. => 0x11
  | .tare .. => 0x12 | .calBegin .. => 0x14 | .calPoint .. => 0x15 | .calParams .. => 0x16 | .calCommit => 0x17
  | .calAbandon => 0x18 | .txnOpen .. => 0x20 | .txnTender .. => 0x21 | .txnResume => 0x22 | .txnClose => 0x23
  | .txnAbort => 0x24 | .priceWeigh .. => 0x25 | .priceCancel => 0x26 | .alibiRead .. => 0x28 | .alibiRelease .. => 0x29
  | .alibiInfo => 0x2A | .expectAdd .. => 0x2C | .expectRemove .. => 0x2D | .bagClear => 0x2E | .bagSkip .. => 0x2F
  | .bagGet => 0x30 | .cardArm .. => 0x31 | .cardDisarm => 0x32 | .cardFetch => 0x33 | .drawerOpen .. => 0x34
  | .printRecords .. => 0x36 | .printCancel => 0x37 | .printResume => 0x38

/-- The request kinds with their body lengths (section 1.4); PRINT_RECORDS has 1 to 1,024 bytes. -/
def requestLengths : List (Nat × Nat) :=
  [(0x01, 0), (0x02, 0), (0x03, 0), (0x04, 6), (0x05, 2), (0x06, 2), (0x08, 2), (0x09, 0), (0x10, 1), (0x11, 1), (0x12, 5),
   (0x14, 1), (0x15, 5), (0x16, 9), (0x17, 0), (0x18, 0), (0x20, 4), (0x21, 1), (0x22, 0), (0x23, 0), (0x24, 0), (0x25, 11)]
  ++ [(0x26, 0), (0x28, 5), (0x29, 4), (0x2A, 0), (0x2C, 11), (0x2D, 10), (0x2E, 0), (0x2F, 4), (0x30, 0), (0x31, 1),
   (0x32, 0), (0x33, 0), (0x34, 2), (0x37, 0), (0x38, 0)]

/-- The Kind byte of PRINT_RECORDS. -/
def printKind : Nat := 0x36

/-- Step 1 of R7: is the Kind a request kind of the table? -/
def knownKind (kind : Nat) : Bool := kind == printKind || requestLengths.any (fun x => x.1 == kind)

/-- One print record and the rest of the body (section 1.7), or none where no whole record of a known type begins. -/
def parseRecord : List Byte → Option ((PrintRecord × Bool) × List Byte)
  | [] => none
  | t :: rest =>
    match t.toNat with
    | 0x01 => if rest.length < 4 then none else some ((.receiptBegin (u32 rest 0), true), rest.drop 4)
    | 0x02 => if rest.length < 81 then none else some ((.raster (u8 rest 0) ((rest.drop 1).take 80), true), rest.drop 81)
    | 0x03 => if rest.length < 2 then none else some ((.feed (u16 rest 0), true), rest.drop 2)
    | 0x04 => if rest.length < 4 then none else some ((.weighedLine (u32 rest 0), true), rest.drop 4)
    | 0x05 => if rest.length < 1 then none else some ((.cut (u8 rest 0 == 1), u8 rest 0 ≤ 1), rest.drop 1)
    | 0x06 => some ((.receiptEnd, true), rest)
    | _ => none

/-- The records of a print body, or none where it is not a whole sequence of records; the bound is the body's length. -/
def parseRecordsN : Nat → List Byte → Option (List (PrintRecord × Bool))
  | _, [] => some []
  | 0, _ :: _ => none
  | n + 1, body =>
    match parseRecord body with
    | none => none
    | some (r, rest) => (parseRecordsN n rest).map (fun rs => r :: rs)

/-- A print body is a whole sequence of one or more records (R7). -/
def parseRecords (body : List Byte) : Option (List (PrintRecord × Bool)) :=
  if body.isEmpty then none else parseRecordsN body.length body

/-- Steps 1 and 2 of R7 passed: the request that a body of a known kind carries; none is BAD_FRAME. -/
def parseBody (kind : Nat) (b : List Byte) : Option Request :=
  if kind = printKind then (parseRecords b).map Request.printRecords
  else if requestLengths.contains (kind, b.length) then
    match kind with
    | 0x01 => some .ping
    | 0x02 => some .statusGet
    | 0x03 => some .laneReset
    | 0x04 => some (.settingPut (u8 b 0) (u8 b 1) (u32 b 2))
    | 0x05 => some (.settingGet (u8 b 0) (u8 b 1))
    | 0x06 => some (.noticeMask (u16 b 0))
    | 0x08 => some (.attnBeep (u8 b 0) (u8 b 1))
    | 0x09 => some .attnSilence
    | 0x10 => some (.weightGet (u8 b 0))
    | 0x11 => some (.zero (u8 b 0))
    | 0x12 => some (.tare (u8 b 0) (i32 b 1))
    | 0x14 => some (.calBegin (u8 b 0))
    | 0x15 => some (.calPoint (u8 b 0) (u32 b 1))
    | 0x16 => some (.calParams (i32 b 0) (u16 b 4) (u8 b 6) (u8 b 7) (u8 b 8))
    | 0x17 => some .calCommit
    | 0x18 => some .calAbandon
    | 0x20 => some (.txnOpen (u32 b 0))
    | 0x21 => some (.txnTender (u8 b 0))
    | 0x22 => some .txnResume
    | 0x23 => some .txnClose
    | 0x24 => some .txnAbort
    | 0x25 => some (.priceWeigh (u32 b 0) (i32 b 4) (u8 b 8) (i16 b 9))
    | 0x26 => some .priceCancel
    | 0x28 => some (.alibiRead (u32 b 0) (u8 b 4))
    | 0x29 => some (.alibiRelease (u32 b 0))
    | 0x2A => some .alibiInfo
    | 0x2C => some (.expectAdd (u32 b 0) (i32 b 4) (i16 b 8) (u8 b 10))
    | 0x2D => some (.expectRemove (u32 b 0) (i32 b 4) (i16 b 8))
    | 0x2E => some .bagClear
    | 0x2F => some (.bagSkip (u32 b 0))
    | 0x30 => some .bagGet
    | 0x31 => some (.cardArm (u8 b 0))
    | 0x32 => some .cardDisarm
    | 0x33 => some .cardFetch
    | 0x34 => some (.drawerOpen (u8 b 0) (u8 b 1))
    | 0x37 => some .printCancel
    | 0x38 => some .printResume
    | _ => none
  else none

/-- Step 4 of R7: every enumerated field holds a listed code and every flags field only defined bits. CAL_PARAMS's tracking and
the block and setting numbers are judged by their own rules (R53, R17). -/
def Request.fieldsOk : Request → Bool
  | .attnBeep _ pitch => pitch ≤ 2
  | .weightGet c => c ≤ 1
  | .zero c => c ≤ 1
  | .tare action _ => action ≤ 2
  | .calBegin c => c ≤ 1
  | .calPoint point _ => point ≤ 1
  | .txnTender kind => kind ≤ 2
  | .priceWeigh _ _ flags _ => flags ≤ 1
  | .expectAdd _ _ _ flags => flags ≤ 1
  | .noticeMask mask => mask ≤ 1023
  | .cardArm tracks => tracks ≤ 2
  | .drawerOpen port reason => (port == 1 || port == 2) && reason ≤ 1
  | .printRecords rs => rs.all (fun r => r.2)
  | _ => true

end Sys2Proof.Machine
end

