-- ==== Sys2Proof/Machine/Flags.lean ====
section
/-! DEFINITION. The flags of the part's messages: the flags byte of each notice and record field that has one, the notice
enable bits, and the suspension reasons as bits. -/

namespace Sys2Proof.Machine

/-- Flags of the weight report (R44): stable, centre of zero. -/
def reportFlags (stable centre : Bool) : Nat := flagsByte [stable, centre]

/-- Flags of the status record (section 1.7). -/
def statusFlags (starting switchClosed heldRead : Bool) : Nat := flagsByte [starting, switchClosed, heldRead]

/-- Flags of CAL_STATE (R62); the staged flags are clear whenever there is no session. -/
def calFlags (switchClosed : Bool) (session : Option Session) : Nat :=
  match session with
  | none => flagsByte [switchClosed]
  | some x => flagsByte [switchClosed, x.zeroStaged, x.spanStaged, x.paramsStaged]

/-- Tender flags of TXN_STATE (R78). -/
def tenderFlags (t : Txn) : Nat := flagsByte [t.tenderCash, t.tenderCard, t.tenderOther]

/-- Drawers fired of TXN_STATE (R78). -/
def firedFlags (t : Txn) : Nat := flagsByte [t.fired1, t.fired2]

/-- Flags of PRICE_RESULT (R95). -/
def priceFlags (p : Pricing) : Nat := flagsByte [p.rearm, p.reserved, p.preset]

/-- Flags of an alibi record (section 1.7). -/
def recordFlags : RecordBody → Nat
  | .sale r => flagsByte [r.presetTare, r.tarePresent]
  | .cal r => flagsByte [r.channel == .b, r.carried, r.cal.params.tracking]

/-- Flags of an entry in BAG_GET (R138): skippable, overdue, held. -/
def entryFlags (e : Expect) : Nat := flagsByte [e.skippable, e.overdue, e.held]

/-- Flags of BAG_STATE (R139): ref present, last matched ref present. -/
def bagFlags (b : Bag) : Nat := flagsByte [b.ref.isSome, b.lastMatched.isSome]

/-- Armed tracks of CARD_STATE (R159). -/
def armedFlags (c : Card) : Nat := flagsByte [c.armedA, c.armedB]

/-- Flags of CARD_STATE (R159): held read present, replaced, overflow, card left; the middle two are those of the held read. -/
def cardFlags (c : Card) : Nat :=
  match c.held with
  | none => flagsByte [false, false, false, c.cardLeft]
  | some r => flagsByte [true, r.replaced, r.overflow, c.cardLeft]

/-- Flags of a card read record (section 1.7). -/
def readFlags (r : CardRead) : Nat := flagsByte [r.trackA.isSome, r.trackB.isSome, r.replaced, r.overflow]

/-- Flags of DRAWER_STATE (R176): forced, sensor open, fitted. -/
def drawerFlags (d : Drawer) : Nat := flagsByte [d.forced, d.sensorOpen, d.fitted]

/-- The suspension reasons as bits (section 1.7). -/
def reasonBits (r : Reasons) : Nat := flagsByte [r.paperOut, r.coverOpen, r.headHot, r.lowSupply, r.cutterJam]

/-- Is any suspension reason set? -/
def Reasons.any (r : Reasons) : Bool := r.paperOut || r.coverOpen || r.headHot || r.lowSupply || r.cutterJam

/-- Flags of PRINT_STATE (R198): paper low, receipt open, damaged line. -/
def printFlags (p : Printer) : Nat := flagsByte [p.paperLow, p.openReceipt.isSome, p.damagedLine]

/-- The notice code of a slot (section 1.4). -/
def Slot.kind : Slot → Nat
  | .weightP | .weightB => 0x81
  | .priceResult => 0x82
  | .txnState => 0x83
  | .bagState => 0x84
  | .cardState => 0x85
  | .drawer1 | .drawer2 => 0x86
  | .printState => 0x87
  | .storeState => 0x88
  | .calState => 0x89
  | .laneReady => 0x8A

/-- Is a slot's notice enabled (R12)? The WEIGHT notice of channel B needs notices/weight_b besides its bit. -/
def Slot.enabled (mask : BitVec 10) (weightB : Bool) (k : Slot) : Bool :=
  mask.getLsbD (k.kind - 0x81) && (k != .weightB || weightB)

/-- The slots in the order in which the transmitter looks at them (R11). -/
def Slot.order : List Slot :=
  [.laneReady, .calState, .storeState, .priceResult, .txnState, .bagState, .drawer1, .drawer2, .cardState, .printState,
   .weightP, .weightB]

end Sys2Proof.Machine
end

