-- ==== Sys2Proof/Machine/Ops.lean ====
section
/-! DEFINITION. The named operations that every block shares: one setter for each block of the state, the clock, notice slots
(R10, R12), the reply queue (R9) and the transmitter's choice (R11). -/

namespace Sys2Proof.Machine

/-! ## Setters -/

def State.setClock (v : Nat) (s : State) : State := { s with clock := v }
def State.setLink (v : Link) (s : State) : State := { s with link := v }
def State.setChP (v : Channel) (s : State) : State := { s with chP := v }
def State.setChB (v : Channel) (s : State) : State := { s with chB := v }
def State.setCal (v : Calib) (s : State) : State := { s with cal := v }
def State.setTxn (v : Txn) (s : State) : State := { s with txn := v }
def State.setPw (v : Pricing) (s : State) : State := { s with pw := v }
def State.setStore (v : Store) (s : State) : State := { s with store := v }
def State.setFlash (v : List FlashSector) (s : State) : State := { s with flash := v }
def State.setBag (v : Bag) (s : State) : State := { s with bag := v }
def State.setCard (v : Card) (s : State) : State := { s with card := v }
def State.setSupply (v : Supply) (s : State) : State := { s with supply := v }
def State.setDrw1 (v : Drawer) (s : State) : State := { s with drw1 := v }
def State.setDrw2 (v : Drawer) (s : State) : State := { s with drw2 := v }
def State.setNoSale (v : Nat) (s : State) : State := { s with noSale := v }
def State.setPrn (v : Printer) (s : State) : State := { s with prn := v }
def State.setAttn (v : Attention) (s : State) : State := { s with attn := v }

/-- The channel a name stands for. -/
def State.ch (s : State) : Ch → Channel
  | .p => s.chP
  | .b => s.chB

def State.setCh (c : Ch) (v : Channel) (s : State) : State :=
  match c with
  | .p => s.setChP v
  | .b => s.setChB v

/-- The drawer port a name stands for. -/
def State.drw (s : State) : Port → Drawer
  | .one => s.drw1
  | .two => s.drw2

def State.setDrw (p : Port) (v : Drawer) (s : State) : State :=
  match p with
  | .one => s.setDrw1 v
  | .two => s.setDrw2 v

/-! ## Clock (log entry 2) -/

/-- A timer started now for a length in ms. -/
def State.timer (s : State) (ms : Nat) : Timer := some (s.clock + ms)

/-- The expiry of a timer happens at its moment: the clock stands there, if it stood earlier. -/
def State.atExpiry (t : Timer) (s : State) : State := s.setClock (max s.clock (t.getD 0))

/-! ## Notice slots -/

def Slots.get (x : Slots) : Slot → Option (List Byte)
  | .laneReady => x.laneReady
  | .calState => x.calState
  | .storeState => x.storeState
  | .priceResult => x.priceResult
  | .txnState => x.txnState
  | .bagState => x.bagState
  | .drawer1 => x.drawer1
  | .drawer2 => x.drawer2
  | .cardState => x.cardState
  | .printState => x.printState
  | .weightP => x.weightP
  | .weightB => x.weightB

def Slots.set (x : Slots) (k : Slot) (v : Option (List Byte)) : Slots :=
  match k with
  | .laneReady => { x with laneReady := v }
  | .calState => { x with calState := v }
  | .storeState => { x with storeState := v }
  | .priceResult => { x with priceResult := v }
  | .txnState => { x with txnState := v }
  | .bagState => { x with bagState := v }
  | .drawer1 => { x with drawer1 := v }
  | .drawer2 => { x with drawer2 := v }
  | .cardState => { x with cardState := v }
  | .printState => { x with printState := v }
  | .weightP => { x with weightP := v }
  | .weightB => { x with weightB := v }

/-- A block raises a notice (R10): the snapshot replaces any in the slot; a disabled kind leaves the slot as it is. -/
def State.raise (k : Slot) (body : List Byte) (s : State) : State :=
  if k.enabled s.link.mask s.link.weightB then s.setLink { s.link with slots := s.link.slots.set k (some body) } else s

/-- Every filled slot of a disabled kind is emptied (R12). -/
def Slots.keepEnabled (mask : BitVec 10) (weightB : Bool) (x : Slots) : Slots :=
  Slot.order.foldl (fun acc k => if k.enabled mask weightB then acc else acc.set k none) x

/-- notices/mask and notices/weight_b take new values (R12). -/
def State.setNotices (mask : BitVec 10) (weightB : Bool) (s : State) : State :=
  s.setLink { s.link with mask := mask, weightB := weightB, slots := s.link.slots.keepEnabled mask weightB }

/-! ## Reply queue -/

/-- The queue has a free place while fewer than 8 are reserved or filled (R9). -/
def Link.placeFree (l : Link) : Bool := l.reserved + l.replies.length < Config.replyPlaces

/-- A frame is taken: one place is reserved for its answer (R7). -/
def State.reservePlace (s : State) : State := s.setLink { s.link with reserved := s.link.reserved + 1 }

/-- A reply is produced: it fills a reserved place, behind every reply produced before it (R9). -/
def State.pushReply (f : Frame) (s : State) : State :=
  s.setLink { s.link with reserved := s.link.reserved - 1, replies := s.link.replies ++ [f] }

/-- The reply frame of a request kind (R8). -/
def replyFrame (kind : Nat) (tag : Byte) (a : Answer) : Frame :=
  { kind := Byte.of (kind + 0x40), tag := tag, body := Byte.of a.result.code :: a.fields }

/-- A reply is produced for a request of the given kind and tag (R8). -/
def State.reply (kind : Nat) (tag : Byte) (a : Answer) (s : State) : State := s.pushReply (replyFrame kind tag a)

/-! ## Transmitter -/

/-- The frame that an idle transmitter chooses (R11), with the slot it came from: the oldest filled reply, or else the first
filled notice slot. -/
def Link.choice (l : Link) : Option (Frame × Option Slot) :=
  match l.replies with
  | f :: _ => some (f, none)
  | [] =>
    (Slot.order.find? (fun k => (l.slots.get k).isSome)).map fun k =>
      ({ kind := Byte.of k.kind, tag := 0, body := (l.slots.get k).getD [] }, some k)

/-- An idle transmitter chooses its next frame and starts the first byte if HRDY is asserted (R3, R11); the slot chosen is
emptied (R10). A transmitter that is sending chooses nothing. -/
def Link.choose (l : Link) : Link :=
  match l.tx with
  | some _ => l
  | none =>
    match l.choice with
    | none => l
    | some (f, src) =>
      { l with
        tx := some { bytes := f.bytes, index := 0, inFlight := l.hrdy, isReply := src.isNone }
        slots := match src with
          | none => l.slots
          | some k => l.slots.set k none }

/-- What every step ends with: an idle transmitter chooses (R3). -/
def State.chooseFrame (s : State) : State := s.setLink s.link.choose

end Sys2Proof.Machine
end

