-- ==== Sys2Proof/Machine/Weighing.lean ====
section
/-! DEFINITION. Weighing channels (chapter 2): parameters, the filter, scaling, stability, zero, tare, conditions, the weight
report, the moves made by the calibration unit (R21), and WEIGHT_GET, ZERO and TARE. -/

namespace Sys2Proof.Machine

/-! ## Parameters (R24) -/

/-- The default parameters of a channel (R24). -/
def defaultParams : Ch → Params
  | .p => { max := 15000, e := 5, n := 8, s := 6, tracking := true }
  | .b => { max := 30000, e := 10, n := 16, s := 8, tracking := true }

/-- The calibration in force of a channel. -/
def State.inForce (s : State) : Ch → Option Calibration
  | .p => s.cal.inForceP
  | .b => s.cal.inForceB

/-- The parameters a channel uses: those of its calibration in force, or the defaults (R24). -/
def State.params (s : State) (c : Ch) : Params :=
  match s.inForce c with
  | some k => k.params
  | none => defaultParams c

def Params.maxMg (p : Params) : Int := 1000 * p.max
def Params.eMg (p : Params) : Nat := 1000 * p.e
/-- The initial-zero band, Max_mg / 10. -/
def Params.initialBand (p : Params) : Int := 100 * p.max
/-- The zero range, Max_mg / 50. -/
def Params.zeroRange (p : Params) : Int := 20 * p.max
/-- The overload limit, Max_mg + 9 × e_mg. -/
def Params.overLimit (p : Params) : Int := p.maxMg + 9 * p.eMg
/-- The underload limit, −20 × e_mg. -/
def Params.underLimit (p : Params) : Int := -(20 * (p.eMg : Int))

/-- Count states judge stability on counts, weight states on w_mg (R20). -/
def ChState.counts : ChState → Bool
  | .uncalibrated | .calibrating => true
  | _ => false

def ChState.weights : ChState → Bool
  | .noZero | .weighing => true
  | _ => false

/-! ## Filter, scaling, stability -/

/-- A sample at either end of the converter's range is saturated (R25). -/
def isSaturated (r : Int) : Bool := r == -8388608 || r == 8388607

/-- A value joins a window that keeps the last `n` (R25, R28). -/
def pushWindow (n : Nat) (l : List Int) (x : Int) : List Int := (l ++ [x]).drop (l.length + 1 - n)

/-- The filtered count of a full window: floor((2·sum + N) / (2N)) (R26). -/
def filtered (n : Nat) (l : List Int) : Int := (2 * l.sum + n).fdiv (2 * n)

/-- w_mg = (a − Zc) × Ms / (Cs − Zc), nearest, ties away from zero (R27). -/
def Calibration.scale (k : Calibration) (a : Int) : Int := roundAway ((a - k.zc) * k.ms) (k.cs - k.zc).natAbs

/-- A channel's scaled weight of a filtered count; 0 where no calibration is in force, which no weight state has. -/
def State.scale (s : State) (c : Ch) (a : Int) : Int :=
  match s.inForce c with
  | some k => k.scale a
  | none => 0

/-- Largest minus smallest of a window. -/
def spread : List Int → Int
  | [] => 0
  | x :: xs => xs.foldl max x - xs.foldl min x

/-- A reading is stable when the window holds S values within the limit (R28). -/
def windowStable (n : Nat) (limit : Int) (l : List Int) : Bool := l.length == n && decide (spread l ≤ limit)

/-! ## The reading under the present state (R30, R35, R40, R41, R34) -/

def Channel.grossMg (x : Channel) (w : Int) : Int := w - x.zo
def Channel.netMg (x : Channel) (w : Int) : Int := x.grossMg w - x.tare

/-- The condition of a reading (R40): the first test that applies. -/
def Channel.condition (x : Channel) (p : Params) (w : Int) : Condition :=
  if 0 < x.saturated then .saturated
  else if x.state = .weighing ∧ x.grossMg w > p.overLimit then .over
  else if x.state = .weighing ∧ x.grossMg w < p.underLimit then .under
  else .valid

/-- A weight rounded to the division, in grams (R41). -/
def Params.toDivision (p : Params) (mg : Int) : Int := p.e * roundAway mg p.eMg

/-- The weight report (R44): the latest reading under the channel's present state. -/
def Channel.report (x : Channel) (p : Params) (scale : Int → Int) : Report :=
  match x.latest with
  | none =>
    { state := x.state, condition := .valid, stable := false, centre := false, gross := 0, net := 0, tare := x.tare / 1000,
      raw := 0 }
  | some r =>
    let w := scale r.a
    let cond := x.condition p w
    let shown := x.state = .weighing ∧ cond = .valid
    { state := x.state, condition := cond, stable := r.stable
      centre := decide (shown ∧ 4 * (x.grossMg w).natAbs ≤ p.eMg)
      gross := if shown then p.toDivision (x.grossMg w) else 0
      net := if shown then p.toDivision (x.netMg w) else 0
      tare := x.tare / 1000
      raw := r.a }

def State.report (s : State) (c : Ch) : Report := (s.ch c).report (s.params c) (s.scale c)

/-- The weight report's bytes (R44). -/
def reportBytes (c : Ch) (r : Report) : List Byte :=
  [Byte.of c.code, Byte.of r.state.code, Byte.of r.condition.code, Byte.of (reportFlags r.stable r.centre)]
    ++ leI32 r.gross ++ leI32 r.net ++ leI32 r.tare ++ leI32 r.raw

/-- The WEIGHT slot of a channel (R10). -/
def weightSlot : Ch → Slot
  | .p => .weightP
  | .b => .weightB

/-- The raise test of WEIGHT (R45): the report differs, in a field other than the raw count, from the last raised one. -/
def State.raiseWeight (c : Ch) (s : State) : State :=
  let r := s.report c
  if (s.ch c).lastReport.map (fun q => { q with raw := 0 }) = some { r with raw := 0 } then s
  else (s.setCh c { s.ch c with lastReport := some r }).raise (weightSlot c) (reportBytes c r)

/-- Does a channel have a stable reading? One with no reading counts as not stable (R44). -/
def Channel.isStable (x : Channel) : Bool :=
  match x.latest with
  | some r => r.stable
  | none => false

/-- gross_mg of the latest reading (0 where there is none). -/
def State.latestGross (s : State) (c : Ch) : Int :=
  match (s.ch c).latest with
  | some r => (s.ch c).grossMg (s.scale c r.a)
  | none => 0

/-! ## Tare and zero -/

/-- A change of channel P's tare moves the re-arm reference while the flag is clear (R84). -/
def Pricing.shiftReference (x : Pricing) (oldTare newTare : Int) : Pricing :=
  if x.rearm then x else { x with reference := x.reference + oldTare / 1000 - newTare / 1000 }

/-- Channel P's tare takes a value in mg. Where that changes it, the reference moves with it, and the report with the latest
reading re-evaluated is compared against the last raised one (R35, R84, R43, R45). -/
def State.setTare (mg : Int) (s : State) : State :=
  if mg = s.chP.tare then s
  else
    let s := s.setPw (s.pw.shiftReference s.chP.tare mg)
    (s.setChP { s.chP with tare := mg }).raiseWeight .p

/-- The PRESET candidate of a value in grams (R38), or none where it is out of range. -/
def presetCandidate (p : Params) (value : Int) : Option Int :=
  if 0 < value ∧ value ≤ p.max then
    let c := p.eMg * roundAway (1000 * value) p.eMg
    if c = 0 ∨ c > p.maxMg then none else some c
  else none

/-- Is a priced weighing in flight (R79)? -/
def Pricing.inFlight (x : Pricing) : Bool :=
  match x.state with
  | .waitRearm | .waitStable | .storing => true
  | _ => false

/-- The refusal of a state in which a channel does not weigh (R31, R36, R66, R80). -/
def ChState.refusal : ChState → Option Result
  | .uncalibrated => some .uncalibrated
  | .noZero | .calibrating | .fault => some .wrongState
  | .weighing => none

/-! ## Moves made by the calibration unit (R21) -/

/-- The tare of channel P clears on these entries (R21). -/
def ChState.clearsTare : ChState → Bool
  | .uncalibrated | .noZero | .calibrating => true
  | _ => false

/-- The entry effects of a move on the channel's own state. In FAULT the move is made on the resume state. -/
def Channel.moved (x : Channel) (target : ChState) (nChanged : Bool) : Channel :=
  let from_ := if x.state = .fault then x.resume else x.state
  let x := if x.state = .fault then { x with resume := target } else { x with state := target }
  let x := if target = .noZero then { x with zo := 0, zoInit := 0 } else x
  let x := if target = .noZero ∨ target = .calibrating then { x with tracking := none } else x
  let x := if target = .noZero ∧ nChanged then { x with samples := [], saturated := 0, latest := none } else x
  if from_.counts = target.counts then x
  else { x with window := [], latest := x.latest.map fun r => { r with stable := false } }

/-- The calibration unit moves a channel (R21); a channel in FAULT stays in it, so that its state does not change (R45). -/
def State.moveChannel (c : Ch) (target : ChState) (nChanged : Bool) (s : State) : State :=
  let was := (s.ch c).state
  let s := s.setCh c ((s.ch c).moved target nChanged)
  let s := if c = .p ∧ target.clearsTare then s.setTare 0 else s
  if (s.ch c).state = was then s else s.raiseWeight c

/-! ## Requests -/

/-- WEIGHT_GET (R46). -/
def reqWeightGet (c : Ch) (s : State) : State × Answer := (s, .accept (reportBytes c (s.report c)))

/-- ZERO (R31). -/
def reqZero (c : Ch) (s : State) : State × Answer :=
  let x := s.ch c
  match x.state.refusal with
  | some r => (s, .refuse r)
  | none =>
    if c = .p ∧ s.pw.inFlight then (s, .refuse .busy)
    else if (c = .p ∧ x.tare ≠ 0) ∨ (c = .b ∧ s.bag.state ≠ .inactive) then (s, .refuse .wrongState)
    else if !x.isStable then (s, .refuse .motion)
    else if (s.report c).condition = .saturated
        ∨ ((x.zo + s.latestGross c - x.zoInit).natAbs : Int) > (s.params c).zeroRange then (s, .refuse .outOfRange)
    else
      let x := { x with
        zo := x.zo + s.latestGross c
        tracking := if (s.params c).tracking then s.timer Config.trackingMs else none }
      ((s.setCh c x).raiseWeight c, .accept [])

/-- The reply of an accepted TARE: the tare now held, in grams (R36). -/
def tareReply (s : State) : Answer := .accept (leI32 (s.chP.tare / 1000))

/-- TARE SEMI (R36, R37). -/
def tareSemi (s : State) : State × Answer :=
  if s.pw.inFlight then (s, .refuse .busy)
  else
    match s.chP.state.refusal with
    | some r => (s, .refuse r)
    | none =>
      let p := s.params .p
      let g := s.latestGross .p
      let c := p.eMg * roundAway g p.eMg
      if !s.chP.isStable then (s, .refuse .motion)
      else if (s.report .p).condition = .saturated ∨ ¬ (0 < g ∧ g ≤ p.maxMg) ∨ c = 0 ∨ c > p.maxMg then
        (s, .refuse .outOfRange)
      else
        let s := s.setTare c
        (s, tareReply s)

/-- TARE PRESET (R36, R38). -/
def tarePreset (value : Int) (s : State) : State × Answer :=
  if s.pw.inFlight then (s, .refuse .busy)
  else
    match s.chP.state.refusal with
    | some r => (s, .refuse r)
    | none =>
      match presetCandidate (s.params .p) value with
      | none => (s, .refuse .outOfRange)
      | some c =>
        let s := s.setTare c
        (s, tareReply s)

/-- TARE CLEAR (R36, R39). -/
def tareClear (s : State) : State × Answer :=
  if s.pw.inFlight then (s, .refuse .busy)
  else
    let s := s.setTare 0
    (s, tareReply s)

/-- TARE (R36): SEMI 0, PRESET 1, CLEAR 2; only PRESET reads the value. -/
def reqTare (action : Nat) (value : Int) (s : State) : State × Answer :=
  match action with
  | 0 => tareSemi s
  | 1 => tarePreset value s
  | _ => tareClear s

/-! ## Conversion, watchdog, tracking (without the users of a reading) -/

/-- The end of a FAULT at a conversion completion (R23). -/
def Channel.leaveFault (x : Channel) : Channel :=
  if x.state = .fault then { x with state := x.resume, samples := [], saturated := 0, window := [], latest := none } else x

/-- The sample joins the window with its saturation mark, and the watchdog is restarted (R25, R22). -/
def Channel.addSample (x : Channel) (n : Nat) (watchdog : Timer) (r : Int) : Channel :=
  let kept := pushWindow n x.samples r
  { x with samples := kept, saturated := (kept.filter isSaturated).length, watchdog := watchdog }

/-- The initial-zero test of R29 at a reading with weight `w`. -/
def Channel.initialZero (x : Channel) (p : Params) (stable : Bool) (w : Int) : Channel :=
  if x.state = .noZero ∧ stable ∧ x.saturated = 0 ∧ (w.natAbs : Int) ≤ p.initialBand then
    { x with state := .weighing, zo := w, zoInit := w }
  else x

/-- The tracking condition at a reading (R32). -/
def Channel.tracks (x : Channel) (p : Params) (stable : Bool) (w : Int) : Bool :=
  decide (x.state = .weighing ∧ p.tracking ∧ x.tare = 0 ∧ stable ∧ x.condition p w = .valid
    ∧ 2 * (x.grossMg w).natAbs ≤ p.eMg)

/-- The reading formed from a filtered count (R27, R28, R29, R32). -/
def Channel.formReading (x : Channel) (p : Params) (scale : Int → Int) (track : Timer) (a : Int) : Channel :=
  let w := scale a
  let q := if x.state.weights then w else a
  let limit := if x.state.weights then (p.eMg : Int) else 8
  let window := pushWindow p.s x.window q
  let stable := windowStable p.s limit window
  let x := { x with window := window, latest := some { a := a, stable := stable } }
  let x := x.initialZero p stable w
  { x with tracking := if x.tracks p stable w then x.tracking.or track else none }

/-- Does this conversion yield a reading? The window is full (R26). -/
def Channel.full (x : Channel) (n : Nat) : Bool := x.samples.length == n

/-- A conversion completion on the channel itself (R42): the state after it, before the reading is handed on. -/
def State.convert (c : Ch) (r : Int) (s : State) : State :=
  let p := s.params c
  let x := ((s.ch c).leaveFault).addSample p.n (s.timer Config.watchdogMs) r
  let x := if x.full p.n then x.formReading p (s.scale c) (s.timer Config.trackingMs) (filtered p.n x.samples) else x
  s.setCh c x

/-- The watchdog expires (R22): the channel enters FAULT. -/
def State.enterFault (c : Ch) (s : State) : State :=
  let x := s.ch c
  (s.setCh c { x with state := .fault, resume := x.state, latest := none, tracking := none, watchdog := none }).raiseWeight c

/-- The tracking step (R33). -/
def State.trackZero (c : Ch) (s : State) : State :=
  let x := s.ch c
  let range := (s.params c).zeroRange
  let zo := max (x.zoInit - range) (min (x.zoInit + range) (x.zo + s.latestGross c))
  (s.setCh c { x with zo := zo, tracking := s.timer Config.trackingMs }).raiseWeight c

/-- The tracking timer expires (R33). -/
def evTrackingStep (c : Ch) (s : State) : State :=
  match (s.ch c).tracking, (s.ch c).latest with
  | some t, some _ => (s.atExpiry (some t)).trackZero c
  | _, _ => s

end Sys2Proof.Machine
end

