-- ==== Sys2Proof/Machine/CalibrationCore.lean ====
section
/-! DEFINITION. The calibration unit as the store and lane reset reach it (chapter 3): the CAL_STATE notice, the limits and
relations of a calibration, the end of a commit, the end of a session. -/

namespace Sys2Proof.Machine

/-- Events of CAL_STATE (R62), codes 0 to 6. -/
inductive CalEvent where
  | none | switch | begun | committing | committed | failed | abandoned
  deriving DecidableEq, Repr

def CalEvent.code : CalEvent → Nat
  | .none => 0 | .switch => 1 | .begun => 2 | .committing => 3 | .committed => 4 | .failed => 5 | .abandoned => 6

/-- The session field of CAL_STATE (R62): NONE 0, OPEN 1, COMMITTING 2. -/
def sessionCode : Option Session → Nat
  | none => 0
  | some x => if x.committing then 2 else 1

/-- CAL_STATE (R62). -/
def Calib.bytes (k : Calib) (event : CalEvent) (cause : Cause) : List Byte :=
  [Byte.of (match k.session with | some x => x.channel | none => k.lastChannel).code, Byte.of (sessionCode k.session),
   Byte.of event.code, Byte.of cause.code, Byte.of (calFlags k.switchClosed k.session)]
    ++ le16 k.counterP ++ le16 k.counterB ++ le32 k.lastRecord

def State.raiseCal (event : CalEvent) (cause : Cause) (s : State) : State :=
  s.raise .calState (s.cal.bytes event cause)

/-- A channel's calibration counter. -/
def Calib.counter (k : Calib) : Ch → Nat
  | .p => k.counterP
  | .b => k.counterB

/-- A channel's counter and calibration in force take new values (R56, R61). -/
def Calib.install (k : Calib) (c : Ch) (counter : Nat) (cal : Calibration) : Calib :=
  match c with
  | .p => { k with counterP := counter, inForceP := some cal }
  | .b => { k with counterB := counter, inForceB := some cal }

/-- Greatest Max / e of a channel (R53). -/
def maxDivisions : Ch → Nat
  | .p => 6000
  | .b => 10000

/-- The limits of R53; tracking is a flag of its own. -/
def paramsOk (c : Ch) (max : Int) (e n s : Nat) : Bool :=
  [1, 2, 5, 10, 20, 50].contains e && decide (1 ≤ max ∧ max ≤ 60000) && decide (max % e = 0)
    && decide (max / e ≤ maxDivisions c) && [4, 8, 16, 32].contains n && decide (4 ≤ s ∧ s ≤ 16)

/-- The validity relations of R54. -/
def relationsOk (zc cs ms : Int) (p : Params) : Bool :=
  decide (zc < cs) && decide (100 * (p.max : Int) ≤ ms) && decide (4 * ms ≤ (cs - zc) * p.eMg)

/-- A CAL record is valid for its channel (R61). -/
def Calibration.valid (c : Ch) (k : Calibration) : Bool :=
  paramsOk c k.params.max k.params.e k.params.n k.params.s && relationsOk k.zc k.cs k.ms k.params

/-- The session leaves the unit. -/
def State.dropSession (s : State) : State := s.setCal { s.cal with session := none }

/-- The session ends without a commit: its channel returns to its home state (R58). -/
def State.endSession (x : Session) (s : State) : State := s.dropSession.moveChannel x.channel x.home false

/-- The store reports the CAL record written (R56). -/
def State.commitWritten (number : Nat) (r : CalFields) (s : State) : State :=
  match s.cal.session with
  | none => s
  | some x =>
    let nChanged := (s.params r.channel).n != r.cal.params.n
    let s := s.setCal { s.cal.install r.channel r.counter r.cal with lastRecord := number, session := none }
    (s.moveChannel r.channel .noZero nChanged).raiseCal .committed (if x.endMark then x.cause else .none)

/-- The store reports the CAL record failed (R57). -/
def State.commitFailed (s : State) : State :=
  match s.cal.session with
  | none => s
  | some x =>
    if x.endMark then (s.endSession x).raiseCal .failed x.cause
    else (s.setCal { s.cal with session := some { x with committing := false } }).raiseCal .failed .none

/-- Lane reset of the session (R60). -/
def State.resetSession (s : State) : State :=
  match s.cal.session with
  | none => s
  | some x =>
    if x.committing then s.setCal { s.cal with session := some { x with endMark := true, cause := .reset } }
    else (s.endSession x).raiseCal .abandoned .reset

end Sys2Proof.Machine
end

