-- ==== Sys2Proof/Machine/Attention.lean ====
section
/-! DEFINITION. Lane attention outputs (chapter 11): sources, the tone and the lamp, ATTN_BEEP and ATTN_SILENCE. -/

namespace Sys2Proof.Machine

def Attention.get (x : Attention) : SourceName → Source
  | .bagHold => x.bagHold
  | .drawerForced => x.drawerForced
  | .drawerOverdue => x.drawerOverdue
  | .cardLeft => x.cardLeft
  | .hostBeep => x.hostBeep
  | .accept => x.accept

def Attention.set (x : Attention) (k : SourceName) (v : Source) : Attention :=
  match k with
  | .bagHold => { x with bagHold := v }
  | .drawerForced => { x with drawerForced := v }
  | .drawerOverdue => { x with drawerOverdue := v }
  | .cardLeft => { x with cardLeft := v }
  | .hostBeep => { x with hostBeep := v }
  | .accept => { x with accept := v }

/-- The sources from the highest priority to the lowest. -/
def SourceName.order : List SourceName := [.bagHold, .drawerForced, .drawerOverdue, .cardLeft, .hostBeep, .accept]

/-- An assertion event (R199): the source becomes active and unmuted, and its cadence starts now. -/
def State.assertSource (k : SourceName) (s : State) : State :=
  s.setAttn (s.attn.set k { active := true, muted := false, start := s.clock })

/-- A source becomes inactive, and its muted flag is cleared (R199). -/
def State.endSource (k : SourceName) (s : State) : State :=
  s.setAttn (s.attn.set k { s.attn.get k with active := false, muted := false })

/-- An asserter releases a source: it becomes inactive when no other asserter holds it (R199). -/
def State.releaseSource (k : SourceName) (stillAsserted : Bool) (s : State) : State :=
  if stillAsserted then s else s.endSource k

/-- The played source (R200): the active, unmuted source of highest priority. -/
def Attention.played (x : Attention) : Option SourceName :=
  SourceName.order.find? fun k => (x.get k).active && !(x.get k).muted

/-- The pitch of ATTN_BEEP's code (R202), in Hz. -/
def beepHz : Nat → Nat
  | 0 => 2000
  | 1 => 2400
  | _ => 3000

/-- The pattern of a source `t` ms after its cadence start, in Hz, or none in an off part (table of chapter 11). -/
def Attention.pattern (x : Attention) (k : SourceName) (t : Nat) : Option Nat :=
  match k with
  | .bagHold => if t % 500 < 250 then some 2400 else none
  | .drawerForced => some 3000
  | .drawerOverdue => if t % 2000 < 100 then some 2000 else none
  | .cardLeft => if t % 3000 < 100 || (200 ≤ t % 3000 && t % 3000 < 300) then some 2000 else none
  | .hostBeep => if t % 200 < 100 && t < x.beepCount * Config.beepMs then some (beepHz x.beepPitch) else none
  | .accept => if t < Config.acceptMs then some 3000 else none

/-- The tone output at the clock's moment (R200): silent while attention/tone is 0. -/
def State.toneOutput (s : State) : Option Nat :=
  if s.attn.tone then
    match s.attn.played with
    | none => none
    | some k => s.attn.pattern k (s.clock - (s.attn.get k).start)
  else none

/-- The attendant lamp (R201). -/
def State.lamp (s : State) : Bool :=
  s.attn.bagHold.active || s.attn.drawerForced.active || s.attn.drawerOverdue.active || s.attn.cardLeft.active

/-- Active sources, bit 0 for BAG_HOLD (R202). -/
def Attention.activeBits (x : Attention) : Nat := flagsByte (SourceName.order.map fun k => (x.get k).active)

/-- Muted sources, bit 0 for BAG_HOLD (R202). -/
def Attention.mutedBits (x : Attention) : Nat := flagsByte (SourceName.order.map fun k => (x.get k).muted)

/-- Every active source is muted (R202). -/
def Attention.silence (x : Attention) : Attention :=
  SourceName.order.foldl (fun acc k => if (acc.get k).active then acc.set k { acc.get k with muted := true } else acc) x

/-- Every source is unmuted (R204). -/
def Attention.unmute (x : Attention) : Attention :=
  SourceName.order.foldl (fun acc k => acc.set k { acc.get k with muted := false }) x

/-- ATTN_SILENCE (R202). -/
def reqAttnSilence (s : State) : State × Answer :=
  let s := s.setAttn s.attn.silence
  (s, .accept [Byte.of s.attn.activeBits, Byte.of s.attn.mutedBits])

/-- ATTN_BEEP (R202): an assertion event of HOST_BEEP, which lasts count × 200 ms. -/
def reqAttnBeep (count pitch : Nat) (s : State) : State × Answer :=
  if 1 ≤ count ∧ count ≤ 9 then
    let s := s.assertSource .hostBeep
    (s.setAttn { s.attn with beepCount := count, beepPitch := pitch, beepEnd := s.timer (count * Config.beepMs) }, .accept [])
  else (s, .refuse .badValue)

/-- HOST_BEEP becomes inactive (R202, R204). -/
def State.endBeep (s : State) : State :=
  let s := s.endSource .hostBeep
  s.setAttn { s.attn with beepEnd := none }

/-- A pulse of ACCEPT (R203). -/
def State.pulseAccept (s : State) : State :=
  let s := s.assertSource .accept
  s.setAttn { s.attn with acceptEnd := s.timer Config.acceptMs }

/-- HOST_BEEP's count × 200 ms elapse (R202). -/
def evHostBeepEnd (s : State) : State :=
  match s.attn.beepEnd with
  | none => s
  | some t => (s.atExpiry (some t)).endBeep

/-- The 40 ms of ACCEPT elapse (R203). -/
def evAcceptEnd (s : State) : State :=
  match s.attn.acceptEnd with
  | none => s
  | some t =>
    let s := (s.atExpiry (some t)).endSource .accept
    s.setAttn { s.attn with acceptEnd := none }

end Sys2Proof.Machine
end

