-- ==== Sys2Proof/Machine/Bagging.lean ====
section
/-! DEFINITION. Bagging-area verification (chapter 7): expectations, settles and their matching, holds and their clearing, and
the verifier's requests. -/

namespace Sys2Proof.Machine

/-- The bag-skip count of the transaction context increases (R76). -/
def State.addBagSkip (n : Nat) (s : State) : State := s.setTxn { s.txn with bagSkip := sat16 (s.txn.bagSkip + n) }

/-- e of channel B, in grams. -/
def State.eB (s : State) : Int := (s.params .b).e

/-- The noise band in grams (R119). -/
def State.noiseBand (s : State) : Int := s.bag.band * s.eB

/-- A tolerance clamped up to e of channel B (R82, R122, R123). -/
def State.clampTolerance (s : State) (t : Int) : Int := max s.eB t

/-! ## The BAG_STATE notice (R139) -/

/-- A ref field: the ref, or a free value where it is absent (log entry 6). -/
def refField : Option Nat → List Byte
  | some r => le32 r
  | none => le32 Config.absentRef.toNat

def State.bagBytes (s : State) : List Byte :=
  let b := s.bag
  [Byte.of b.state.code, Byte.of b.kind.code] ++ leI32 b.delta ++ byte1 (bagFlags b) ++ refField b.ref ++ leI32 b.baseline
    ++ byte1 b.entries.length ++ byte1 b.reserved ++ refField b.lastMatched ++ le16 s.txn.bagSkip

def State.raiseBag (s : State) : State := s.raise .bagState s.bagBytes

/-! ## Entries -/

/-- An entry's window contains a weight, ends included (R120). -/
def inWindow (expected tolerance d : Int) : Bool := decide (expected - tolerance ≤ d ∧ d ≤ expected + tolerance)

/-- The entries together with the reservations fill the 16 places (R120). -/
def Bag.placesFull (b : Bag) : Bool := decide (Config.expectPlaces ≤ b.entries.length + b.reserved)

/-- The positions of the ADD entries, oldest first, with the entries. -/
def addEntries (l : List Expect) : List (Expect × Nat) := l.zipIdx.filter fun x => x.1.dir == .add

/-- All pairs of a list, the first member's position first (R130). -/
def pairsOf {α : Type} : List α → List (α × α)
  | [] => []
  | x :: xs => xs.map (fun y => (x, y)) ++ pairsOf xs

/-- The positions of the ADD entries that an increase of `d` matches (R130): one, a pair, or none. -/
def matchIncrease (pairMatch : Bool) (l : List Expect) (d : Int) : List Nat :=
  match (addEntries l).find? (fun x => inWindow x.1.expected x.1.tolerance d) with
  | some x => [x.2]
  | none =>
    if pairMatch then
      match (pairsOf ((addEntries l).take 4)).find? (fun x =>
          inWindow (x.1.1.expected + x.2.1.expected) (x.1.1.tolerance + x.2.1.tolerance) d) with
      | some x => [x.1.2, x.2.2]
      | none => []
    else []

/-- The entries at some positions, oldest first. -/
def pickAt (l : List Expect) (at_ : List Nat) : List Expect := (l.zipIdx.filter fun x => at_.contains x.2).map Prod.fst

/-- The entries at all other positions. -/
def dropAt (l : List Expect) (at_ : List Nat) : List Expect := (l.zipIdx.filter fun x => !at_.contains x.2).map Prod.fst

/-- The position of the oldest entry of a direction that bears a ref (R123, R137). -/
def findRef (dir : Direction) (ref : Nat) (l : List Expect) : Option Nat :=
  l.findIdx? fun e => e.dir == dir && e.ref == ref

/-- The held flag of the entry at a position alone. -/
def markHeld (held : Option Nat) (l : List Expect) : List Expect :=
  l.zipIdx.map fun x => { x.1 with held := held == some x.2 }

/-- The bagged item of a matched entry (R124). -/
def Expect.toBagged (e : Expect) : Bagged := { ref := e.ref, expected := e.expected, tolerance := e.tolerance }

/-! ## Holds -/

/-- The verifier enters HOLD with an exception record (R132). A record that replaces another (R133) is no assertion event. -/
def State.beginHold (kind : ExceptionKind) (delta : Int) (ref held : Option Nat) (s : State) : State :=
  let was := s.bag.state
  let s := s.setBag { s.bag with state := .hold, kind := kind, delta := delta, ref := ref,
                                 entries := markHeld held s.bag.entries }
  if was = .hold then s else s.assertSource .bagHold

/-- The NOT_PLACED hold of the overdue entry at a position (R125, R135). -/
def State.holdNotPlaced (at_ : Nat) (s : State) : State :=
  s.beginHold .notPlaced 0 ((s.bag.entries[at_]?).map (·.ref)) (some at_)

/-- A hold clears (R135): the record becomes NONE and BAG_HOLD is released, and the first overdue ADD entry, if any, becomes
the held entry of a new NOT_PLACED hold. The record NONE has delta 0 and no ref (DESIGN CHOICE, log entry 60). -/
def State.clearHold (s : State) : State :=
  let s := s.setBag { s.bag with state := .watching, kind := .none, delta := 0, ref := none,
                                 entries := markHeld none s.bag.entries }
  let s := s.endSource .bagHold
  match s.bag.entries.findIdx? (fun e => e.dir == .add && e.overdue) with
  | some i => s.holdNotPlaced i
  | none => s

/-- The accept chirp at a matched settle (R130, R203). -/
def State.chirp (s : State) : State := if s.bag.acceptChirp then s.pulseAccept else s

/-! ## Settles -/

/-- The effects of a matched increase (R130). -/
def State.acceptIncrease (at_ : List Nat) (gross : Int) (s : State) : State :=
  let got := pickAt s.bag.entries at_
  let s := s.setBag { s.bag with
    entries := dropAt s.bag.entries at_
    bagged := ((got.reverse.map Expect.toBagged) ++ s.bag.bagged).take Config.baggedPlaces
    lastMatched := (got.getLast?.map (·.ref)).or s.bag.lastMatched
    baseline := gross }
  s.chirp

/-- The first of a list of bagged items that bears a ref leaves it (R131). -/
def dropBagged (ref : Nat) (l : List Bagged) : List Bagged := l.eraseP fun x => x.ref == ref

/-- A decrease (R131). -/
def State.decrease (d gross : Int) (s : State) : State :=
  match s.bag.entries.findIdx? (fun e => e.dir == .remove && inWindow e.expected e.tolerance (-d)) with
  | some i =>
    let ref := ((s.bag.entries[i]?).map (·.ref)).getD 0
    let s := s.setBag { s.bag with
      entries := dropAt s.bag.entries [i], bagged := dropBagged ref s.bag.bagged, baseline := gross }
    s.chirp
  | none =>
    s.beginHold .unexpectedRemove d
      ((s.bag.bagged.find? fun x => inWindow x.expected x.tolerance (-d)).map (·.ref)) none

/-- A reading examined in WATCHING (R129). -/
def State.watch (r : Report) (s : State) : State :=
  if r.condition = .over then s.beginHold .bagOverload 0 none none
  else if r.condition = .valid ∧ r.stable ∧ s.noiseBand < ((r.gross - s.bag.baseline).natAbs : Int) then
    let d := r.gross - s.bag.baseline
    if 0 < d then
      match matchIncrease s.bag.pairMatch s.bag.entries d with
      | [] => s.beginHold .unexpectedAdd d none none
      | at_ => s.acceptIncrease at_ r.gross
    else s.decrease d r.gross
  else s

/-- A reading examined in HOLD (R134). -/
def State.watchHold (r : Report) (s : State) : State :=
  let d := r.gross - s.bag.baseline
  match s.bag.kind with
  | .bagOverload =>
    if r.condition = .over then s
    else
      let s := s.clearHold
      if s.bag.state = .watching then s.watch r else s
  | .unexpectedAdd | .unexpectedRemove =>
    if r.condition = .over then s.beginHold .bagOverload 0 none none
    else if r.condition = .valid ∧ r.stable ∧ (d.natAbs : Int) ≤ s.noiseBand then s.clearHold
    else s
  | .notPlaced =>
    if r.condition = .over then s.beginHold .bagOverload 0 none none
    else if r.condition = .valid ∧ r.stable ∧ s.noiseBand < d then
      let at_ := matchIncrease s.bag.pairMatch s.bag.entries d
      if at_ = [] then s
      else
        let heldMatched := (pickAt s.bag.entries at_).any (·.held)
        let s := s.acceptIncrease at_ r.gross
        if heldMatched then s.clearHold else s
    else s
  | .scaleFault | .none => s

/-- A reading of channel B reaches the verifier (R129, R134). -/
def State.bagReading (s : State) : State :=
  match s.bag.state with
  | .inactive => s
  | .watching => s.watch (s.report .b)
  | .hold => s.watchHold (s.report .b)

/-- Channel B's entry into FAULT (R133). -/
def State.bagFault (s : State) : State :=
  if s.bag.state = .inactive ∨ s.bag.kind = .scaleFault then s else s.beginHold .scaleFault 0 none none

/-- Channel B's return to WEIGHING from FAULT (R133). -/
def State.bagFaultEnd (s : State) : State :=
  if s.bag.state = .hold ∧ s.bag.kind = .scaleFault then s.clearHold else s

/-! ## Reservations (R121) -/

def State.reserveSlot (s : State) : State := s.setBag { s.bag with reserved := s.bag.reserved + 1 }

def State.releaseSlot (s : State) : State := s.setBag { s.bag with reserved := 0 }

/-- A reservation becomes an ADD entry; where the verifier has emptied it already, nothing happens (R121). -/
def State.convertSlot (ref : Nat) (expected tolerance : Int) (s : State) : State :=
  if s.bag.reserved = 0 then s
  else
    s.setBag { s.bag with
      reserved := 0
      entries := s.bag.entries ++ [{ dir := .add, ref := ref, origin := .sale, expected := expected, tolerance := tolerance,
                                     skippable := false, deadline := s.timer (s.bag.placementS * 1000), overdue := false,
                                     held := false }] }

/-! ## The course of a transaction -/

/-- Verification begins at an accepted TXN_OPEN (R126), with no exception (log entry 60). -/
def State.bagBegin (gross : Int) (s : State) : State :=
  s.setBag { s.bag with state := .watching, baseline := gross, bagged := [], kind := .none, delta := 0, ref := none,
                        lastMatched := none }

/-- An accepted TXN_OPEN while verification is disabled (R126). -/
def State.bagOpenDisabled (s : State) : State :=
  let had := !s.bag.bagged.isEmpty
  let s := s.setBag { s.bag with bagged := [] }
  if had then s.raiseBag else s

/-- Verification ends (R127), with no exception (log entry 60). -/
def State.bagEnd (s : State) : State :=
  if s.bag.state = .inactive then s
  else
    let s := s.setBag { s.bag with state := .inactive, entries := [], reserved := 0, kind := .none, delta := 0, ref := none }
    s.endSource .bagHold

/-- bagging/enable as last written comes into effect (R119). -/
def State.applyEnable (s : State) : State := s.setBag { s.bag with enabled := s.bag.enableSet }

/-- The skippable ADD entries leave at an accepted tender (R128). -/
def State.dropSkippable (s : State) : State :=
  let goes := fun e : Expect => e.dir == .add && e.skippable
  let n := (s.bag.entries.filter goes).length
  (s.setBag { s.bag with entries := s.bag.entries.filter fun e => !goes e }).addBagSkip n

/-- The verifier's own lane reset beyond the end of verification (R127). -/
def State.bagReset (s : State) : State :=
  let s := s.bagEnd
  s.setBag { s.bag with bagged := [], baseline := 0, lastMatched := none }

/-! ## Deadlines (R125) -/

def evDeadlineExpiry (index : Nat) (s : State) : State :=
  match s.bag.entries[index]? with
  | none => s
  | some e =>
    if s.bag.state = .inactive ∨ e.dir = .remove ∨ e.deadline = none then s
    else
      let s := s.atExpiry e.deadline
      let s :=
        if e.skippable then (s.setBag { s.bag with entries := dropAt s.bag.entries [index] }).addBagSkip 1
        else
          let s := s.setBag { s.bag with entries := s.bag.entries.set index { e with deadline := none, overdue := true } }
          if s.bag.state = .watching then s.holdNotPlaced index else s
      s.raiseBag

/-! ## Requests -/

/-- EXPECT_ADD (R122). -/
def reqExpectAdd (ref : Nat) (weight tolerance : Int) (flags : Nat) (s : State) : State × Answer :=
  if s.txn.state ≠ .opened then (s, .refuse .wrongState)
  else if s.bag.state = .inactive then (s, .refuse .notAllowed)
  else if ¬ (1 ≤ weight ∧ weight ≤ (s.params .b).max) then (s, .refuse .badValue)
  else if s.bag.placesFull then (s, .refuse .full)
  else
    let tol := s.clampTolerance tolerance
    (s.setBag { s.bag with
       entries := s.bag.entries ++ [{ dir := .add, ref := ref, origin := .host, expected := weight, tolerance := tol,
                                      skippable := flags % 2 == 1, deadline := s.timer (s.bag.placementS * 1000),
                                      overdue := false, held := false }] },
     .accept (leI16 tol))

/-- The reply fields of EXPECT_REMOVE (R123). -/
def removeReply (outcome : Nat) (expected tolerance : Int) : Answer :=
  .accept (byte1 outcome ++ leI32 expected ++ leI16 tolerance)

/-- An entry leaves the queue on the host's word; if it was the held entry, the hold clears (R123, R135, R137). -/
def State.withdraw (i : Nat) (e : Expect) (s : State) : State :=
  let s := s.setBag { s.bag with entries := dropAt s.bag.entries [i] }
  if e.held then s.clearHold else s

/-- EXPECT_REMOVE (R123). -/
def reqExpectRemove (ref : Nat) (weight tolerance : Int) (s : State) : State × Answer :=
  if s.txn.state ≠ .opened ∧ s.txn.state ≠ .tender then (s, .refuse .wrongState)
  else if s.bag.state = .inactive then (s, .refuse .notAllowed)
  else if ¬ (0 ≤ weight ∧ weight ≤ (s.params .b).max) then (s, .refuse .badValue)
  else
    match (findRef .add ref s.bag.entries).bind (fun i => (s.bag.entries[i]?).map fun e => (i, e)) with
    | some (i, e) => (s.withdraw i e, removeReply 0 e.expected e.tolerance)
    | none =>
      match if weight = 0 then (s.bag.bagged.find? (fun x => x.ref == ref)).map (·.expected) else some weight with
      | none => (s, .refuse .notFound)
      | some expected =>
        if s.bag.placesFull then (s, .refuse .full)
        else
          let tol := s.clampTolerance tolerance
          (s.setBag { s.bag with
             entries := s.bag.entries ++ [{ dir := .remove, ref := ref, origin := .host, expected := expected,
                                            tolerance := tol, skippable := false, deadline := none, overdue := false,
                                            held := false }] },
           removeReply 1 expected tol)

/-- BAG_CLEAR (R136). -/
def reqBagClear (s : State) : State × Answer :=
  if s.bag.state ≠ .hold then (s, .refuse .wrongState)
  else if s.bag.kind = .bagOverload ∨ s.bag.kind = .scaleFault then (s, .refuse .notAllowed)
  else if !s.chB.isStable then (s, .refuse .motion)
  else if (s.report .b).condition ≠ .valid then (s, .refuse .outOfRange)
  else
    let gross := (s.report .b).gross
    let s := s.setBag { s.bag with baseline := gross }
    let s :=
      if s.bag.kind = .notPlaced then
        (s.setBag { s.bag with entries := s.bag.entries.filter fun e => !e.held }).addBagSkip 1
      else s
    (s.clearHold, .accept (leI32 gross))

/-- BAG_SKIP (R137). -/
def reqBagSkip (ref : Nat) (s : State) : State × Answer :=
  if s.txn.state ≠ .opened ∧ s.txn.state ≠ .tender then (s, .refuse .wrongState)
  else if s.bag.state = .inactive then (s, .refuse .notAllowed)
  else
    match ((findRef .add ref s.bag.entries).or (findRef .remove ref s.bag.entries)).bind
        (fun i => (s.bag.entries[i]?).map fun e => (i, e)) with
    | none => (s, .refuse .notFound)
    | some (i, e) => ((s.addBagSkip 1).withdraw i e, .accept (byte1 e.dir.code))

/-- Time left before an entry's deadline in ms (R138). -/
def Expect.timeLeft (clock : Nat) (e : Expect) : Nat := e.deadline.getD clock - clock

/-- The block of one entry in BAG_GET (R138). -/
def entryBytes (clock : Nat) (e : Expect) : List Byte :=
  byte1 e.dir.code ++ le32 e.ref ++ byte1 e.origin.code ++ leI32 e.expected ++ leI16 e.tolerance ++ byte1 (entryFlags e)
    ++ le16 (e.timeLeft clock)

/-- The block of one bagged item in BAG_GET (R138). -/
def baggedBytes (x : Bagged) : List Byte := le32 x.ref ++ leI32 x.expected ++ leI16 x.tolerance

/-- BAG_GET (R138). -/
def reqBagGet (s : State) : State × Answer :=
  let b := s.bag
  (s, .accept ([Byte.of b.state.code, Byte.of b.kind.code] ++ leI32 b.delta ++ byte1 (flagsByte [b.ref.isSome])
    ++ refField b.ref ++ leI32 b.baseline ++ byte1 b.reserved ++ le16 s.txn.bagSkip
    ++ byte1 b.entries.length ++ (b.entries.map (entryBytes s.clock)).flatten
    ++ byte1 b.bagged.length ++ (b.bagged.map baggedBytes).flatten))

end Sys2Proof.Machine
end

