-- ==== Sys2Proof/Machine/Context.lean ====
section
/-! DEFINITION. The transaction context as the other blocks see it (chapter 4): the TXN_STATE notice, the closing condition, and
the fields that other blocks write. The transaction's requests stand in Transaction.lean. -/

namespace Sys2Proof.Machine

/-- TXN_STATE (R78). -/
def Txn.bytes (t : Txn) : List Byte :=
  le32 t.number ++ [Byte.of t.state.code, Byte.of t.receipt.code, Byte.of (tenderFlags t), Byte.of (firedFlags t)]
    ++ byte1 t.sales.length ++ byte1 (t.sales.countP (·.queued)) ++ byte1 (t.sales.countP (·.printed))
    ++ le16 t.bagSkip ++ byte1 (flagsByte [t.inFlight]) ++ byte1 t.endCause.code ++ le32 t.laneTime

def State.raiseTxn (s : State) : State := s.raise .txnState s.txn.bytes

/-- The number that blocks label their output with (R64): 0 in IDLE. -/
def Txn.label (t : Txn) : Nat := if t.state = .idle then 0 else t.number

/-- A port's state that keeps a fired port unfinished (R71). -/
def DrawerState.unfinished : DrawerState → Bool
  | .kick | .hold | .waitSupply | .opened | .overdue => true
  | .closed | .noOpen => false

/-- Is a port in the drawers-fired set? -/
def Txn.fired (t : Txn) : Port → Bool
  | .one => t.fired1
  | .two => t.fired2

/-- A port joins the drawers-fired set (R75). -/
def Txn.fire (t : Txn) : Port → Txn
  | .one => { t with fired1 := true }
  | .two => { t with fired2 := true }

/-- The receipt states of the closing condition (R71). -/
def ReceiptState.finished : ReceiptState → Bool
  | .none | .printed | .cancelled => true
  | .opened | .queued => false

/-- The closing condition (R71). -/
def State.closingHolds (s : State) : Bool :=
  s.txn.receipt.finished && !(s.txn.fired1 && s.drw1.state.unfinished) && !(s.txn.fired2 && s.drw2.state.unfinished)

/-- The transaction reaches IDLE with an end cause; a held bagging/enable comes into effect (R71, R72, R119). -/
def State.txnToIdle (cause : EndCause) (s : State) : State :=
  (s.setTxn { s.txn with state := .idle, endCause := cause }).applyEnable

/-- The closing condition is examined (R71). -/
def State.examineClosing (s : State) : State :=
  if s.txn.state = .closing ∧ s.closingHolds then s.txnToIdle .closed else s

/-- The receipt state changes, and the closing condition is examined (R74). -/
def State.setReceipt (r : ReceiptState) (s : State) : State := (s.setTxn { s.txn with receipt := r }).examineClosing

/-- The receipt of the current transaction, if open or queued, is cancelled (R74). -/
def State.cancelReceiptState (s : State) : State :=
  if s.txn.receipt = .opened ∨ s.txn.receipt = .queued then s.setReceipt .cancelled else s

/-- A port has changed state: a port in the drawers-fired set reports it (R71, R176). -/
def State.portChanged (p : Port) (s : State) : State := if s.txn.fired p then s.examineClosing else s

/-- The entry of an alibi number on the weighed-sale list. -/
def Txn.sale? (t : Txn) (number : Nat) : Option Sale := t.sales.find? fun x => x.number == number

/-- A change to the entry of an alibi number. -/
def Txn.mapSale (t : Txn) (number : Nat) (f : Sale → Sale) : Txn :=
  { t with sales := t.sales.map fun x => if x.number = number then f x else x }

end Sys2Proof.Machine
end

