-- ==== Sys2Proof/Machine/Framer.lean ====
section
/-! DEFINITION. The framer of the lane link (R4 to R6): the verdict on a candidate, the hunt for a sync byte, the good frame at the
head of the buffer, and when a frame may be taken (R7). -/

namespace Sys2Proof.Machine

/-- What the framer makes of a candidate at the head of the buffer (R5, R6). -/
inductive Verdict where
  | wait | good | discard
  deriving DecidableEq, Repr

/-- The Length of a candidate, once its two bytes are present. -/
def candidateLength : List RxByte → Option Nat
  | a :: b :: _ => some (a.byte.toNat + 256 * b.byte.toNat)
  | _ => none

/-- Is the check of a whole candidate good (R4)? The bytes are those after the sync byte. -/
def checkGood (n : Nat) (l : List RxByte) : Bool :=
  let bytes := l.map (·.byte)
  (bytes.drop (4 + n)).take 2 == le16 (crc16 (bytes.take (4 + n))).toNat

/-- The verdict on a candidate, by the bytes after its sync byte (R5, R6); `quiet` says that 20 ms have passed without a byte.
DEDUCED: a loss mark discards a candidate, as a bad check does, once all its bytes are present (log entry 61). -/
def verdict (quiet : Bool) (rest : List RxByte) : Verdict :=
  match candidateLength rest with
  | none => if rest.any (·.gap) || quiet then .discard else .wait
  | some n =>
    let mine := rest.take (n + 6)
    if Config.maxBody < n ∨ mine.any (·.gap) then .discard
    else if rest.length < n + 6 then (if quiet then .discard else .wait)
    else if mine.any (·.loss) ∨ !checkGood n mine then .discard
    else .good

/-- The framer examines the buffer: it hunts for a sync byte, and discards candidates, until a candidate waits or is good
(R5, R6). -/
def examine (quiet : Bool) : List RxByte → List RxByte
  | [] => []
  | b :: rest =>
    if b.byte ≠ Config.sync then examine quiet rest
    else if verdict quiet rest = .discard then examine quiet rest
    else b :: rest

/-- The good frame at the head of the buffer, with the bytes behind it (R5). -/
def Link.headFrame (l : Link) : Option (Frame × List RxByte) :=
  match l.rx with
  | [] => none
  | b :: rest =>
    if b.byte ≠ Config.sync ∨ verdict l.lineQuiet rest ≠ .good then none
    else
      let n := (candidateLength rest).getD 0
      let bytes := rest.map (·.byte)
      some ({ kind := bytes.getD 2 0, tag := bytes.getD 3 0, body := (bytes.drop 4).take n }, rest.drop (n + 6))

/-- A frame is taken when the reply queue has a free place and no lane reset is being applied (R7). -/
def Link.mayTake (l : Link) : Bool := l.placeFree && l.resetTag.isNone

end Sys2Proof.Machine
end

