-- ==== Sys2Proof/Machine/Supply.lean ====
section
/-! DEFINITION. The supply arbiter (section 9.1): the grant table, the service of waiting ports, the cut of a phase, the staged
budget, and the DRAWER_OPEN that reaches the arbiter together with the end of a phase. -/

namespace Sys2Proof.Machine

/-- The drawer grants: the loads the ports hold (R161). -/
def State.drawerGrants (s : State) : Nat := s.drw1.grant + s.drw2.grant

/-- The load of the strobe phase in progress (R161). -/
def Supply.phaseLoad (x : Supply) : Nat := (x.phase.map (·.load)).getD 0

/-- Every load granted (R161). -/
def State.granted (s : State) : Nat := s.supply.phaseLoad + s.drawerGrants

/-- The available load for the printer (R161). -/
def State.available (s : State) : Nat := s.supply.budget - s.drawerGrants

/-- A port's effective kick load (R169). -/
def State.effectiveKick (s : State) (p : Port) : Nat := min (s.drw p).kickLoad s.supply.budget

/-- No port is in KICK. -/
def State.noKick (s : State) : Bool := s.drw1.state != .kick && s.drw2.state != .kick

/-- A port in KICK or HOLD holds a grant, a hold load of 0 included (log entry 7). -/
def DrawerState.holdsGrant : DrawerState → Bool
  | .kick | .hold => true
  | _ => false

/-- The arbiter grants a port its kick load (R169). -/
def State.grantKick (p : Port) (s : State) : State :=
  let d := s.drw p
  let load := s.effectiveKick p
  (s.setDrw p { d with state := .kick, grant := load, holdLoad := (load * d.holdDuty + 99) / 100,
                       kickTimer := s.timer d.kickMs }).portChanged p

/-- The phase in progress is cut (R165, R185): a whole re-application is owed, and the engine waits for supply; a stop of
LOW_SUPPLY that waited for the end of the phase falls here (R191). -/
def State.cutPhase (ph : Phase) (s : State) : State :=
  let s := s.setSupply { s.supply with phase := none, owed := some { ph with reapplied := true } }
  s.setPrn { s.prn with engine := if s.prn.reasons.lowSupply then .suspended else .waitSupply }

/-- A port in WAIT_SUPPLY is considered (R162, R164, R165). DESIGN CHOICE: under KICK_FIRST a cut is part of it, so that port 1 has
its cut before port 2 is considered, also where port 2 would fit beside the phase (log entry 63). -/
def State.servePort (p : Port) (s : State) : State :=
  if (s.drw p).state ≠ .waitSupply ∨ !s.noKick then s
  else if s.effectiveKick p + s.granted ≤ s.supply.budget then s.grantKick p
  else
    match s.supply.phase with
    | none => s
    | some ph =>
      if s.supply.kickFirst ∧ !ph.reapplied ∧ s.effectiveKick p + s.drawerGrants ≤ s.supply.budget then
        (s.cutPhase ph).grantKick p
      else s

/-- The waiting ports are served, port 1 first, with the cut of a phase that it may need (R162, R165; log entry 63). -/
def State.servePorts (s : State) : State := (s.servePort .one).servePort .two

/-- The staged budget takes effect when no grant is held and no re-application is owed (R160). -/
def State.testBudget (s : State) : State :=
  if s.supply.phase = none ∧ s.supply.owed = none ∧ !s.drw1.state.holdsGrant ∧ !s.drw2.state.holdsGrant then
    s.setSupply { s.supply with budget := s.supply.staged }
  else s

/-! ## A DRAWER_OPEN together with the end of a phase (R164, R165) -/

/-- The refusal of a DRAWER_OPEN (R168): reason 0 is SALE, 1 NO_SALE. -/
def drawerRefusal (p : Port) (reason : Nat) (s : State) : Option Result :=
  let d := s.drw p
  if !d.fitted then some .notAllowed
  else if d.state ≠ .closed ∧ d.state ≠ .noOpen then some .busy
  else if reason = 0 ∧ ¬ (s.txn.state = .tender ∧ s.txn.tenderCash) then some .wrongState
  else if reason ≠ 0 ∧ s.txn.state ≠ .idle then some .wrongState
  else none

/-- The request that waits at the front of the queue, as its row or as the frame that FRAME_TAKEN will take. -/
def State.waitingRequest (s : State) : Option Request :=
  match s.pending.head? with
  | some (.drawerOpen _ port reason) => some (.drawerOpen port.toNat reason.toNat)
  | some .frameTaken => s.link.headFrame.bind fun f => parseBody f.1.kind.toNat f.1.body
  | _ => none

/-- A DRAWER_OPEN that will be accepted waits right behind the command being taken: it has reached the arbiter together with that
command (R164, R165; log entry 56). -/
def State.kickFollows (s : State) : Bool :=
  s.link.mayTake && !s.link.starting &&
    match s.waitingRequest with
    | some (.drawerOpen p reason) =>
      reason ≤ 1 && match Port.ofCode? p with
        | some p => (drawerRefusal p reason s).isNone
        | none => false
    | _ => false

/-- The printer stands between two phases of its line: one has ended, and the next has not begun (R164). -/
def State.betweenPhases (s : State) : Bool :=
  s.prn.engine == .printing && s.supply.phase.isNone && s.prn.line.any fun l => !l.advancing

end Sys2Proof.Machine
end

