-- ==== Sys2Proof/Machine/PrinterLine.lean ====
section
/-! DEFINITION. Dot lines of the receipt printer: block loads, strobe phases and widths (section 10.2), the text of weighed lines
(section 10.3), and the acts that follow every release of load (R161). -/

namespace Sys2Proof.Machine

/-! ## Dots and loads -/

/-- The number of 1 bits. -/
def popCount {w : Nat} (v : BitVec w) : Nat := (List.range w).countP fun i => v.getLsbD i

/-- The five block loads of 80 dot bytes: block k is bytes 16k to 16k + 15 (R182). PRESUMED: a 1 bit is a black dot (log entry
59). -/
def rasterLoads (dots : List Byte) : List Nat :=
  (List.range 5).map fun k => (((dots.drop (16 * k)).take 16).map popCount).sum

/-- The number under which a glyph's shape is asked of the free value. -/
def Glyph.code : Glyph → Nat
  | .digit d => d
  | .point => 10 | .hash => 11 | .k => 12 | .g => 13 | .slash => 14 | .at => 15 | .tare => 16 | .minus => 17 | .space => 18

/-- The dots of a glyph's row; the space glyph has no black dot (R187). -/
def Glyph.row (c : Glyph) (row : Nat) : BitVec 16 :=
  match c with
  | .space => 0
  | c => Config.glyphRow c.code row

/-- The five block loads of a row of a text line: block k holds cells 8k + 1 to 8k + 8 (R187). -/
def textLoads (cells : List Glyph) (row : Nat) : List Nat :=
  (List.range 5).map fun k => (((cells.drop (8 * k)).take 8).map fun c => popCount (c.row row)).sum

/-- The block loads of the dot line a text job stands at: 24 dot lines a text line. -/
def TextJob.loads (j : TextJob) : List Nat := textLoads (j.lines.getD (j.row / 24) []) (j.row % 24)

/-! ## Strobe width (R184) -/

def strobeWidth (d v : Nat) (temp : Int) : Nat :=
  let base := 200 + 40 * d
  let t := base * 57600 / (v * v)
  let t := if 25 < temp then t * max 60 (100 - (temp - 25)).toNat / 100 else t
  clampNat 100 2000 t

/-! ## Phases -/

/-- The unprinted blocks in block order, with their loads. -/
def Line.unprinted (l : Line) : List (Nat × Nat) :=
  ((List.range l.loads.length).zip (l.loads.zip l.printed)).filterMap fun x => if x.2.2 then none else some (x.1, x.2.1)

/-- The longest run from the front whose loads stay within the available load (R183). -/
def fitRun (available : Nat) : List (Nat × Nat) → List (Nat × Nat)
  | [] => []
  | (k, load) :: rest => if load ≤ available then (k, load) :: fitRun (available - load) rest else []

/-- Some blocks of a line count as printed. -/
def Line.markPrinted (l : Line) (blocks : List Nat) : Line :=
  { l with printed := l.printed.zipIdx.map fun x => x.1 || blocks.contains x.2 }

/-- The engine stands SUSPENDED. -/
def State.suspend (s : State) : State := s.setPrn { s.prn with engine := .suspended }

/-- A sample of the head supply acts as a monitor sample (R190, R191, R192). -/
def Reasons.sampleSupply (r : Reasons) (v : Nat) : Reasons :=
  { r with lowSupply := if v < 180 then true else if 190 ≤ v then false else r.lowSupply }

/-- A sample of the head temperature acts as a monitor sample (R190, R191, R192). -/
def Reasons.sampleTemp (r : Reasons) (temp : Int) : Reasons :=
  { r with headHot := if 65 ≤ temp then true else if temp ≤ 55 then false else r.headHot }

/-- V is sampled at a phase planning (R183, R190): the input's next value, or the last sample where none is given. -/
def State.sampleSupply (s : State) : State :=
  let v := s.prn.supplyInput.headD s.prn.headSupply
  s.setPrn { s.prn with headSupply := v, supplyInput := s.prn.supplyInput.tail, reasons := s.prn.reasons.sampleSupply v }

/-- θ is sampled at a line start (R182, R190): the input's next value, or the last sample where none is given. -/
def State.sampleTemp (s : State) : State :=
  let temp := s.prn.tempInput.headD s.prn.headTemp
  s.setPrn { s.prn with headTemp := temp, tempInput := s.prn.tempInput.tail, reasons := s.prn.reasons.sampleTemp temp }

/-- The printer claims its owed re-application whole, or waits (R163, R185). -/
def State.claimOwed (ph : Phase) (s : State) : State :=
  if ph.load ≤ s.available then
    (s.setSupply { s.supply with phase := some ph }).setPrn { s.prn with engine := .printing }
  else s.setPrn { s.prn with engine := .waitSupply }

/-- The paper advances one dot line (R182). -/
def State.advance (l : Line) (s : State) : State :=
  s.setPrn { s.prn with line := some { l with advancing := true }, engine := .printing }

/-- A strobe phase is planned from a new sample of V against the available load (R183). -/
def State.plan (l : Line) (s : State) : State :=
  let s := s.sampleSupply
  if s.prn.headSupply < 180 then s.suspend
  else
    match fitRun s.available l.unprinted with
    | [] => s.setPrn { s.prn with engine := .waitSupply }
    | run =>
      let ph : Phase := { blocks := run.map Prod.fst, load := (run.map Prod.snd).sum,
                          width := strobeWidth s.prn.darkness s.prn.headSupply l.temp, reapplied := false }
      (s.setSupply { s.supply with phase := some ph }).setPrn { s.prn with engine := .printing }

/-- A phase start within the line in progress (R183): the owed re-application first; with every block printed, the advance. -/
def State.phaseStart (s : State) : State :=
  match s.supply.owed with
  | some ph => s.claimOwed ph
  | none =>
    match s.prn.line with
    | none => s
    | some l => if l.unprinted = [] then s.advance l else s.plan l

/-- A line start (R182): θ is sampled, the staged darkness comes into effect, and blocks of load 0 count as printed. -/
def State.lineStart (loads : List Nat) (s : State) : State :=
  let s := s.sampleTemp
  let s := s.setPrn { s.prn with
    darkness := s.prn.darknessSet
    line := some { loads := loads, printed := loads.map (· == 0), advancing := false, temp := s.prn.headTemp } }
  s.phaseStart

/-- A feed line: one advance without heating (R181). -/
def State.feedLine (s : State) : State :=
  s.advance { loads := [], printed := [], advancing := true, temp := s.prn.headTemp }

/-- The next line of the record in progress. -/
def State.workLine (w : Work) (s : State) : State :=
  match w with
  | .raster _ dots => s.lineStart (rasterLoads dots)
  | .feed _ => s.feedLine
  | .text j => s.lineStart j.loads
  | .reading _ | .cut _ => s

/-- After the waiting ports have been served, the printer that waits for load is offered it again (R161, R163). -/
def State.offerPrinter (s : State) : State := if s.prn.engine = .waitSupply then s.phaseStart else s

/-- What follows every release of load (R161): the ports, the printer, the staged budget. -/
def State.afterRelease (s : State) : State := s.servePorts.offerPrinter.testBudget

/-- An owed re-application is withdrawn (R185), and a staged budget may take effect (R160). -/
def State.withdrawOwed (s : State) : State := (s.setSupply { s.supply with owed := none }).testBudget

/-- The printer's turn after a service (R161): its phase start, but where a kick that has come together with the end of its phase
is still to be served (R164, R165), and then the staged budget. -/
def State.takeTurn (s : State) : State :=
  if s.betweenPhases ∧ !s.kickFollows then s.phaseStart.testBudget else s

/-- A strobe phase or re-application ends (R161, R163, R183, R185): the ports are served, and then the printer has its turn, unless
it stops for LOW_SUPPLY. A DRAWER_OPEN that comes together with the end of the phase is served before the next phase (R164, R165). -/
def evStrobePhaseEnd (s : State) : State :=
  match s.supply.phase with
  | none => s
  | some ph =>
    let s := s.setSupply { s.supply with phase := none, owed := if ph.reapplied then none else s.supply.owed }
    let s := s.setPrn { s.prn with line := s.prn.line.map (·.markPrinted ph.blocks) }
    let s := s.servePorts
    if s.prn.reasons.lowSupply then s.suspend.testBudget
    else if s.kickFollows ∧ s.prn.line.any (fun l => l.unprinted ≠ []) then s.setPrn { s.prn with engine := .printing }
    else s.phaseStart.testBudget

/-! ## The text of weighed lines (R187, R188) -/

/-- The decimal digits of a number without leading zeros; the first argument bounds their count. -/
def decDigits : Nat → Nat → List Nat
  | 0, _ => []
  | k + 1, n => if n < 10 then [n] else decDigits k (n / 10) ++ [n % 10]

/-- Exactly `k` decimal digits. -/
def padDigits : Nat → Nat → List Nat
  | 0, _ => []
  | k + 1, n => padDigits k (n / 10) ++ [n % 10]

/-- A value shown with D decimals. -/
def showDecimals (d v : Nat) : List Glyph :=
  ((decDigits 20 (v / 10 ^ d)).map Glyph.digit) ++ (if d = 0 then [] else .point :: (padDigits d (v % 10 ^ d)).map Glyph.digit)

/-- A field filled from the right. -/
def rightAlign (width : Nat) (l : List Glyph) : List Glyph := List.replicate (width - l.length) .space ++ l

/-- The first text line of a sale. -/
def saleLine (d number : Nat) (net unitPrice price : Nat) : List Glyph :=
  (.hash :: (padDigits 7 (number % 10000000)).map Glyph.digit) ++ [.space]
    ++ rightAlign 8 (showDecimals 3 net ++ [.k, .g]) ++ [.space]
    ++ rightAlign 12 (.at :: (showDecimals d unitPrice ++ [.slash, .k, .g]))
    ++ rightAlign 10 (showDecimals d price)

/-- The second text line of a sale with a tare. -/
def tareLine (tare : Nat) : List Glyph :=
  List.replicate 8 .space ++ rightAlign 9 (.tare :: (showDecimals 3 tare ++ [.k, .g])) ++ List.replicate 23 .space

/-- Every digit becomes '-'. -/
def Glyph.dashed : Glyph → Glyph
  | .digit _ => .minus
  | c => c

/-- The text of a damaged line: every numeric field as the value 0 would be, with every digit replaced (R188). -/
def damagedText (d : Nat) : List Glyph := (saleLine d 0 0 0 0).map Glyph.dashed

/-- The text of a clean sale record. -/
def saleText (d number : Nat) (r : SaleFields) : List (List Glyph) :=
  saleLine d number r.net.toNat r.unitPrice r.price.toNat :: (if r.tare = 0 then [] else [tareLine r.tare.toNat])

/-- The outcomes of reading a number (R96, R102), codes 0 to 3. -/
inductive ReadStatus where
  | ok | corrected | damaged | absent
  deriving DecidableEq, Repr

def ReadStatus.code : ReadStatus → Nat | .ok => 0 | .corrected => 1 | .damaged => 2 | .absent => 3

/-- One entry of a read's result: a status, and the record for OK and CORRECTED. -/
structure ReadEntry where
  status : ReadStatus
  record : Option (Nat × RecordBody)
  deriving DecidableEq, Repr

/-- The sale that a weighed line may print (R186), or none where the result prints as a damaged line. -/
def printableSale (t : Txn) (receipt number : Nat) (x : ReadEntry) : Option SaleFields :=
  match x.status, x.record with
  | .ok, some (n, .sale r) | .corrected, some (n, .sale r) =>
    match t.sale? number with
    | some e => if n = number ∧ r.txn = receipt ∧ e.net = r.net ∧ e.price = r.price then some r else none
    | none => none
  | _, _ => none

/-- The receipt that the record in progress belongs to. -/
def Printer.receipt (p : Printer) : Nat := (p.queue.head?.map (·.receipt)).getD 0

/-- The text job of a weighed line's read result (R186 to R188). -/
def State.renderLine (number : Nat) (x : ReadEntry) (s : State) : TextJob :=
  match printableSale s.txn s.prn.receipt number x with
  | some r => { number := number, lines := saleText s.prn.decimals number r, row := 0, damaged := false }
  | none => { number := number, lines := [damagedText s.prn.decimals], row := 0, damaged := true }

/-- A weighed line's read result arrives (R186): it prints at once, or is kept while the engine stands SUSPENDED. -/
def State.lineResult (x : ReadEntry) (s : State) : State :=
  match s.prn.work with
  | some (.reading number) =>
    let j := s.renderLine number x
    let s := s.setPrn { s.prn with work := some (.text j) }
    if s.prn.engine = .suspended then s else s.lineStart j.loads
  | _ => s

end Sys2Proof.Machine
end

