-- ==== Sys2Proof/Machine/PricingCore.lean ====
section
/-! DEFINITION. The request of the priced-weighing unit as the store and the transaction reach it (sections 5.6 to 5.8): the
PRICE_RESULT notice, the end of a request, the end of its write, abort. -/

namespace Sys2Proof.Machine

/-- PRICE_RESULT (R95): before a latch the tare is the one held on channel P. -/
def State.priceBytes (s : State) : List Byte :=
  let x := s.pw
  [Byte.of x.state.code, Byte.of x.result.code, Byte.of x.reason.code, Byte.of (priceFlags x), Byte.of s.store.condition.code]
    ++ le32 x.txn ++ le32 x.lastAlibi
    ++ leI32 (match x.latch with | some l => l.net | none => 0)
    ++ leI32 (match x.latch with | some l => l.tare | none => s.chP.tare / 1000)
    ++ le32 x.unitPrice
    ++ leI32 (match x.latch with | some l => l.price | none => 0)

def State.raisePrice (s : State) : State := s.raise .priceResult s.priceBytes

/-- The transaction's weighing-in-flight flag clears (R76). -/
def State.clearInFlight (s : State) : State := s.setTxn { s.txn with inFlight := false }

/-- The request record when the request ends. -/
def Pricing.ended (x : Pricing) (result : PwResult) (reason : PwReason) (alibi : Nat) : Pricing :=
  { x with state := .idle, settle := none, reserved := false, result := result, reason := reason, lastAlibi := alibi }

/-- A request ends without a record: the reservation is freed, the flag is cleared, PRICE_RESULT is raised (R87, R88, R91, R92,
R93). -/
def State.endRequest (result : PwResult) (reason : PwReason) (s : State) : State :=
  let s := if s.pw.reserved then s.releaseSlot else s
  let s := s.setPw (s.pw.ended result reason 0)
  s.clearInFlight.raisePrice

/-- The store reports the SALE record written (R90, R93). -/
def State.saleWritten (number : Nat) (s : State) : State :=
  match s.pw.state, s.pw.latch with
  | .storing, some l =>
    let s := s.setTxn { s.txn with
      sales := s.txn.sales ++ [{ number := number, net := l.net, price := l.price, queued := false, printed := false }] }
    let s := if s.pw.reserved then s.convertSlot number l.net s.pw.tolerance else s
    let s := if s.pw.tareAutoclear then s.setTare 0 else s
    let s := s.clearInFlight
    (s.setPw (s.pw.ended .done .none number)).raisePrice
  | .detached, _ => (s.setPw (s.pw.ended .aborted .none number)).raisePrice
  | _, _ => s

/-- The store reports the SALE record failed (R91, R93): the re-arm flag is set. -/
def State.saleFailed (s : State) : State :=
  match s.pw.state with
  | .storing => (s.setPw { s.pw with rearm := true }).endRequest .storeFailed .none
  | .detached => (s.setPw ({ s.pw with rearm := true }.ended .aborted .none 0)).raisePrice
  | _ => s

/-- TXN_ABORT or lane reset reaches the unit (R93, R94): a waiting request ends, a latched one is detached. -/
def State.abortRequest (s : State) : State :=
  match s.pw.state with
  | .waitRearm | .waitStable => s.endRequest .aborted .none
  | .storing =>
    let s := if s.pw.reserved then s.releaseSlot else s
    let s := s.setPw { s.pw with state := .detached, reserved := false }
    s.clearInFlight.raisePrice
  | .idle | .detached => s

end Sys2Proof.Machine
end

