-- ==== Sys2Proof/Machine/StoreTable.lean ====
section
/-! DEFINITION. What the alibi store knows of its sectors (sections 6.1 to 6.3): the table, the numbers, the condition, the
STORE_STATE notice, the spare check, and the bytes of a record. -/

namespace Sys2Proof.Machine

/-! ## The sector table -/

def Store.entry (x : Store) (i : Nat) : SectorEntry := x.table.getD i SectorEntry.blank

def Store.setEntry (x : Store) (i : Nat) (e : SectorEntry) : Store := { x with table := x.table.set i e }

/-- A sector in use: ACTIVE or FULL (R97). -/
def SectorEntry.inUse (e : SectorEntry) : Bool := e.state == .active || e.state == .full

/-- The last number of a sector (R98). DESIGN CHOICE: that of a sector with no used slot and no first number is 0 (log entry
48). -/
def SectorEntry.last (e : SectorEntry) : Nat := e.first.getD 0 + e.used - 1

/-- Does a sector in use bear a number? -/
def SectorEntry.bears (e : SectorEntry) (n : Nat) : Bool :=
  match e.first with
  | some f => e.inUse && decide (f ≤ n ∧ n < f + e.used)
  | none => false

/-- The ACTIVE sector. -/
def Store.active (x : Store) : Option Nat := x.table.findIdx? fun e => e.state == .active

/-- Unused slots of the ACTIVE sector. -/
def Store.room (x : Store) : Nat :=
  match x.active with
  | some i => Config.slotsPerSector - (x.entry i).used
  | none => 0

def Store.anyErased (x : Store) : Bool := x.table.any fun e => e.state == .erased

/-- Some sector is ERASING or erase pending. -/
def Store.anyErasing (x : Store) : Bool := x.table.any fun e => e.state == .erasing || e.pending

/-- The positions of the entries that meet a test, in order of sequence number. -/
def Store.bySeq (x : Store) (test : SectorEntry → Bool) : List Nat :=
  ((x.table.zipIdx.filter fun e => test e.1).insertionSort fun a b => a.1.seq ≤ b.1.seq).map Prod.snd

/-- The oldest FULL sector (R105). -/
def Store.oldestFull (x : Store) : Option Nat := (x.bySeq fun e => e.state == .full).head?

/-- The first ERASED sector in physical order after a sector, wrapping from 7 to 0 (R104). -/
def Store.erasedAfter (x : Store) (i : Nat) : Option Nat :=
  ((List.range Config.sectors).map fun k => (i + 1 + k) % Config.sectors).find? fun j => (x.entry j).state == .erased

/-- Sectors that are not RETIRED. -/
def Store.usable (x : Store) : Nat := x.table.countP fun e => e.state != .retired

/-- The oldest number present (R112). -/
def Store.oldest (x : Store) : Nat :=
  match (x.bySeq fun e => e.inUse && decide (0 < e.used)).head? with
  | some i => (x.entry i).first.getD 0
  | none => 0

/-- The newest number (R110). -/
def Store.newest (x : Store) : Nat := x.next - 1

/-- The current CAL record of a channel. -/
def Store.current (x : Store) : Ch → Option CurrentCal
  | .p => x.currentP
  | .b => x.currentB

def Store.setCurrent (x : Store) (c : Ch) (v : Option CurrentCal) : Store :=
  match c with
  | .p => { x with currentP := v }
  | .b => { x with currentB := v }

/-! ## STORE_STATE and the condition -/

/-- Events of STORE_STATE (R117), codes 0 to 3. -/
inductive StoreEvent where
  | none | condition | retired | damaged
  deriving DecidableEq, Repr

def StoreEvent.code : StoreEvent → Nat | .none => 0 | .condition => 1 | .retired => 2 | .damaged => 3

/-- STORE_STATE (R117). -/
def Store.bytes (x : Store) (event : StoreEvent) (sector : Nat) : List Byte :=
  [Byte.of x.condition.code, Byte.of event.code, Byte.of sector] ++ x.table.map (fun e => Byte.of e.state.code)
    ++ le32 x.oldest ++ le32 x.newest ++ le32 x.releasePoint ++ le16 x.damagedFound ++ byte1 x.retired

/-- The store raises STORE_STATE; a raise that names no sector carries 8 (R117). -/
def State.raiseStore (event : StoreEvent) (sector : Nat) (s : State) : State :=
  s.raise .storeState (s.store.bytes event sector)

/-- The condition by the tests of R99. -/
def Store.judge (x : Store) : StoreCondition :=
  if x.failed then .failed
  else if x.anyErased || x.anyErasing then .normal
  else if x.room ≤ Config.reserveSlots then .storeFull
  else .noSpare

/-- The condition is re-evaluated; a change raises STORE_STATE (R99). -/
def State.evalCondition (s : State) : State :=
  let c := s.store.judge
  if c = s.store.condition then s
  else (s.setStore { s.store with condition := c }).raiseStore .condition Config.sectors

/-- The store enters FAILED (R98, R101, R103, R105, R109): the marks and copies owed are dropped, and an erase whose copies are
not all written is not started. DESIGN CHOICE: an erase that is only pending, with no copy left in the list, is kept and begins its
pulses (log entry 64). -/
def Store.fail (x : Store) : Store :=
  let x := { x with failed := true, rotation := .none }
  match x.copies, x.erase with
  | [], _ | _, none => { x with copies := [] }
  | _, some e => { x.setEntry e.sector { x.entry e.sector with pending := false } with copies := [], erase := none }

/-- The channels that owe a CARRIED copy when a sector is to be erased (R105). DESIGN CHOICE: channel P's copy comes before channel
B's (log entry 47). -/
def Store.copiesOwed (x : Store) (sector : Nat) : List Ch :=
  [Ch.p, Ch.b].filter fun c =>
    match x.current c with
    | some k => (x.entry sector).bears k.number
    | none => false

/-- The spare check's decision (R105). -/
def Store.spareCheck (x : Store) : Store :=
  if x.failed || x.anyErased || x.anyErasing then x
  else
    match x.oldestFull with
    | none => x
    | some i =>
      if x.holdUnexported && !(x.entry i).released then x
      else { x.setEntry i { x.entry i with pending := true } with
        erase := some { sector := i, pulses := 0, next := .pulse }, copies := x.copiesOwed i }

/-- The spare check, and the condition after it (R105, R99). -/
def State.spareCheck (s : State) : State := (s.setStore s.store.spareCheck).evalCondition

/-- Rotation is owed when the ACTIVE sector has no unused slot and some sector is ERASED (R104). -/
def Store.oweRotation (x : Store) : Store :=
  match x.active with
  | some i => if x.room = 0 ∧ x.anyErased ∧ !x.failed ∧ x.rotation = .none then { x with rotation := .owesFull i } else x
  | none => x

/-! ## Records -/

/-- The 32 bytes of a record (section 1.7). -/
def recordBytes (number : Nat) (r : RecordBody) : List Byte :=
  match r with
  | .sale x =>
    le32 number ++ byte1 0 ++ byte1 (recordFlags r) ++ le16 x.counter ++ le32 x.txn ++ le32 x.laneTime ++ le32 x.unitPrice
      ++ leI32 x.tare ++ leI32 x.net ++ leI32 x.price
  | .cal x =>
    le32 number ++ byte1 1 ++ byte1 (recordFlags r) ++ le16 x.counter ++ leI32 x.cal.zc ++ leI32 x.cal.cs ++ leI32 x.cal.ms
      ++ le32 x.cal.params.max ++ le16 x.cal.params.e ++ byte1 x.cal.params.n ++ byte1 x.cal.params.s ++ le32 0

/-- One entry of an ALIBI_READ reply (section 1.7). -/
def readEntryBytes (e : ReadEntry) : List Byte :=
  byte1 e.status.code ++ (match e.record with | some (n, r) => recordBytes n r | none => List.replicate 32 0)

/-- Where a number is looked for (R102): a slot of a sector in use, the range of a sector that recovery could not keep, or
nowhere. -/
inductive Place where
  | slot (sector position : Nat)
  | lost
  | nowhere
  deriving DecidableEq, Repr

def Store.locate (x : Store) (n : Nat) : Place :=
  match x.table.findIdx? (fun e => e.bears n) with
  | some i => .slot i (n - (x.entry i).first.getD 0)
  | none =>
    let bearing := x.table.filter fun e => e.inUse && decide (0 < e.used)
    if bearing.any (fun e => decide (e.last < n)) && bearing.any (fun e => decide (n < e.first.getD 0)) then .lost else .nowhere

/-- The outcome of reading a used slot (R96, R98): it must bear the number its position gives it. -/
def UsedSlot.outcome (u : UsedSlot) (expected : Nat) (h : Health) : ReadEntry :=
  match u, h with
  | .record n r, .clean => if n = expected then ⟨.ok, some (n, r)⟩ else ⟨.damaged, none⟩
  | .record n r, .corrected => if n = expected then ⟨.corrected, some (n, r)⟩ else ⟨.damaged, none⟩
  | .record _ _, .uncorrectable => ⟨.damaged, none⟩
  | .cleared, _ => ⟨.damaged, none⟩

/-- The results of reading some numbers in increasing order; `health` says how the words of each slot that is read come out
(R102). -/
def readNumbers (x : Store) (flash : List FlashSector) : List Nat → List Health → List ReadEntry
  | [], _ => []
  | n :: ns, hs =>
    match x.locate n with
    | .slot i k =>
      let u := ((flash.getD i { header := .blank, slots := [] }).slots).getD k .cleared
      u.outcome n (hs.headD .clean) :: readNumbers x flash ns hs.tail
    | .lost => ⟨.damaged, none⟩ :: readNumbers x flash ns hs
    | .nowhere => ⟨.absent, none⟩ :: readNumbers x flash ns hs

/-- The numbers a read access asks for. -/
def Access.numbers : Access → List Nat
  | .readHost _ first count => (List.range count).map (first + ·)
  | .readPrinter n _ => [n]
  | .write _ | .release _ => []

/-- Is some slot to be read? -/
def Store.readsSlot (x : Store) (ns : List Nat) : Bool :=
  ns.any fun n => match x.locate n with | .slot .. => true | _ => false

/-- The slots found DAMAGED by a read of some numbers (R102). -/
def damagedSlots (x : Store) (ns : List Nat) (es : List ReadEntry) : Nat :=
  ((ns.zip es).filter fun y => y.2.status == .damaged && (match x.locate y.1 with | .slot .. => true | _ => false)).length

end Sys2Proof.Machine
end

