-- ==== Sys2Proof/Machine/Store.lean ====
section
/-! DEFINITION. The alibi store at work (sections 6.4 to 6.6): the access queue, the choice of the next flash operation, the ends
of the operations, and ALIBI_READ, ALIBI_RELEASE and ALIBI_INFO. -/

namespace Sys2Proof.Machine

/-! ## The flash array -/

/-- One sector of the array changes. -/
def Flash.modify (i : Nat) (f : FlashSector → FlashSector) (l : List FlashSector) : List FlashSector :=
  l.set i (f (l.getD i { header := .blank, slots := [] }))

/-- The next slot of a sector is programmed. -/
def Flash.program (i : Nat) (u : UsedSlot) : List FlashSector → List FlashSector :=
  Flash.modify i fun x => { x with slots := x.slots ++ [u] }

/-- A header with the FULL mark, and the RELEASED mark where it is programmed with it (R104). -/
def markFullOn (released : Bool) : Header → Header
  | .marked u _ r => .marked u true (r || released)
  | h => h

/-- A header with the RELEASED mark. -/
def markReleasedOn : Header → Header
  | .marked u f _ => .marked u f true
  | h => h

/-! ## Ends of accesses -/

/-- The access at the head leaves the queue. -/
def State.popAccess (s : State) : State := s.setStore { s.store with queue := s.store.queue.tail }

/-- A write ends failed: its owner is told (R101). -/
def State.failWrite (r : RecordBody) (s : State) : State :=
  match r with
  | .sale _ => s.saleFailed
  | .cal _ => s.commitFailed

/-- A write has succeeded: its owner is told the alibi number (R101). -/
def State.tellWritten (number : Nat) (r : RecordBody) (s : State) : State :=
  match r with
  | .sale _ => s.saleWritten number
  | .cal k => s.commitWritten number k

/-- A read access ends (R102, R111, R186): the damaged count, STORE_STATE, and the results to their block. -/
def State.endRead (a : Access) (health : List Health) (s : State) : State :=
  let ns := a.numbers
  let es := readNumbers s.store s.flash ns health
  let s := s.popAccess
  let s := s.setStore { s.store with damagedFound := sat16 (s.store.damagedFound + damagedSlots s.store ns es) }
  let s := if es.any (fun e => e.status == .damaged) then s.raiseStore .damaged Config.sectors else s
  match a with
  | .readHost tag _ _ => s.reply 0x28 tag (.accept (byte1 es.length ++ (es.map readEntryBytes).flatten))
  | .readPrinter _ live => if live then s.lineResult (es.headD ⟨.absent, none⟩) else s
  | .write _ | .release _ => s

/-! ## The next operation (R100) -/

/-- Is a record write at the head of the queue held back by "only the reserve left" (R101)? -/
def Store.headBlocked (x : Store) : Bool :=
  match x.queue with
  | .write _ :: _ =>
    x.condition != .failed && x.condition != .storeFull && !x.anyErased && decide (x.room ≤ Config.reserveSlots) && x.anyErasing
  | _ => false

/-- The next step of the erase begins (R106, R107). From its first pulse on the sector is not in use, so its sequence number is 0
(R97). -/
def Store.eraseStep (x : Store) (e : Erase) : Store :=
  match e.next with
  | .verify => { x with op := .verify }
  | .reapply => { x with op := .pulse true }
  | .pulse =>
    let x := x.setEntry e.sector { x.entry e.sector with state := .erasing, seq := 0, pending := false }
    { x with op := .pulse false }

/-- The marks of a release access that are still to be programmed: a sector that is no longer FULL is skipped (R110). -/
def Store.marksLeft (x : Store) (sectors : List Nat) : List Nat :=
  if x.failed then [] else sectors.filter fun i => (x.entry i).state == .full && !(x.entry i).released

/-- A CARRIED copy can no longer be written, because no slot is left for it: the store enters FAILED (R105). -/
def State.failCopies (s : State) : State := (s.setStore s.store.fail).evalCondition

/-- One choice of the idle flash: it starts an operation, or ends an access that needs none, in its turn (log entry 22); the flag
says to choose again. -/
def State.choose1 (s : State) : State × Bool :=
  let x := s.store
  let serveErase : State × Bool :=
    match x.erase with
    | some e => (s.setStore (x.eraseStep e), false)
    | none => (s, false)
  match x.rotation with
  | .owesFull i =>
    (s.setStore { x with op := .markFull i (decide ((x.entry i).last ≤ x.releasePoint)) }, false)
  | .owesInUse i _ =>
    match x.erasedAfter i with
    | some j => (s.setStore { x with op := .markInUse j (x.lastSeq + 1) }, false)
    | none => (s.setStore { x with rotation := .none }, true)
  | .none =>
    match x.copies, x.erase with
    | c :: rest, some e =>
      if !(x.copiesOwed e.sector).contains c then (s.setStore { x with copies := rest }, true)
      else if x.room = 0 then (s.failCopies, true)
      else (s.setStore { x with op := .programCopy c }, false)
    | _, _ =>
      match x.queue with
      | [] => serveErase
      | .write r :: _ =>
        if x.condition = .failed ∨ x.condition = .storeFull then ((s.popAccess).failWrite r, true)
        else if x.headBlocked ∨ x.room = 0 then serveErase
        else (s.setStore { x with op := .programHead }, false)
      | .release l :: rest =>
        match x.marksLeft l with
        | [] => (s.popAccess, true)
        | i :: more => (s.setStore { x with queue := .release (i :: more) :: rest, op := .markReleased i }, false)
      | a :: _ =>
        if x.readsSlot a.numbers then (s.setStore { x with op := .read }, false) else (s.endRead a [], true)

/-- The idle flash chooses until an operation runs or nothing is left to do; the bound covers the queue and the copies. -/
def State.pumpN : Nat → State → State
  | 0, s => s
  | k + 1, s => if s.store.op ≠ .idle then s else let r := s.choose1; if r.2 then State.pumpN k r.1 else r.1

/-- After each operation and each arrival the flash takes its next operation (R100); none during the start-up period. -/
def State.pump (s : State) : State := if s.link.starting then s else s.pumpN 16

/-! ## Arrivals -/

/-- An access joins the queue; under RECORD_FIRST it cuts a pulse that is not a re-application (R107), unless a write that waits
for the erase heads the queue. -/
def Store.join (x : Store) (a : Access) : Store :=
  let x := { x with queue := x.queue ++ [a] }
  if x.op = .pulse false ∧ !x.eraseFirst ∧ !x.headBlocked then
    { x with op := .idle, erase := x.erase.map fun e => { e with next := .reapply } }
  else x

def State.enqueue (a : Access) (s : State) : State := (s.setStore (s.store.join a)).pump

/-- No place is free for a request: places owed to blocks that wait count as taken (R100). -/
def Store.placesTaken (x : Store) : Bool := decide (Config.accessPlaces ≤ x.queue.length + x.waiters.length)

/-- The SALE record is handed over; a store that is STORE_FULL or FAILED reports it failed at once (R89), and the model queues
nothing then (log entry 24). -/
def State.handOverSale (r : SaleFields) (s : State) : State :=
  if s.store.condition = .failed ∨ s.store.condition = .storeFull then s.saleFailed else s.enqueue (.write (.sale r))

/-- The latched SALE record is handed over, or waits at the unit for a place (R89). -/
def State.offerSale (r : SaleFields) (s : State) : State :=
  if s.store.placesTaken then
    (s.setPw { s.pw with waiting := some r }).setStore { s.store with waiters := s.store.waiters ++ [.sale] }
  else s.handOverSale r

/-- A weighed line asks for its record, or waits at the printer for a place (R186). -/
def State.offerLine (number : Nat) (s : State) : State :=
  if s.store.placesTaken then s.setStore { s.store with waiters := s.store.waiters ++ [.line] }
  else s.enqueue (.readPrinter number true)

/-- A place is free for the block that began to wait first. -/
def Store.placeFor (x : Store) (w : Waiter) : Bool := x.waiters.head? == some w && decide (x.queue.length < Config.accessPlaces)

/-- The waiting SALE record is handed over (R89, R100). -/
def evSaleRecordHandover (s : State) : State :=
  match s.pw.waiting with
  | some r =>
    if s.store.placeFor .sale then
      ((s.setPw { s.pw with waiting := none }).setStore { s.store with waiters := s.store.waiters.tail }).handOverSale r
    else s
  | none => s

/-- The waiting weighed-line read is handed over (R186, R100). -/
def evWeighedLineReadHandover (s : State) : State :=
  match s.prn.work with
  | some (.reading number) =>
    if s.store.placeFor .line then
      (s.setStore { s.store with waiters := s.store.waiters.tail }).enqueue (.readPrinter number true)
    else s
  | _ => s

/-! ## Ends of flash operations -/

/-- The operation in progress ends. -/
def Store.opEnds (x : Store) : Store := { x with op := .idle }

/-- One more failure of a program or a mark; at three the store enters FAILED (R101, R103). -/
def Store.countFailure (x : Store) : Store :=
  let x := { x with failures := x.failures + 1 }
  if Config.maxFailures ≤ x.failures then x.fail else x

/-- An attempt to program a slot takes the next number and the next slot of the ACTIVE sector (R98). -/
def State.takeSlot (u : UsedSlot) (s : State) : State :=
  match s.store.active with
  | none => s
  | some i =>
    let e := s.store.entry i
    let x := s.store.setEntry i { e with first := e.first.or (some s.store.next), used := e.used + 1 }
    (s.setStore { x with next := x.next + 1 }).setFlash (Flash.program i u s.flash)

/-- The last number has been issued (R98). -/
def Store.checkLast (x : Store) : Store := if Config.maxNumber < x.next then x.fail else x

/-- A successful CAL record is the current one of its channel (R101, R105). -/
def Store.noteCal (x : Store) (number : Nat) : RecordBody → Store
  | .cal k => x.setCurrent k.channel (some { number := number, fields := k })
  | .sale _ => x

/-- A record program succeeds: the slot is used, the count of failures is 0, and rotation may be owed (R98, R101, R104); `copies`
are the CARRIED copies owed after it. DESIGN CHOICE: the last number, spent on the last of them, leaves the erase to run (log entry
64). -/
def State.programmed (r : RecordBody) (copies : List Ch) (s : State) : State :=
  let number := s.store.next
  let s := (s.setStore s.store.opEnds).takeSlot (.record number r)
  let x := ({ s.store with failures := 0, copies := copies }.noteCal number r).checkLast.oweRotation
  s.setStore x

/-- A record program fails: the slot is cleared and its number is gone (R101). -/
def State.programFailed (s : State) : State :=
  let s := (s.setStore s.store.opEnds).takeSlot .cleared
  (s.setStore s.store.countFailure.checkLast.oweRotation).evalCondition

/-- A record program with verify ends (R101, R105). -/
def evRecordProgramEnd (verified : Bool) (s : State) : State :=
  match s.store.op, s.store.queue with
  | .programHead, .write r :: _ =>
    if verified then
      let number := s.store.next
      ((s.programmed r s.store.copies).popAccess.evalCondition.tellWritten number r).pump
    else s.programFailed.pump
  | .programCopy c, _ =>
    if verified then
      match s.store.current c with
      | some k =>
        (s.programmed (.cal { k.fields with carried := true }) s.store.copies.tail).evalCondition.pump
      | none => s
    else s.programFailed.pump
  | _, _ => s

/-- A release access at the head ends with the last of its marks, and leaves the queue at once, before any copy that is then owed
(R100, R110). -/
def Store.endRelease (x : Store) : Store :=
  match x.queue with
  | .release l :: rest => if x.marksLeft l = [] then { x with queue := rest } else x
  | _ => x

/-- A header mark takes effect (R103, R104, R110). -/
def State.markTakes (s : State) : State :=
  match s.store.op with
  | .markFull i released =>
    let s := s.setFlash (Flash.modify i (fun x => { x with header := markFullOn released x.header }) s.flash)
    (s.setStore { s.store.opEnds with failures := 0, rotation := .owesInUse i released }).evalCondition
  | .markInUse j seq =>
    let s := s.setFlash (Flash.modify j (fun x => { x with header := .marked (some seq) false false }) s.flash)
    let x := match s.store.rotation with
      | .owesInUse i released => s.store.setEntry i { s.store.entry i with state := .full, released := released }
      | _ => s.store
    let x := x.setEntry j { SectorEntry.blank with state := .active, seq := seq }
    (s.setStore { x.opEnds with failures := 0, rotation := .none, lastSeq := seq }).spareCheck
  | .markReleased i =>
    let s := s.setFlash (Flash.modify i (fun x => { x with header := markReleasedOn x.header }) s.flash)
    let x := s.store.setEntry i { s.store.entry i with released := true }
    (s.setStore { x.opEnds with failures := 0 }.endRelease).spareCheck
  | _ => s

/-- A header mark program with verify ends (R103): one that fails is applied again at once. -/
def evHeaderMarkEnd (verified : Bool) (s : State) : State :=
  match s.store.op with
  | .markFull .. | .markInUse .. | .markReleased .. =>
    if verified then s.markTakes.pump
    else
      let x := s.store.countFailure
      if x.failed then ((s.setStore x.opEnds).evalCondition).pump else s.setStore x
  | _ => s

/-- A record read access ends (R102). -/
def evRecordReadEnd (health : List Health) (s : State) : State :=
  match s.store.op, s.store.queue with
  | .read, a :: _ => ((s.setStore s.store.opEnds).endRead a health).pump
  | _, _ => s

/-- An erase pulse completes (R106): its verify follows, once the queue has been served (R107, R108). -/
def evErasePulseEnd (s : State) : State :=
  match s.store.op, s.store.erase with
  | .pulse _, some e =>
    let s := s.setFlash (Flash.modify e.sector (fun _ => { header := .blank, slots := [] }) s.flash)
    (s.setStore { s.store.opEnds with erase := some { e with pulses := e.pulses + 1, next := .verify } }).evalCondition.pump
  | _, _ => s

/-- A sector is retired (R109). -/
def State.retireSector (i : Nat) (s : State) : State :=
  let x := { s.store.setEntry i { s.store.entry i with state := .retired, seq := 0 } with
    erase := none, retired := s.store.retired + 1 }
  let s := (s.setStore x).raiseStore .retired i
  if s.store.usable < 3 then (s.setStore s.store.fail).evalCondition else s.spareCheck

/-- A blank verify ends (R106). -/
def evBlankVerifyEnd (blank : Bool) (s : State) : State :=
  match s.store.op, s.store.erase with
  | .verify, some e =>
    let s := s.setStore s.store.opEnds
    if blank then
      let s := (s.setStore { s.store.setEntry e.sector SectorEntry.blank with erase := none }).evalCondition
      (s.setStore s.store.oweRotation).spareCheck.pump
    else
      let s := s.setFlash (Flash.modify e.sector (fun x => { x with header := .damaged }) s.flash)
      if e.pulses < Config.maxPulses then (s.setStore { s.store with erase := some { e with next := .pulse } }).evalCondition.pump
      else (s.retireSector e.sector).pump
  | _, _ => s

/-! ## Requests -/

/-- ALIBI_READ (R111): the reply of an accepted one is produced when the access ends. -/
def reqAlibiRead (tag : Byte) (first count : Nat) (s : State) : State × Option Answer :=
  if ¬ (1 ≤ count ∧ count ≤ 8) then (s, some (.refuse .badValue))
  else if s.store.placesTaken then (s, some (.refuse .busy))
  else (s.enqueue (.readHost tag first (min count (Config.maxNumber + 1 - first))), none)

/-- The sectors that an earlier release access already owes a mark. -/
def Store.marksOwed (x : Store) : List Nat :=
  (x.queue.map fun a => match a with | .release l => l | _ => []).flatten

/-- The sectors that need a RELEASED mark up to a point, oldest first (R110). -/
def Store.marksNeeded (x : Store) (point : Nat) : List Nat :=
  (x.bySeq fun e => e.state == .full && !e.released && decide (e.last ≤ point)).filter fun i => !x.marksOwed.contains i

/-- ALIBI_RELEASE (R110). -/
def reqAlibiRelease (upTo : Nat) (s : State) : State × Answer :=
  let point := max (min upTo s.store.newest) s.store.releasePoint
  let marks := s.store.marksNeeded point
  let taken := s.setStore { s.store with releasePoint := point }
  if s.store.condition = .failed ∨ marks = [] then (taken, .accept (le32 point))
  else if s.store.placesTaken then (s, .refuse .busy)
  else (taken.enqueue (.release marks), .accept (le32 point))

/-- The bytes of a sector in ALIBI_INFO (R112). -/
def sectorBytes (e : SectorEntry) : List Byte :=
  byte1 e.state.code ++ byte1 (flagsByte [e.released]) ++ byte1 (flagsByte [e.pending]) ++ le32 e.seq ++ byte1 e.used

/-- ALIBI_INFO (R112). -/
def reqAlibiInfo (s : State) : State × Answer :=
  let x := s.store
  (s, .accept (le32 x.oldest ++ le32 x.newest ++ le32 x.releasePoint ++ byte1 x.condition.code ++ le16 s.cal.counterP
    ++ le16 s.cal.counterB ++ le16 x.damagedFound ++ byte1 x.retired ++ (x.table.map sectorBytes).flatten))

end Sys2Proof.Machine
end

