-- ==== Sys2Proof/Machine/Calibration.lean ====
section
/-! DEFINITION. The requests of the calibration unit and the metrology switch (chapter 3). -/

namespace Sys2Proof.Machine

/-- The session fields change. -/
def State.setSession (x : Session) (s : State) : State := s.setCal { s.cal with session := some x }

/-- The home state of a session begun on a channel (R50). -/
def Channel.home (x : Channel) : ChState := if x.state = .fault then x.resume else x.state

/-- The session that CAL_BEGIN creates (R50). -/
def State.newSession (c : Ch) (s : State) : Session :=
  { channel := c, home := (s.ch c).home
    zc := (s.inForce c).map (·.zc), span := (s.inForce c).map fun k => (k.cs, k.ms), params := s.params c
    zeroStaged := false, spanStaged := false, paramsStaged := false, committing := false, endMark := false,
    cause := .request }

/-- The refusal of a CAL_BEGIN (R50). -/
def calBeginRefusal (s : State) : Option Result :=
  if !s.cal.switchClosed then some .switchOpen
  else if s.txn.state ≠ .idle then some .wrongState
  else if s.cal.session.isSome then some .busy
  else if s.link.starting then some .starting
  else none

/-- CAL_BEGIN (R50). -/
def reqCalBegin (c : Ch) (s : State) : State × Answer :=
  match calBeginRefusal s with
  | some r => (s, .refuse r)
  | none =>
    let s := s.setCal { s.cal with session := some (s.newSession c), lastChannel := c }
    let s := (s.moveChannel c .calibrating false).raiseCal .begun .none
    (s, .accept (le16 (s.cal.counter c)))

/-- The session that a staging request acts on, or its refusal (R52, R53, R54, R58). -/
def State.openSession (s : State) : Except Result Session :=
  match s.cal.session with
  | none => .error .wrongState
  | some x => if x.committing then .error .busy else .ok x

/-- The filtered count that a point is staged from, or the refusal (R52). -/
def State.pointCount (c : Ch) (s : State) : Except Result Int :=
  match (s.ch c).latest with
  | none => .error .motion
  | some r =>
    if !r.stable then .error .motion
    else if (s.report c).condition = .saturated then .error .outOfRange
    else .ok r.a

/-- CAL_POINT ZERO (R52). -/
def calPointZero (s : State) : State × Answer :=
  match s.openSession with
  | .error r => (s, .refuse r)
  | .ok x =>
    match s.pointCount x.channel with
    | .error r => (s, .refuse r)
    | .ok a => (s.setSession { x with zc := some a, zeroStaged := true }, .accept (leI32 a))

/-- CAL_POINT SPAN (R52). -/
def calPointSpan (mass : Nat) (s : State) : State × Answer :=
  match s.openSession with
  | .error r => (s, .refuse r)
  | .ok x =>
    if ¬ (1000 ≤ mass ∧ mass ≤ 60000000) then (s, .refuse .badValue)
    else
      match s.pointCount x.channel with
      | .error r => (s, .refuse r)
      | .ok a => (s.setSession { x with span := some (a, (mass : Int)), spanStaged := true }, .accept (leI32 a))

/-- CAL_POINT (R52): ZERO 0, SPAN 1. -/
def reqCalPoint (point mass : Nat) (s : State) : State × Answer :=
  match point with
  | 0 => calPointZero s
  | _ => calPointSpan mass s

/-- CAL_PARAMS (R53). -/
def reqCalParams (max : Int) (e n st tracking : Nat) (s : State) : State × Answer :=
  match s.openSession with
  | .error r => (s, .refuse r)
  | .ok x =>
    if !paramsOk x.channel max e n st ∨ 1 < tracking then (s, .refuse .badValue)
    else
      (s.setSession { x with
         params := { max := max.toNat, e := e, n := n, s := st, tracking := tracking == 1 }, paramsStaged := true },
       .accept [])

/-- The staged calibration, if it passes validity (R54). -/
def Session.staged (x : Session) : Option Calibration :=
  match x.zc, x.span with
  | some zc, some (cs, ms) =>
    if relationsOk zc cs ms x.params then some { zc := zc, cs := cs, ms := ms, params := x.params } else none
  | _, _ => none

/-- CAL_COMMIT (R54, R55). -/
def reqCalCommit (s : State) : State × Answer :=
  match s.openSession with
  | .error r => (s, .refuse r)
  | .ok x =>
    match x.staged with
    | none => (s, .refuse .outOfRange)
    | some k =>
      if s.store.condition = .storeFull then (s, .refuse .storeFull)
      else if s.store.condition = .failed then (s, .refuse .storeFailed)
      else if s.store.placesTaken then (s, .refuse .busy)
      else
        let counter := sat16 (s.cal.counter x.channel + 1)
        let s := (s.setSession { x with committing := true }).raiseCal .committing .none
        (s.enqueue (.write (.cal { channel := x.channel, carried := false, counter := counter, cal := k })),
         .accept (le16 counter))

/-- CAL_ABANDON (R58). -/
def reqCalAbandon (s : State) : State × Answer :=
  match s.openSession with
  | .error r => (s, .refuse r)
  | .ok x => ((s.endSession x).raiseCal .abandoned .request, .accept [])

/-- The metrology switch opens while a session exists (R59). -/
def State.switchOpens (x : Session) (s : State) : State :=
  if x.committing then (s.setSession { x with endMark := true, cause := .switch }).raiseCal .switch .none
  else (s.endSession x).raiseCal .abandoned .switch

/-- A debounced change of the metrology switch (R49, R59). -/
def evMetrologySwitchChange (closed : Bool) (s : State) : State :=
  if s.cal.switchClosed = closed then s
  else
    let s := s.setCal { s.cal with switchClosed := closed }
    match closed, s.cal.session with
    | false, some x => s.switchOpens x
    | _, _ => s.raiseCal .switch .none

end Sys2Proof.Machine
end

