-- ==== Sys2Proof/Machine/CardDecode.lean ====
section
/-! DEFINITION. Decoding a card track (section 8.3): candidates, bits, framing, the LRC and the choice among the candidates. -/

namespace Sys2Proof.Machine

/-- The format of a track (R151). -/
structure TrackFormat where
  width   : Nat
  start   : Nat
  finish  : Nat
  maxData : Nat

def trackFormat : Track → TrackFormat
  | .a => { width := 7, start := 5, finish := 31, maxData := 79 }
  | .b => { width := 5, start := 11, finish := 15, maxData := 40 }

/-! ## Bits (R150) -/

/-- The segments of consecutive intervals between GAP markers. -/
def segments (l : List (Option Nat)) : List (List Nat) :=
  l.foldr (fun e acc => match e with
    | none => [] :: acc
    | some i => match acc with
      | [] => [[i]]
      | seg :: rest => (i :: seg) :: rest) [[]]

/-- The first segment with the most intervals. -/
def longest (l : List (List Nat)) : List Nat := l.foldl (fun best seg => if best.length < seg.length then seg else best) []

/-- The bits of a run of intervals under the reference T. -/
def bitsFrom : Nat → List Nat → List Bool
  | _, [] => []
  | t, [i] => if 3 * t ≤ 4 * i then [false] else []
  | t, i :: j :: rest =>
    if 3 * t ≤ 4 * i then false :: bitsFrom ((3 * t + i) / 4) (j :: rest)
    else true :: bitsFrom ((3 * t + i + j) / 4) rest

/-- The bits of a segment: the first interval is discarded, and T is set to the second. -/
def segmentBits : List Nat → List Bool
  | _ :: t :: rest => bitsFrom t (t :: rest)
  | _ => []

/-- The bits of a candidate's entries. -/
def candidateBits (l : List (Option Nat)) : List Bool := segmentBits (longest (segments l))

/-! ## Characters (R151) -/

/-- A number from its bits, least significant first. -/
def bitsNat : List Bool → Nat
  | [] => 0
  | b :: rest => (if b then 1 else 0) + 2 * bitsNat rest

/-- The parity of a whole character is good when its number of 1 bits is odd. -/
def oddOnes (l : List Bool) : Bool := (l.filter id).length % 2 == 1

/-- The data bits of a character. -/
def charData (c : List Bool) : Nat := bitsNat (c.take (c.length - 1))

/-- A character and the bits behind it, or none where the bits run out. -/
def takeChar (width : Nat) (l : List Bool) : Option (List Bool × List Bool) :=
  if l.length < width then none else some (l.take width, l.drop width)

/-- The bits behind the first occurrence of the start character with its good parity. -/
def afterStart (f : TrackFormat) : List Bool → Option (List Bool)
  | [] => none
  | b :: rest =>
    match takeChar f.width (b :: rest) with
    | some (c, behind) => if charData c = f.start ∧ oddOnes c then some behind else afterStart f rest
    | none => none

/-- What framing leaves: the status, the parity-error count and the data characters. -/
structure Framed where
  status       : TrackStatus
  parityErrors : Nat
  chars        : List Nat
  deriving DecidableEq, Repr

/-- The LRC matches when its parity is good and its data bits equal the exclusive-or (R152). -/
def lrcMatches (f : TrackFormat) (x : Nat) (bits : List Bool) : Bool :=
  match takeChar f.width bits with
  | some (c, _) => oddOnes c && charData c == x
  | none => false

/-- Characters are taken until the end character; `room` is how many data characters may still come (R151, R152). -/
def frameFrom (f : TrackFormat) : (room : Nat) → (errors x : Nat) → (chars : List Nat) → List Bool → Framed
  | room, errors, x, chars, bits =>
    match takeChar f.width bits with
    | none => { status := .noEnd, parityErrors := errors, chars := [] }
    | some (c, rest) =>
      let counted := min 255 (if oddOnes c then errors else errors + 1)
      let x := x ^^^ charData c
      if charData c = f.finish then
        { status := if !lrcMatches f x rest then .lrcErr else if 0 < counted then .parityErr else .ok
          parityErrors := counted, chars := chars }
      else
        match room with
        | 0 => { status := .noEnd, parityErrors := errors, chars := [] }
        | room + 1 => frameFrom f room counted x (chars ++ [charData c]) rest

/-- A candidate's entries read whole (R149 to R152). -/
def readCandidate (f : TrackFormat) (l : List (Option Nat)) : Framed :=
  if l.all Option.isNone then { status := .empty, parityErrors := 0, chars := [] }
  else
    match afterStart f (candidateBits l) with
    | none => { status := .noStart, parityErrors := 0, chars := [] }
    | some bits => frameFrom f f.maxData 0 f.start [] bits

/-! ## The choice (R153) -/

/-- A candidate with its pass and order. -/
def candidate (f : TrackFormat) (pass : Pass) (reversed : Bool) (s : Option Stream) : TrackBlock :=
  let entries := (s.map (·.entries)).getD []
  let r := readCandidate f (if reversed then entries.reverse else entries)
  { status := r.status, pass := pass, reversed := reversed, parityErrors := r.parityErrors, chars := r.chars }

/-- The four candidates in the order of R149. -/
def candidates (f : TrackFormat) (insertion withdrawal : Option Stream) : List TrackBlock :=
  [candidate f .withdrawal false withdrawal, candidate f .withdrawal true withdrawal,
   candidate f .insertion false insertion, candidate f .insertion true insertion]

/-- The first of some blocks with the lowest parity-error count. -/
def fewestErrors : List TrackBlock → Option TrackBlock
  | [] => none
  | b :: rest =>
    match fewestErrors rest with
    | some c => if c.parityErrors < b.parityErrors then some c else some b
    | none => some b

/-- The block of a track, or none where both passes are absent (R148, R153). -/
def decodeTrack (k : Track) (insertion withdrawal : Option Stream) : Option TrackBlock :=
  if insertion.isNone && withdrawal.isNone then none
  else
    let cs := candidates (trackFormat k) insertion withdrawal
    (cs.find? (·.status == .ok)).or
      ((fewestErrors (cs.filter fun c => c.status == .parityErr || c.status == .lrcErr)).or cs.head?)

end Sys2Proof.Machine
end

