-- ==== Sys2Proof/Machine/Card.lean ====
section
/-! DEFINITION. The card reader (chapter 8): the slot, capture, the held read, CARD_ARM, CARD_DISARM and CARD_FETCH. -/

namespace Sys2Proof.Machine

/-! ## The CARD_STATE notice (R159) -/

/-- Events of CARD_STATE (R159), codes 0 to 6. -/
inductive CardEvent where
  | none | misinsert | ready | expired | fetched | fault | discarded
  deriving DecidableEq, Repr

def CardEvent.code : CardEvent → Nat
  | .none => 0 | .misinsert => 1 | .ready => 2 | .expired => 3 | .fetched => 4 | .fault => 5 | .discarded => 6

def Seat.code : Seat → Nat | .empty => 0 | .entering => 1 | .seated => 2 | .withdrawing => 3 | .readerFault => 5

/-- The slot state reported (R141): DECODING while the decoder is BUSY. -/
def Card.slotCode (c : Card) : Nat := if c.decoder.isSome then 4 else c.seat.code

/-- The status field of a track: 6 where no read is held or the track is not in it. -/
def heldStatus : Option TrackBlock → Nat
  | some b => b.status.code
  | none => 6

/-- CARD_STATE (R159). -/
def Card.bytes (c : Card) (event : CardEvent) : List Byte :=
  [Byte.of c.slotCode, Byte.of event.code, Byte.of (armedFlags c), Byte.of (cardFlags c)]
    ++ byte1 (match c.held with | some r => r.number | none => c.counter)
    ++ byte1 (heldStatus (c.held.bind (·.trackA))) ++ byte1 (heldStatus (c.held.bind (·.trackB)))

def State.raiseCard (event : CardEvent) (s : State) : State := s.raise .cardState (s.card.bytes event)

/-! ## The slot (R141 to R144) -/

/-- The seat position taken from the switches as they stand (R141). -/
def seatOf (frontClosed rearClosed : Bool) : Seat :=
  match frontClosed, rearClosed with
  | false, false => .empty
  | true, false => .entering
  | true, true => .seated
  | false, true => .readerFault

/-- Is some capture stream held? -/
def Streams.any (x : Streams) : Bool := x.insertA.isSome || x.insertB.isSome || x.withdrawA.isSome || x.withdrawB.isSome

/-- A new stream of R147. -/
def Stream.fresh : Stream := { entries := [], overflow := false, phase := .waitFirst }

/-- A pass begins (R147): one stream for each armed track, if the decoder is IDLE. -/
def Card.beginPass (c : Card) (p : Pass) : Card :=
  let a := if c.armedA && c.decoder.isNone then some Stream.fresh else none
  let b := if c.armedB && c.decoder.isNone then some Stream.fresh else none
  match p with
  | .insertion => { c with pass := some p, streams := { c.streams with insertA := a, insertB := b } }
  | .withdrawal => { c with pass := some p, streams := { c.streams with withdrawA := a, withdrawB := b } }

/-- The card-left timer starts on entering SEATED (R144). -/
def Card.seated (c : Card) (left : Timer) : Card := { c with seat := .seated, pass := none, leftTimer := left }

/-- The front switch opens: CARD_LEFT is released (R143, R144). -/
def State.releaseCardLeft (s : State) : State :=
  if s.card.cardLeft then (s.setCard { s.card with cardLeft := false }).endSource .cardLeft else s

/-- READER_FAULT is entered (R143). -/
def Card.faulted (c : Card) : Card :=
  { c with seat := .readerFault, streams := Streams.none, pass := none, leftTimer := none }

/-- The front switch opens in WITHDRAWING (R148): the decoder takes the streams present. -/
def Card.withdrawn (c : Card) : Card :=
  let c := { c with seat := .empty, pass := none }
  if c.streams.any then { c with decoder := some c.streams, streams := Streams.none } else c

/-- The seat position moves at a change of a switch, by the table of R142; none is a dash of the table. -/
def Card.move (c : Card) (left : Timer) (switch : CardSwitch) (closed : Bool) : Option (Card × CardEvent) :=
  match c.seat, switch, closed with
  | .empty, .front, true => some ({ c with seat := .entering }.beginPass .insertion, .none)
  | .empty, .rear, true => some (c.faulted, .fault)
  | .entering, .front, false => some ({ c with seat := .empty, streams := Streams.none, pass := none }, .misinsert)
  | .entering, .rear, true => some (c.seated left, .none)
  | .seated, .front, false => some (c.faulted, .fault)
  | .seated, .rear, false => some ({ c with seat := .withdrawing, leftTimer := none }.beginPass .withdrawal, .none)
  | .withdrawing, .front, false => some (c.withdrawn, .none)
  | .withdrawing, .rear, true =>
    some ({ c with streams := { c.streams with withdrawA := none, withdrawB := none } }.seated left, .none)
  | .readerFault, _, false => if !c.frontClosed && !c.rearClosed then some ({ c with seat := .empty }, .none) else none
  | _, _, _ => none

/-- The level of a switch. -/
def Card.level (c : Card) : CardSwitch → Bool
  | .front => c.frontClosed
  | .rear => c.rearClosed

def Card.setLevel (c : Card) (closed : Bool) : CardSwitch → Card
  | .front => { c with frontClosed := closed }
  | .rear => { c with rearClosed := closed }

/-- A debounced change of a card switch (R140, R142, R143). -/
def evCardSwitchChange (switch : CardSwitch) (closed : Bool) (s : State) : State :=
  if s.card.level switch = closed then s
  else
    let s := s.setCard (s.card.setLevel closed switch)
    match s.card.move (s.timer (s.card.leftS * 1000)) switch closed with
    | none => s
    | some (c, event) =>
      let s := s.setCard c
      let s := if switch = .front ∧ !closed then s.releaseCardLeft else s
      s.raiseCard event

/-! ## Capture (R147) -/

/-- The stream that captures a track in the pass in progress. -/
def Card.capturing (c : Card) (k : Track) : Option Stream :=
  match c.pass, k with
  | some .insertion, .a => c.streams.insertA
  | some .insertion, .b => c.streams.insertB
  | some .withdrawal, .a => c.streams.withdrawA
  | some .withdrawal, .b => c.streams.withdrawB
  | none, _ => none

def Card.setCapturing (c : Card) (k : Track) (v : Stream) : Card :=
  match c.pass, k with
  | some .insertion, .a => { c with streams := { c.streams with insertA := some v } }
  | some .insertion, .b => { c with streams := { c.streams with insertB := some v } }
  | some .withdrawal, .a => { c with streams := { c.streams with withdrawA := some v } }
  | some .withdrawal, .b => { c with streams := { c.streams with withdrawB := some v } }
  | none, _ => c

/-- An entry joins a stream, or marks it OVERFLOW. -/
def Stream.store (x : Stream) (e : Option Nat) : Stream :=
  if x.overflow then x
  else if Config.streamEntries ≤ x.entries.length then { x with overflow := true }
  else { x with entries := x.entries ++ [e] }

/-- A flux transition, with the whole microseconds since the one before it. -/
def Stream.transition (x : Stream) (elapsed : Nat) : Stream :=
  match x.phase with
  | .waitFirst | .inGap => { x with phase := .timing }
  | .timing => x.store (some (max 1 (min 65535 elapsed)))

/-- 65,535 µs pass without a transition (R147). DESIGN CHOICE: where the transition that ended a gap is followed by another such
lapse, a second GAP marker is stored right behind the first (log entry 62). -/
def Stream.gap (x : Stream) : Stream :=
  match x.phase with
  | .timing => { x.store none with phase := .inGap }
  | .waitFirst | .inGap => x

def evFluxTransition (k : Track) (elapsed : Nat) (s : State) : State :=
  match s.card.capturing k with
  | some x => s.setCard (s.card.setCapturing k (x.transition elapsed))
  | none => s

def evFluxGap (k : Track) (s : State) : State :=
  match s.card.capturing k with
  | some x => s.setCard (s.card.setCapturing k x.gap)
  | none => s

/-! ## The held read (R154 to R156) -/

/-- Is a stream marked OVERFLOW? -/
def overflowed : Option Stream → Bool
  | some x => x.overflow
  | none => false

/-- The read record of a decode (R154, R155). -/
def Card.read (c : Card) (x : Streams) (txn : Nat) : CardRead :=
  { number := (c.counter + 1) % 256, txn := txn
    trackA := decodeTrack .a x.insertA x.withdrawA, trackB := decodeTrack .b x.insertB x.withdrawB
    replaced := c.held.isSome
    overflow := overflowed x.insertA || overflowed x.insertB || overflowed x.withdrawA || overflowed x.withdrawB }

/-- A decode ends (R149, R154, R155). -/
def evDecodeEnd (s : State) : State :=
  match s.card.decoder with
  | none => s
  | some x =>
    let s := s.setCard { s.card with
      decoder := none, counter := (s.card.counter + 1) % 256, held := some (s.card.read x s.txn.label)
      holdTimer := s.timer (s.card.holdS * 1000) }
    s.raiseCard .ready

/-- The held read leaves the part. -/
def State.eraseRead (event : CardEvent) (s : State) : State :=
  (s.setCard { s.card with held := none, holdTimer := none }).raiseCard event

/-- The hold timer expires (R155). -/
def evHoldTimerExpiry (s : State) : State :=
  match s.card.holdTimer with
  | none => s
  | some t => (s.atExpiry (some t)).eraseRead .expired

/-- The card-left timer expires (R144): a source already asserted is not asserted a second time. -/
def evCardLeftTimerExpiry (s : State) : State :=
  match s.card.leftTimer with
  | none => s
  | some t =>
    let s := s.atExpiry (some t)
    let s := s.setCard { s.card with leftTimer := none }
    if s.card.cardLeft then s
    else ((s.setCard { s.card with cardLeft := true }).assertSource .cardLeft).raiseCard .none

/-! ## Requests -/

/-- CARD_ARM (R145): A 0, B 1, both 2. -/
def reqCardArm (tracks : Nat) (s : State) : State × Answer :=
  let a := decide (tracks ≠ 1)
  let b := decide (tracks ≠ 0)
  if s.card.armedA = a ∧ s.card.armedB = b then (s, .accept [])
  else ((s.setCard { s.card with armedA := a, armedB := b }).raiseCard .none, .accept [])

/-- CARD_DISARM (R146). -/
def reqCardDisarm (s : State) : State × Answer :=
  let held := s.card.streams.any
  let changed := s.card.armedA || s.card.armedB
  let s := s.setCard { s.card with armedA := false, armedB := false, streams := Streams.none }
  (if held then s.raiseCard .discarded else if changed then s.raiseCard .none else s, .accept [])

/-- The block of one track in a read record (section 1.7). -/
def trackBytes (track : Nat) (b : TrackBlock) : List Byte :=
  byte1 track ++ byte1 b.status.code ++ byte1 b.pass.code ++ byte1 (flagsByte [b.reversed]) ++ byte1 b.parityErrors
    ++ byte1 b.chars.length ++ b.chars.map Byte.of

/-- The card read record (section 1.7). -/
def CardRead.bytes (r : CardRead) : List Byte :=
  byte1 r.number ++ le32 r.txn ++ byte1 (readFlags r)
    ++ (match r.trackA with | some b => trackBytes 0 b | none => [])
    ++ (match r.trackB with | some b => trackBytes 1 b | none => [])

/-- CARD_FETCH (R156). -/
def reqCardFetch (s : State) : State × Answer :=
  match s.card.held with
  | none => (s, .refuse .notFound)
  | some r => (s.eraseRead .fetched, .accept r.bytes)

/-! ## Lane reset (R158) -/

/-- The position from the switches, with the card-left timer of a card found SEATED. -/
def Card.sampled (c : Card) (left : Timer) : Card :=
  let seat := seatOf c.frontClosed c.rearClosed
  { c with seat := seat, leftTimer := if seat = .seated then left else none }

def State.resetCard (s : State) : State :=
  let s := s.releaseCardLeft
  let c := { s.card with
    decoder := none, streams := Streams.none, pass := none, held := none, holdTimer := none, armedA := false, armedB := false }
  s.setCard (c.sampled (s.timer (s.card.leftS * 1000)))

end Sys2Proof.Machine
end

