-- ==== Sys2Proof/Machine/Pricing.lean ====
section
/-! DEFINITION. Priced weighings (chapter 5): PRICE_WEIGH, the readings of channel P, the latch, the settle limit, PRICE_CANCEL. -/

namespace Sys2Proof.Machine

/-- The refusal of a PRICE_WEIGH (R80), in the order of its steps. -/
def priceRefusal (unitPrice : Nat) (presetTare : Int) (bag : Bool) (s : State) : Option Result :=
  if s.pw.state ≠ .idle then some .busy
  else if ¬ (s.txn.state = .opened ∧ (s.txn.receipt = .none ∨ s.txn.receipt = .opened)) then some .wrongState
  else
    match s.chP.state.refusal with
    | some r => some r
    | none =>
      if ¬ (1 ≤ unitPrice ∧ unitPrice ≤ Config.maxUnitPrice) then some .badValue
      else if presetTare ≠ 0 ∧ presetCandidate (s.params .p) presetTare = none then some .outOfRange
      else if Config.salePlaces ≤ s.txn.sales.length then some .full
      else if bag ∧ s.bag.enabled ∧ s.bag.placesFull then some .full
      else if s.store.condition = .failed then some .storeFailed
      else if s.store.condition = .storeFull then some .storeFull
      else none

/-- The effects of an accepted PRICE_WEIGH, in the order of R81. -/
def State.acceptPrice (unitPrice : Nat) (presetTare : Int) (bag : Bool) (tolerance : Int) (s : State) : State :=
  let s := match if presetTare = 0 then none else presetCandidate (s.params .p) presetTare with
    | some c => s.setTare c
    | none => s
  let reserves := bag && s.bag.enabled
  let s := if reserves then s.reserveSlot else s
  let s := s.setPw { s.pw with
    txn := s.txn.number, unitPrice := unitPrice, preset := decide (presetTare ≠ 0), reserved := reserves
    tolerance := if reserves then s.clampTolerance tolerance else 0
    settle := s.timer (s.pw.settleS * 1000), latch := none
    state := if s.pw.rearm then .waitStable else .waitRearm
    result := .none, reason := .none, lastAlibi := 0 }
  (s.setTxn { s.txn with inFlight := true }).raisePrice

/-- PRICE_WEIGH (R80, R81); bit 0 of the flags is BAG. -/
def reqPriceWeigh (unitPrice : Nat) (presetTare : Int) (flags : Nat) (tolerance : Int) (s : State) : State × Answer :=
  match priceRefusal unitPrice presetTare (flags % 2 == 1) s with
  | some r => (s, .refuse r)
  | none =>
    let s := s.acceptPrice unitPrice presetTare (flags % 2 == 1) tolerance
    (s, .accept (byte1 s.pw.state.code ++ leI32 (s.chP.tare / 1000) ++ leI16 s.pw.tolerance))

/-- The test that sets the re-arm flag at a reading (R83). -/
def rearms (e : Nat) (reference : Int) (r : Report) : Bool :=
  decide (r.state = .weighing ∧ r.condition = .valid
    ∧ ((r.gross.natAbs : Int) ≤ 5 * e ∨ 20 * (e : Int) ≤ ((r.net - reference).natAbs : Int)))

/-- A reading of channel P is tested for the re-arm (R83, R85). -/
def State.testRearm (r : Report) (s : State) : State :=
  if !s.pw.rearm ∧ rearms (s.params .p).e s.pw.reference r then
    if s.pw.state = .waitRearm then (s.setPw { s.pw with rearm := true, state := .waitStable }).raisePrice
    else s.setPw { s.pw with rearm := true }
  else s

/-- The test of the latch at a reading (R86). -/
def latches (e : Nat) (r : Report) : Bool :=
  decide (r.state = .weighing ∧ r.condition = .valid ∧ r.stable = true ∧ 20 * (e : Int) ≤ r.net)

/-- net × unit price / 1,000, nearest, ties away from zero (R88). -/
def salePrice (net : Int) (unitPrice : Nat) : Int := roundAway (net * unitPrice) 1000

/-- The SALE record of a latch (R89). -/
def State.saleRecord (l : Latch) (s : State) : SaleFields :=
  { presetTare := s.pw.preset, tarePresent := decide (l.tare ≠ 0), counter := l.counter, txn := s.pw.txn,
    laneTime := s.txn.laneTime, unitPrice := s.pw.unitPrice, tare := l.tare, net := l.net, price := l.price }

/-- The latch, or the overflow of the price (R88, R89). -/
def State.latchSale (r : Report) (s : State) : State :=
  let l : Latch := { net := r.net, tare := r.tare, price := salePrice r.net s.pw.unitPrice, counter := s.cal.counterP }
  if l.price > Config.maxPrice then (s.setPw { s.pw with latch := some l }).endRequest .priceOverflow .none
  else
    let s := s.setPw { s.pw with latch := some l, rearm := false, reference := l.net, settle := none, state := .storing }
    s.raisePrice.offerSale (s.saleRecord l)

/-- A reading of channel P reaches the priced-weighing unit (R83 to R86). -/
def State.priceReading (s : State) : State :=
  let r := s.report .p
  let s := s.testRearm r
  if s.pw.state = .waitStable ∧ latches (s.params .p).e r then s.latchSale r else s

/-- The reason of an expiry, on the latest reading as it stands (R87). -/
def State.expiryReason (s : State) : PwReason :=
  let r := s.report .p
  if s.pw.state = .waitRearm then .notRearmed
  else if s.chP.latest = none then .motion
  else if r.condition = .saturated then .saturated
  else if r.condition = .over then .over
  else if r.condition = .under then .under
  else if !r.stable then .motion
  else if r.net < 20 * ((s.params .p).e : Int) then .belowMin
  else .motion

/-- The settle timer expires (R87). -/
def evSettleTimerExpiry (s : State) : State :=
  match s.pw.settle with
  | none => s
  | some t =>
    let s := s.atExpiry (some t)
    s.endRequest .expired s.expiryReason

/-- PRICE_CANCEL (R92). -/
def reqPriceCancel (s : State) : State × Answer :=
  match s.pw.state with
  | .waitRearm | .waitStable => (s.endRequest .cancelled .none, .accept [])
  | .storing => (s, .refuse .tooLate)
  | .idle | .detached => (s, .refuse .wrongState)

end Sys2Proof.Machine
end

