-- ==== Sys2Proof/Machine/Drawers.lean ====
section
/-! DEFINITION. Drawer ports (section 9.2): sensor, kick, hold, overdue and fitting; DRAWER_OPEN. -/

namespace Sys2Proof.Machine

/-- DRAWER_STATE (R176). -/
def drawerBytes (p : Port) (d : Drawer) : List Byte :=
  [Byte.of p.code, Byte.of d.state.code, Byte.of (drawerFlags d), Byte.of d.reason.code]

def drawerSlot : Port → Slot
  | .one => .drawer1
  | .two => .drawer2

/-- A pin level read through the polarity setting: does it read open (R167)? -/
def Drawer.readsOpen (d : Drawer) (high : Bool) : Bool := high != d.polarity

/-- DRAWER_FORCED is released unless a port still asserts it (R172, R199). -/
def State.releaseForced (s : State) : State := s.releaseSource .drawerForced (s.drw1.forced || s.drw2.forced)

/-- DRAWER_OVERDUE is released unless a port still asserts it (R172, R199). -/
def State.releaseOverdue (s : State) : State :=
  s.releaseSource .drawerOverdue (s.drw1.state == .overdue || s.drw2.state == .overdue)

/-- The port with its kick and hold over, its load released. -/
def Drawer.idle (d : Drawer) (state : DrawerState) : Drawer :=
  { d with state := state, kickTimer := none, holdTimer := none, overdueTimer := none, grant := 0 }

/-- The port enters OPEN, and its overdue timer starts (R172). -/
def State.enterOpen (p : Port) (forced : Bool) (s : State) : State :=
  let d := (s.drw p).idle .opened
  s.setDrw p { d with forced := forced, overdueTimer := s.timer (d.overdueS * 1000) }

/-- The states in which a held fitted value takes effect (R174). -/
def DrawerState.atRest : DrawerState → Bool
  | .closed | .opened | .overdue | .noOpen => true
  | _ => false

/-- The port takes its state from its sensor, without waiting (R166, R174). -/
def State.sampleSensor (p : Port) (s : State) : State :=
  let d := s.drw p
  let d := { d with sensorOpen := d.readsOpen d.levelHigh, forced := false }
  let s := s.setDrw p (d.idle .closed)
  if d.sensorOpen then s.enterOpen p false else s

/-- A fitted value takes effect where the port's state lets it (R174). DESIGN CHOICE: a port that becomes unfitted keeps its sensor
state as it stood (log entry 52). -/
def State.applyFitted (p : Port) (s : State) : State :=
  let d := s.drw p
  if d.fittedSet = d.fitted ∨ !d.state.atRest then s
  else if d.fittedSet then (s.setDrw p { d with fitted := true }).sampleSensor p
  else
    let d := { d.idle .closed with fitted := false, forced := false }
    (s.setDrw p d).releaseForced.releaseOverdue

/-- What follows a change of a port: a held fitted value may take effect, and a fired port reports (R174, R176). -/
def State.portMoved (p : Port) (s : State) : State := (s.applyFitted p).portChanged p

/-- The sensor state of a fitted port changes (table of R167). -/
def State.sensorEvent (p : Port) (opens : Bool) (s : State) : State :=
  let s := s.setDrw p { s.drw p with sensorOpen := opens }
  match (s.drw p).state, opens with
  | .closed, true => ((s.enterOpen p true).assertSource .drawerForced).portMoved p
  | .waitSupply, true => (s.enterOpen p false).portMoved p
  | .hold, true => ((s.enterOpen p false).afterRelease).portMoved p
  | .noOpen, true => (s.enterOpen p false).portMoved p
  | .opened, false | .overdue, false =>
    let d := (s.drw p).idle .closed
    ((s.setDrw p { d with forced := false }).releaseOverdue.releaseForced).portMoved p
  | _, _ => s

/-- A debounced change of the level of a port's sensor pin (R167). -/
def evDrawerSensorChange (p : Port) (high : Bool) (s : State) : State :=
  if (s.drw p).levelHigh = high then s
  else
    let s := s.setDrw p { s.drw p with levelHigh := high }
    let d := s.drw p
    if d.fitted ∧ d.readsOpen high ≠ d.sensorOpen then s.sensorEvent p (d.readsOpen high) else s

/-- The kick timer expires (R170). -/
def evKickTimerExpiry (p : Port) (s : State) : State :=
  let d := s.drw p
  match d.state, d.kickTimer with
  | .kick, some t =>
    let s := s.atExpiry (some t)
    let s :=
      if d.sensorOpen then s.enterOpen p false
      else s.setDrw p { d with state := .hold, kickTimer := none, grant := d.holdLoad, holdTimer := s.timer d.holdMs }
    s.afterRelease.portMoved p
  | _, _ => s

/-- The hold-limit timer expires (R171). -/
def evHoldLimitExpiry (p : Port) (s : State) : State :=
  let d := s.drw p
  match d.state, d.holdTimer with
  | .hold, some t => ((s.atExpiry (some t)).setDrw p (d.idle .noOpen)).afterRelease.portMoved p
  | _, _ => s

/-- The overdue timer expires (R172). -/
def evOverdueTimerExpiry (p : Port) (s : State) : State :=
  let d := s.drw p
  match d.state, d.overdueTimer with
  | .opened, some t =>
    let s := (s.atExpiry (some t)).setDrw p { d with state := .overdue, overdueTimer := none }
    (s.assertSource .drawerOverdue).portMoved p
  | _, _ => s

/-- DRAWER_OPEN (R168). -/
def reqDrawerOpen (p : Port) (reason : Nat) (s : State) : State × Answer :=
  match drawerRefusal p reason s with
  | some r => (s, .refuse r)
  | none =>
    let s := if reason = 0 then s.setTxn (s.txn.fire p) else s.setNoSale (sat16 (s.noSale + 1))
    let s := s.setDrw p { s.drw p with reason := if reason = 0 then .sale else .noSale, state := .waitSupply }
    let s := s.servePorts
    (s.takeTurn, .accept (byte1 (s.drw p).state.code))

/-- Lane reset of a fitted port (R175), but for the acts that follow a release, which come once for both ports. -/
def State.resetPort (p : Port) (s : State) : State :=
  let d := s.drw p
  if !d.fitted then s
  else
    let keeps := d.forced && (d.state == .opened || d.state == .overdue) && d.sensorOpen
    let s := s.setDrw p { d.idle .closed with forced := keeps }
    let s := if d.sensorOpen then s.enterOpen p keeps else s
    (s.releaseOverdue.releaseForced).applyFitted p

/-- The solenoid drive of a port: none, full or at the hold duty in percent (table of section 9.2). DESIGN CHOICE: in HOLD it
follows the setting hold_duty as it stands at each moment (log entry 51). -/
def Drawer.drive (d : Drawer) : Nat :=
  match d.state with
  | .kick => 100
  | .hold => d.holdDuty
  | _ => 0

end Sys2Proof.Machine
end

