-- ==== Sys2Proof/Machine/Printer.lean ====
section
/-! DEFINITION. The receipt printer's queue and engine (chapter 10): records, lines, the cutter, suspension and resumption, the
cancels, lane reset, PRINT_RECORDS, PRINT_CANCEL and PRINT_RESUME. -/

namespace Sys2Proof.Machine

/-! ## The queue (R177, R198) -/

def PrintRecord.isRaster : PrintRecord → Bool
  | .raster .. => true
  | _ => false

def Printer.recordsFree (p : Printer) : Nat := Config.printPlaces - p.queue.length

def Printer.bytesFree (p : Printer) : Nat :=
  Config.printBytes - Config.rasterBytes * p.queue.countP fun q => q.record.isRaster

/-- PRINT_STATE (R198). -/
def Printer.bytes (p : Printer) : List Byte :=
  [Byte.of p.engine.code, Byte.of (reasonBits p.reasons), Byte.of (printFlags p)] ++ le16 p.recordsFree ++ le16 p.bytesFree
    ++ le32 p.lastDone ++ byte1 p.doneCount ++ le32 p.damagedNumber

def State.raisePrint (s : State) : State := s.raise .printState s.prn.bytes

/-! ## Records (R181, R193) -/

/-- The record in progress completes and leaves the queue. -/
def State.completeRecord (s : State) : State :=
  s.setPrn { s.prn with queue := s.prn.queue.tail, work := none, ending := false, line := none }

/-- A cutter cycle of a kind begins (R189). -/
def State.startCut (partialCut : Bool) (s : State) : State :=
  s.setPrn { s.prn with cutter := some { partialCut := partialCut, driving := true }, jamTimer := s.timer Config.jamMs, engine := .cutting }

/-- Is a receipt that of the current transaction, not IDLE (R188, R193)? -/
def Txn.owns (t : Txn) (receipt : Nat) : Bool := t.state != .idle && receipt == t.number

/-- The receipt state becomes PRINTED (R193). -/
def State.receiptPrinted (receipt : Nat) (s : State) : State :=
  if s.txn.owns receipt ∧ s.txn.receipt = .queued then s.setReceipt .printed else s

/-- A RECEIPT_END is reached (R193). -/
def State.receiptDone (receipt : Nat) (s : State) : State :=
  (s.setPrn { s.prn with lastDone := receipt, doneCount := (s.prn.doneCount + 1) % 256 }).receiptPrinted receipt

/-- The engine takes up a record that takes time (R181). -/
def State.startRecord (r : PrintRecord) (s : State) : State :=
  match r with
  | .raster repeats dots => (s.setPrn { s.prn with work := some (.raster repeats dots) }).lineStart (rasterLoads dots)
  | .feed lines => (s.setPrn { s.prn with work := some (.feed lines) }).feedLine
  | .weighedLine n => (s.setPrn { s.prn with work := some (.reading n), engine := .waitStore }).offerLine n
  | .cut partialCut => (s.setPrn { s.prn with work := some (.cut partialCut) }).startCut partialCut
  | .receiptBegin _ | .receiptEnd => s

/-- The engine, with no record in progress, takes up the next one (R181): a RECEIPT_BEGIN or RECEIPT_END completes at once, and
the next follows. The bound covers the queue. -/
def State.startNextN : Nat → State → State
  | 0, s => s
  | k + 1, s =>
    if s.prn.reasons.any then s.suspend
    else if s.prn.cutter.isSome then s
    else
      match s.prn.queue with
      | [] => s.setPrn { s.prn with engine := .idle }
      | q :: _ =>
        match q.record with
        | .receiptBegin _ =>
          State.startNextN k ((s.setPrn { s.prn with damagedLine := false, damagedNumber := 0 }).completeRecord)
        | .receiptEnd => State.startNextN k ((s.receiptDone q.receipt).completeRecord)
        | r => s.startRecord r

def State.startNext (s : State) : State := s.startNextN (s.prn.queue.length + 1)

/-! ## The end of a line (R182, R188) -/

/-- The last dot line of a weighed line has printed (R188). -/
def State.weighedLinePrinted (j : TextJob) (s : State) : State :=
  let s := if j.damaged then s.setPrn { s.prn with damagedLine := true, damagedNumber := j.number } else s
  if s.txn.owns s.prn.receipt then s.setTxn (s.txn.mapSale j.number fun x => { x with printed := true }) else s

/-- What is left of the record in progress after one of its lines: none when it is complete. -/
def Work.afterLine : Work → Option Work
  | .raster left dots => if left ≤ 1 then none else some (.raster (left - 1) dots)
  | .feed left => if left ≤ 1 then none else some (.feed (left - 1))
  | .text j => if 24 * j.lines.length ≤ j.row + 1 then none else some (.text { j with row := j.row + 1 })
  | w => some w

/-- The engine goes on after a line: the next line, or the next record; it stops for any reason set (R191). -/
def State.goOn (s : State) : State :=
  if s.prn.reasons.any then s.suspend
  else
    match s.prn.work with
    | some w => s.workLine w
    | none => s.startNext

/-- The dot line or feed line ends (R182). -/
def State.lineEnds (w : Work) (s : State) : State :=
  let s := s.setPrn { s.prn with line := none }
  match w.afterLine with
  | some w' =>
    if s.prn.ending then s.completeRecord.goOn else (s.setPrn { s.prn with work := some w' }).goOn
  | none =>
    let s := match w with
      | .text j => s.weighedLinePrinted j
      | _ => s
    s.completeRecord.goOn

/-- A paper advance ends (R182). -/
def evPaperAdvanceEnd (s : State) : State :=
  match s.prn.line, s.prn.work with
  | some l, some w => if l.advancing then s.lineEnds w else s
  | _, _ => s

/-! ## The cutter (R189) -/

/-- A cutter cycle is over: the CUT completes, if it is still in the queue, and the engine goes on. -/
def State.cycleEnds (s : State) : State :=
  let s := s.setPrn { s.prn with cutter := none, jamTimer := none }
  let s := match s.prn.work with
    | some (.cut _) => s.completeRecord
    | _ => s
  s.goOn

/-- The drive stops after 300 ms, 200 ms before the jam timer's expiry. -/
def evCutterDriveEnd (s : State) : State :=
  match s.prn.cutter with
  | some c =>
    if c.driving then
      let s := s.atExpiry (s.prn.jamTimer.map (· - 200))
      if s.prn.cutterHome then s.cycleEnds else s.setPrn { s.prn with cutter := some { c with driving := false } }
    else s
  | none => s

/-- Does a cutter cycle wait for the home sensor? -/
def Printer.awaitsHome (p : Printer) : Bool := p.cutter.any fun c => !c.driving

/-- A debounced change of the cutter home sensor. -/
def evCutterHomeChange (home : Bool) (s : State) : State :=
  let s := s.setPrn { s.prn with cutterHome := home }
  if home ∧ s.prn.awaitsHome then s.cycleEnds else s

/-- The jam timer expires with the cutter not home: the CUT counts as done. -/
def evJamTimerExpiry (s : State) : State :=
  match s.prn.jamTimer with
  | some t =>
    if s.prn.awaitsHome then
      ((s.atExpiry (some t)).setPrn { s.prn with reasons := { s.prn.reasons with cutterJam := true } }).cycleEnds
    else s
  | none => s

/-! ## Suspension (R190, R191) -/

/-- The engine stops for the reasons set whose stop it stands at: LOW_SUPPLY with no phase and no advance in progress, PAPER_OUT
and HEAD_HOT with no line in progress; none of them during a cut (R191). -/
def State.checkStop (s : State) : State :=
  let p := s.prn
  let r := p.reasons
  let advancing := match p.line with
    | some l => l.advancing
    | none => false
  if p.engine = .suspended ∨ p.cutter.isSome then s
  else if (r.lowSupply ∧ s.supply.phase = none ∧ !advancing) ∨ ((r.paperOut ∨ r.headHot) ∧ p.line = none) then s.suspend
  else s

/-- What a stop by COVER_OPEN leaves to be restarted (R189, R191). -/
def Printer.coverRestart (p : Printer) : Restart :=
  if p.line.isSome then .reprintLine
  else
    match p.cutter with
    | some c => .repeatCut c.partialCut
    | none => p.restart

/-- A stop by COVER_OPEN (R191): the acts of a release follow only where a phase in progress released its load (R161, R162). -/
def State.coverStop (s : State) : State :=
  let s := s.setPrn { s.prn with
    line := none, cutter := none, jamTimer := none, restart := s.prn.coverRestart, engine := .suspended }
  if s.supply.phase.isSome then (s.setSupply { s.supply with phase := none, owed := none }).afterRelease else s.withdrawOwed

/-- A debounced change of the cover sensor. -/
def evCoverSensorChange (isOpen : Bool) (s : State) : State :=
  let was := s.prn.coverOpen
  let s := s.setPrn { s.prn with coverOpen := isOpen }
  if was ∨ !isOpen ∨ s.prn.reasons.coverOpen then s
  else
    let s := s.setPrn { s.prn with reasons := { s.prn.reasons with coverOpen := true } }
    if s.prn.engine = .suspended then s else s.coverStop

/-- A debounced change of the paper sensor. -/
def evPaperSensorChange (present : Bool) (s : State) : State :=
  let was := s.prn.paperPresent
  let s := s.setPrn { s.prn with paperPresent := present }
  if !was ∨ present then s
  else (s.setPrn { s.prn with reasons := { s.prn.reasons with paperOut := true } }).checkStop

/-- The paper-low sensor changes (R190). -/
def evPaperLowChange (low : Bool) (s : State) : State := s.setPrn { s.prn with paperLow := low }

/-! ## Resumption (R192) -/

/-- The engine takes up its work, in the order of R192. -/
def State.resume (s : State) : State :=
  let restart := s.prn.restart
  let s := s.setPrn { s.prn with restart := .none }
  match restart, s.prn.work with
  | .reprintLine, some w => s.workLine w
  | .repeatCut partialCut, _ => s.startCut partialCut
  | _, none => s.startNext
  | _, some (.reading _) => s.setPrn { s.prn with engine := .waitStore }
  | _, some w => if s.prn.line.isSome then s.phaseStart else s.workLine w

/-- The engine resumes when it stands SUSPENDED and the last reason has cleared. -/
def State.tryResume (s : State) : State :=
  if s.prn.engine = .suspended ∧ !s.prn.reasons.any then s.resume else s

/-- The head monitor samples V and θ (R190 to R192); the inputs' values at the extra samples that follow come with it (log entry
39). A reason that the sample sets or clears raises PRINT_STATE, also where an extra sample of the resumption undoes the change
(R191, R198). -/
def evHeadMonitorSample (v : SupplySamples) (temp : TempSamples) (s : State) : State :=
  let before := s.prn.reasons
  let sampled := (before.sampleSupply v.monitor).sampleTemp temp.monitor
  let s := s.setPrn { s.prn with
    headSupply := v.monitor, supplyInput := v.plannings, headTemp := temp.monitor, tempInput := temp.lineStarts
    reasons := sampled }
  let s := s.checkStop.tryResume
  if sampled = before then s else s.raisePrint

/-- The reasons after PRINT_RESUME: each of three clears where its condition holds (R192). -/
def Printer.cleared (p : Printer) : Reasons :=
  { p.reasons with
    paperOut := p.reasons.paperOut && !p.paperPresent
    coverOpen := p.reasons.coverOpen && p.coverOpen
    cutterJam := p.reasons.cutterJam && !p.cutterHome }

/-- PRINT_RESUME (R192). -/
def reqPrintResume (s : State) : State × Answer :=
  let r := s.prn.reasons
  if !(r.paperOut || r.coverOpen || r.cutterJam) then (s, .refuse .wrongState)
  else if s.prn.cleared = r then (s, .refuse .notAllowed)
  else
    let s := s.setPrn { s.prn with reasons := s.prn.cleared }
    let a := Answer.accept (byte1 (reasonBits s.prn.reasons))
    (s.tryResume, a)

/-! ## Cancels (R194, R195) and lane reset (R196) -/

/-- The printer's read is withdrawn if it has not been handed over; else its result is discarded (R194). -/
def Store.dropLineRead (x : Store) : Store :=
  { x with
    waiters := x.waiters.filter fun w => w != .line
    queue := x.queue.map fun a => match a with | .readPrinter n _ => .readPrinter n false | a => a }

/-- The record in progress ends with no line in progress (R194). -/
def State.dropRecord (s : State) : State :=
  let s := (s.setStore s.store.dropLineRead).completeRecord
  let s := (s.setPrn { s.prn with restart := .none }).withdrawOwed
  if s.prn.engine = .suspended then s else s.startNext

/-- The record in progress ends (R194): at the end of its line, with its cutter cycle, or at once. -/
def State.endRecord (s : State) : State :=
  match s.prn.work with
  | none => s
  | some _ =>
    if s.prn.cutter.isSome then s
    else if s.prn.line.isSome ∧ s.prn.engine ≠ .suspended then s.setPrn { s.prn with ending := true }
    else s.dropRecord

/-- The records not yet started: all but the head while a record is in progress. -/
def Printer.unstarted (p : Printer) : List Queued := if p.work.isSome then p.queue.tail else p.queue

/-- The records started. -/
def Printer.started (p : Printer) : List Queued := if p.work.isSome then p.queue.take 1 else []

/-- PRINT_CANCEL (R194). -/
def reqPrintCancel (s : State) : State × Answer :=
  let removed := s.prn.unstarted.length
  let s := s.setPrn { s.prn with queue := s.prn.started }
  let s := s.endRecord
  let s := s.setPrn { s.prn with restart := .none, openReceipt := none }
  (s.cancelReceiptState.raisePrint, .accept (le16 removed))

/-- TXN_ABORT cancels the transaction's receipt (R195). -/
def State.cancelReceipt (receipt : Nat) (s : State) : State :=
  let p := s.prn
  let mine := p.work.isSome ∧ p.receipt = receipt
  let s := s.setPrn { p with
    queue := p.started ++ p.unstarted.filter fun q => q.receipt != receipt
    openReceipt := p.openReceipt.filter fun o => o.number != receipt }
  if mine then s.endRecord else s

/-- Lane reset of the printer (R196), but for the acts that follow a release. -/
def State.resetPrinter (s : State) : State :=
  let s := s.setStore s.store.dropLineRead
  let s := s.setSupply { s.supply with phase := none, owed := none }
  s.setPrn { s.prn with
    queue := [], openReceipt := none, work := none, ending := false, line := none, restart := .none
    engine := if s.prn.cutter.isSome then .cutting else if s.prn.reasons.any then .suspended else .idle }

/-! ## PRINT_RECORDS (R178 to R180) -/

/-- The trial of a message: the open receipt, the receipt state and the records as the records so far leave them. -/
structure Trial where
  opened  : Option OpenReceipt
  receipt : ReceiptState
  records : List Queued
  deriving DecidableEq, Repr

/-- A record joins the trial under the open receipt. -/
def Trial.push (t : Trial) (receipt : Nat) (r : PrintRecord) : Trial :=
  { t with records := t.records ++ [{ record := r, receipt := receipt }] }

/-- A RECEIPT_BEGIN on the trial (R179). -/
def Trial.begin (x : Txn) (number : Nat) (t : Trial) : Except Result Trial :=
  if t.opened.isSome then .error .wrongState
  else if number ≠ 0 ∧ ¬ (number = x.number ∧ x.state ≠ .idle ∧ t.receipt = .none) then .error .wrongState
  else
    .ok ({ t with opened := some { number := number, queued := [] },
                  receipt := if number = 0 then t.receipt else .opened }.push number (.receiptBegin number))

/-- A WEIGHED_LINE on the trial (R180). -/
def Trial.line (x : Txn) (o : OpenReceipt) (number : Nat) (t : Trial) : Except Result Trial :=
  if o.number = 0 ∨ x.sale? number = none then .error .notFound
  else if o.queued.contains number then .error .badValue
  else .ok ({ t with opened := some { o with queued := o.queued ++ [number] } }.push o.number (.weighedLine number))

/-- The sales that a RECEIPT_END appends lines for (R180). -/
def unqueuedSales (x : Txn) (o : OpenReceipt) : List Nat :=
  if o.number = 0 then [] else (x.sales.map (·.number)).filter fun n => !o.queued.contains n

/-- A RECEIPT_END on the trial (R180). -/
def Trial.end_ (x : Txn) (o : OpenReceipt) (t : Trial) : Except Result Trial :=
  if o.number ≠ 0 ∧ x.inFlight then .error .busy
  else
    let t := (unqueuedSales x o).foldl (fun t n => t.push o.number (.weighedLine n)) t
    .ok ({ t with opened := none, receipt := if o.number = 0 then t.receipt else .queued }.push o.number .receiptEnd)

/-- One record on the trial (R178 to R180). DESIGN CHOICE: with no receipt open, WRONG_STATE is tested before BAD_VALUE and
NOT_FOUND (log entry 53). -/
def Trial.record (x : Txn) (r : PrintRecord) (t : Trial) : Except Result Trial :=
  match r, t.opened with
  | .receiptBegin number, _ => t.begin x number
  | _, none => .error .wrongState
  | .raster repeats dots, some o =>
    if 1 ≤ repeats ∧ repeats ≤ 255 then .ok (t.push o.number (.raster repeats dots)) else .error .badValue
  | .feed lines, some o =>
    if 1 ≤ lines ∧ lines ≤ 1000 then .ok (t.push o.number (.feed lines)) else .error .badValue
  | .weighedLine n, some o => t.line x o n
  | .cut partialCut, some o => .ok (t.push o.number (.cut partialCut))
  | .receiptEnd, some o => t.end_ x o

/-- The records of a message, one after another; the first that fails decides (R178). -/
def Trial.run (x : Txn) : List PrintRecord → Trial → Except Result Trial
  | [], t => .ok t
  | r :: rs, t =>
    match t.record x r with
    | .ok t' => Trial.run x rs t'
    | .error e => .error e

/-- The alibi numbers of the weighed lines among some records. -/
def lineNumbers (l : List Queued) : List Nat :=
  l.filterMap fun q => match q.record with | .weighedLine n => some n | _ => none

/-- A message that has passed is taken (R178, R74). -/
def State.takeRecords (t : Trial) (s : State) : State :=
  let flagged := lineNumbers t.records
  let s := s.setPrn { s.prn with queue := s.prn.queue ++ t.records, openReceipt := t.opened }
  let s := s.setTxn { s.txn with
    sales := s.txn.sales.map fun x => if flagged.contains x.number then { x with queued := true } else x }
  if t.receipt = s.txn.receipt then s else s.setReceipt t.receipt

/-- PRINT_RECORDS (R178). -/
def reqPrintRecords (rs : List PrintRecord) (s : State) : State × Answer :=
  match Trial.run s.txn rs { opened := s.prn.openReceipt, receipt := s.txn.receipt, records := [] } with
  | .error e => (s, .refuse e)
  | .ok t =>
    if s.prn.recordsFree < t.records.length
        ∨ s.prn.bytesFree < Config.rasterBytes * t.records.countP (fun q => q.record.isRaster) then (s, .refuse .full)
    else
      let s := s.takeRecords t
      let a := Answer.accept (countField t.records.length ++ le16 s.prn.recordsFree ++ le16 s.prn.bytesFree)
      (if s.prn.engine = .idle then s.startNext else s, a)

end Sys2Proof.Machine
end

