-- ==== Sys2Proof/Machine/Transaction.lean ====
section
/-! DEFINITION. The transaction's requests and its lane reset (chapter 4). -/

namespace Sys2Proof.Machine

/-- A port's states that refuse TXN_OPEN (R66). -/
def State.someDrawerOut (s : State) : Bool := s.drw1.state.unfinished || s.drw2.state.unfinished

/-- The refusal of a TXN_OPEN that verification makes (R66, steps 4 to 7). -/
def openBagRefusal (s : State) : Option Result :=
  match s.chB.state.refusal with
  | some r => some r
  | none =>
    let r := s.report .b
    if !s.chB.isStable then some .motion
    else if r.condition ≠ .valid then some .outOfRange
    else if s.bag.requireClear ∧ s.noiseBand < (r.gross.natAbs : Int) then some .bagNotClear
    else none

/-- The refusal of a TXN_OPEN (R66). -/
def txnOpenRefusal (s : State) : Option Result :=
  if s.txn.state ≠ .idle then some .wrongState
  else if s.someDrawerOut then some .drawerOpen
  else if Config.maxNumber ≤ s.txn.number then some .notAllowed
  else if s.bag.enabled then openBagRefusal s
  else none

/-- The context of a newly opened transaction (R67). -/
def Txn.fresh (number laneTime : Nat) : Txn := { Txn.reset with number := number, laneTime := laneTime, state := .opened }

/-- TXN_OPEN (R65 to R67). -/
def reqTxnOpen (laneTime : Nat) (s : State) : State × Answer :=
  match txnOpenRefusal s with
  | some r => (s, .refuse r)
  | none =>
    let s := s.setTxn (Txn.fresh (s.txn.number + 1) laneTime)
    let s := s.setTare 0
    let s := if s.bag.enabled then s.bagBegin (s.report .b).gross else s.bagOpenDisabled
    (s, .accept (le32 s.txn.number))

/-- A queue that refuses a tender (R68): a REMOVE entry, or an ADD entry that is not skippable. -/
def Bag.itemsPending (b : Bag) : Bool := b.entries.any fun e => e.dir == .remove || !e.skippable

/-- The refusal of a TXN_TENDER (R68). -/
def txnTenderRefusal (s : State) : Option Result :=
  if s.txn.state ≠ .opened ∧ s.txn.state ≠ .tender then some .wrongState
  else if s.txn.inFlight then some .busy
  else if s.bag.enabled ∧ s.bag.state = .hold then some .bagHold
  else if s.bag.enabled ∧ s.bag.itemsPending then some .itemsPending
  else none

/-- The flag of a tender kind is set: CASH 0, CARD 1, OTHER 2. -/
def Txn.tendered (t : Txn) (kind : Nat) : Txn :=
  match kind with
  | 0 => { t with tenderCash := true }
  | 1 => { t with tenderCard := true }
  | _ => { t with tenderOther := true }

/-- TXN_TENDER (R68). -/
def reqTxnTender (kind : Nat) (s : State) : State × Answer :=
  match txnTenderRefusal s with
  | some r => (s, .refuse r)
  | none =>
    let s := if s.bag.enabled then s.dropSkippable else s
    let s := s.setTxn { s.txn.tendered kind with state := .tender }
    (s.raiseTxn, .accept [])

/-- TXN_RESUME (R69). -/
def reqTxnResume (s : State) : State × Answer :=
  if s.txn.state ≠ .tender then (s, .refuse .wrongState)
  else if s.txn.fired1 ∨ s.txn.fired2 then (s, .refuse .notAllowed)
  else
    (s.setTxn { s.txn with tenderCash := false, tenderCard := false, tenderOther := false, state := .opened }, .accept [])

/-- A port in the drawers-fired set waits for supply (R70, R72). -/
def State.firedWaits (s : State) : Bool :=
  (s.txn.fired1 && s.drw1.state == .waitSupply) || (s.txn.fired2 && s.drw2.state == .waitSupply)

/-- TXN_CLOSE (R70). -/
def reqTxnClose (s : State) : State × Answer :=
  if s.txn.state ≠ .tender then (s, .refuse .wrongState)
  else if s.firedWaits then (s, .refuse .busy)
  else if s.txn.sales ≠ [] ∧ s.txn.receipt = .none then (s, .refuse .notAllowed)
  else (((s.setTxn { s.txn with state := .closing }).bagEnd).examineClosing, .accept [])

/-- The receipt state at an abort (R72). -/
def ReceiptState.aborted : ReceiptState → ReceiptState
  | .opened | .queued => .cancelled
  | r => r

/-- The weighing in flight ends, and the verifier with it (R72, steps 1 and 2). -/
def State.endWeighing (s : State) : State :=
  let s := if s.txn.inFlight then s.abortRequest else s
  s.bagEnd

/-- TXN_ABORT (R72). -/
def reqTxnAbort (s : State) : State × Answer :=
  if s.txn.state = .idle then (s, .refuse .wrongState)
  else if s.firedWaits then (s, .refuse .busy)
  else
    let s := s.endWeighing
    let s := if s.txn.receipt = .opened ∨ s.txn.receipt = .queued then s.cancelReceipt s.txn.number else s
    let s := s.setTxn { s.txn with receipt := s.txn.receipt.aborted }
    (s.txnToIdle .aborted, .accept [])

/-- Lane reset of the transaction (R77); the printer has applied its own. -/
def State.resetTxn (s : State) : State :=
  if s.txn.state = .idle then s
  else (s.setTxn { s.txn with receipt := s.txn.receipt.aborted, inFlight := false }).txnToIdle .reset

end Sys2Proof.Machine
end

