-- ==== Sys2Proof/Machine/Settings.lean ====
section
/-! DEFINITION. The settings of the part: SETTING_PUT (R17) and SETTING_GET (R18) over the blocks 1 to 11, and NOTICE_MASK. -/

namespace Sys2Proof.Machine

/-- The range of a setting of a drawer block (R166). -/
def drawerRange : Nat → Option (Nat × Nat)
  | 1 => some (0, 1)
  | 2 => some (30, 200)
  | 3 => some (0, 60)
  | 4 => some (100, 1000)
  | 5 => some (10, 600)
  | 6 => some (0, 1)
  | 7 => some (32, 400)
  | _ => none

/-- The range of a setting, or none for an unknown pair: notices (R12), channel P (R48), bagging (R119), card (R157), supply
(R160), drawers 1 and 2 (R166), printer (R197), store (R116), attention (R204). Block 3 has no settings (R48). -/
def settingRange (block setting : Nat) : Option (Nat × Nat) :=
  match block, setting with
  | 1, 1 => some (0, 1023)
  | 1, 2 => some (0, 1)
  | 2, 1 => some (2, 30)
  | 2, 2 => some (0, 1)
  | 4, 1 => some (0, 1)
  | 4, 2 => some (1, 10)
  | 4, 3 => some (5, 60)
  | 4, 4 => some (0, 1)
  | 4, 5 => some (0, 1)
  | 4, 6 => some (0, 1)
  | 5, 1 => some (20, 300)
  | 5, 2 => some (10, 60)
  | 6, 1 => some (160, 640)
  | 6, 2 => some (0, 1)
  | 7, n => drawerRange n
  | 8, n => drawerRange n
  | 9, 1 => some (1, 8)
  | 9, 2 => some (0, 3)
  | 10, 1 => some (0, 1)
  | 10, 2 => some (0, 1)
  | 11, 1 => some (0, 1)
  | _, _ => none

/-- A switch as a value. -/
def boolValue (b : Bool) : Nat := if b then 1 else 0

/-- The value of a drawer's setting; for fitted, the value last written (R18, R174). -/
def Drawer.setting (d : Drawer) : Nat → Nat
  | 1 => boolValue d.fittedSet
  | 2 => d.kickMs
  | 3 => d.holdDuty
  | 4 => d.holdMs
  | 5 => d.overdueS
  | 6 => boolValue d.polarity
  | _ => d.kickLoad

/-- The value that SETTING_GET returns (R18): for a staged setting, the value last written. -/
def State.setting (s : State) (block setting : Nat) : Nat :=
  match block, setting with
  | 1, 1 => s.link.mask.toNat
  | 1, _ => boolValue s.link.weightB
  | 2, 1 => s.pw.settleS
  | 2, _ => boolValue s.pw.tareAutoclear
  | 4, 1 => boolValue s.bag.enableSet
  | 4, 2 => s.bag.band
  | 4, 3 => s.bag.placementS
  | 4, 4 => boolValue s.bag.pairMatch
  | 4, 5 => boolValue s.bag.requireClear
  | 4, _ => boolValue s.bag.acceptChirp
  | 5, 1 => s.card.leftS
  | 5, _ => s.card.holdS
  | 6, 1 => s.supply.staged
  | 6, _ => boolValue s.supply.kickFirst
  | 7, n => s.drw1.setting n
  | 8, n => s.drw2.setting n
  | 9, 1 => s.prn.darknessSet
  | 9, _ => s.prn.decimals
  | 10, 1 => boolValue s.store.eraseFirst
  | 10, _ => boolValue s.store.holdUnexported
  | _, _ => boolValue s.attn.tone

/-- A polarity written re-reads the debounced level at once (R167). -/
def State.putPolarity (p : Port) (v : Bool) (s : State) : State :=
  let s := s.setDrw p { s.drw p with polarity := v }
  let d := s.drw p
  if d.fitted ∧ d.readsOpen d.levelHigh ≠ d.sensorOpen then s.sensorEvent p (d.readsOpen d.levelHigh) else s

/-- A setting of a drawer block is written (R166, R167, R174). -/
def State.putDrawer (p : Port) (setting v : Nat) (s : State) : State :=
  let d := s.drw p
  match setting with
  | 1 => (s.setDrw p { d with fittedSet := v == 1 }).portMoved p
  | 2 => s.setDrw p { d with kickMs := v }
  | 3 => s.setDrw p { d with holdDuty := v }
  | 4 => s.setDrw p { d with holdMs := v }
  | 5 => s.setDrw p { d with overdueS := v }
  | 6 => s.putPolarity p (v == 1)
  | _ => s.setDrw p { d with kickLoad := v }

/-- bagging/enable is written: in IDLE it comes into effect at once, else it is held (R119). -/
def State.putEnable (v : Bool) (s : State) : State :=
  let s := s.setBag { s.bag with enableSet := v }
  if s.txn.state = .idle then s.applyEnable else s

/-- A clamped value is applied as the owning chapter states. -/
def State.putSetting (block setting v : Nat) (s : State) : State :=
  match block, setting with
  | 1, 1 => s.setNotices (BitVec.ofNat 10 v) s.link.weightB
  | 1, _ => s.setNotices s.link.mask (v == 1)
  | 2, 1 => s.setPw { s.pw with settleS := v }
  | 2, _ => s.setPw { s.pw with tareAutoclear := v == 1 }
  | 4, 1 => s.putEnable (v == 1)
  | 4, 2 => s.setBag { s.bag with band := v }
  | 4, 3 => s.setBag { s.bag with placementS := v }
  | 4, 4 => s.setBag { s.bag with pairMatch := v == 1 }
  | 4, 5 => s.setBag { s.bag with requireClear := v == 1 }
  | 4, _ => s.setBag { s.bag with acceptChirp := v == 1 }
  | 5, 1 => s.setCard { s.card with leftS := v }
  | 5, _ => s.setCard { s.card with holdS := v }
  | 6, 1 => (s.setSupply { s.supply with staged := v }).testBudget
  | 6, _ => s.setSupply { s.supply with kickFirst := v == 1 }
  | 7, n => s.putDrawer .one n v
  | 8, n => s.putDrawer .two n v
  | 9, 1 => s.setPrn { s.prn with darknessSet := v }
  | 9, _ => s.setPrn { s.prn with decimals := v }
  | 10, 1 => s.setStore { s.store with eraseFirst := v == 1 }
  | 10, _ => (s.setStore { s.store with holdUnexported := v == 1 }).spareCheck.pump
  | _, _ => s.setAttn { s.attn with tone := v == 1 }

/-- SETTING_PUT (R17). -/
def reqSettingPut (block setting value : Nat) (s : State) : State × Answer :=
  match settingRange block setting with
  | none => (s, .refuse .notFound)
  | some (lo, hi) => (s.putSetting block setting (clampNat lo hi value), .accept (le32 (clampNat lo hi value)))

/-- SETTING_GET (R18). -/
def reqSettingGet (block setting : Nat) (s : State) : State × Answer :=
  match settingRange block setting with
  | none => (s, .refuse .notFound)
  | some _ => (s, .accept (le32 (s.setting block setting)))

/-- NOTICE_MASK (R12), its bits 10 to 15 clear. -/
def reqNoticeMask (mask : Nat) (s : State) : State × Answer :=
  (s.setNotices (BitVec.ofNat 10 mask) s.link.weightB, .accept [])

end Sys2Proof.Machine
end

