-- ==== Sys2Proof/Machine/LaneReset.lean ====
section
/-! DEFINITION. The lane reset (R19): every block's own, in order, the emptied slots and the reply. -/

namespace Sys2Proof.Machine

/-- Every block applies its lane reset (R47, R60, R77, R94, R116, R127, R158, R175, R196, R204). The ports' comes before the
transaction's (R175), and the staged budget is tested once the ports and the printer hold nothing (R160). -/
def State.resetBlocks (s : State) : State :=
  let s := (s.resetPort .one).resetPort .two
  let s := s.resetPrinter.testBudget
  let s := s.abortRequest.bagReset.resetTxn
  let s := s.setTare 0
  let s := s.resetSession.resetCard.endBeep
  s.setAttn s.attn.unmute

/-- The slots are emptied, the reply is produced, the channels' last raised reports are discarded (R45), and the flag clears. -/
def State.endReset (tag : Byte) (s : State) : State :=
  let s := s.setLink { s.link with slots := Slots.empty }
  let s := s.reply 0x03 tag (.accept [])
  let s := (s.setChP { s.chP with lastReport := none }).setChB { s.chB with lastReport := none }
  s.setLink { s.link with resetTag := none }

def State.applyLaneReset (tag : Byte) (s : State) : State := s.resetBlocks.endReset tag

end Sys2Proof.Machine
end

