-- ==== Sys2Proof/Machine/Recovery.lean ====
section
/-! DEFINITION. Power-on reset (R13) and the recovery of the alibi store (R113 to R115, R61, R64, R14). -/

namespace Sys2Proof.Machine

/-! ## Power-on reset -/

/-- What the flash operation broken off by the reset leaves of a header mark (log entry 14). -/
def brokenMark (fate : FlashFate) (i : Nat) (applied : Header → Header) (l : List FlashSector) : List FlashSector :=
  match fate with
  | .notApplied => l
  | .applied => Flash.modify i (fun x => { x with header := applied x.header }) l
  | .damaged => Flash.modify i (fun x => { x with header := .damaged }) l

/-- What it leaves of a record program: a part-programmed slot reads DAMAGED. -/
def brokenProgram (fate : FlashFate) (i : Nat) (u : UsedSlot) (l : List FlashSector) : List FlashSector :=
  match fate with
  | .notApplied => l
  | .applied => Flash.program i u l
  | .damaged => Flash.program i .cleared l

/-- What it leaves of an erase pulse. -/
def brokenPulse (fate : FlashFate) (i : Nat) (l : List FlashSector) : List FlashSector :=
  match fate with
  | .notApplied => l
  | .applied => Flash.modify i (fun _ => { header := .blank, slots := [] }) l
  | .damaged => Flash.modify i (fun x => { x with header := .damaged }) l

/-- The flash array after the operation in progress was broken off (log entry 14). -/
def State.brokenFlash (fate : FlashFate) (s : State) : List FlashSector :=
  let x := s.store
  match x.op with
  | .idle | .read | .verify => s.flash
  | .programHead =>
    match x.queue, x.active with
    | .write r :: _, some i => brokenProgram fate i (.record x.next r) s.flash
    | _, _ => s.flash
  | .programCopy c =>
    match x.current c, x.active with
    | some k, some i => brokenProgram fate i (.record x.next (.cal { k.fields with carried := true })) s.flash
    | _, _ => s.flash
  | .markFull i released => brokenMark fate i (markFullOn released) s.flash
  | .markInUse i seq => brokenMark fate i (fun _ => .marked (some seq) false false) s.flash
  | .markReleased i => brokenMark fate i markReleasedOn s.flash
  | .pulse _ =>
    match x.erase with
    | some e => brokenPulse fate e.sector s.flash
    | none => s.flash

/-- The printer with its sensors sampled (R190). -/
def Printer.sampled (p : Pins) : Printer :=
  let r : Reasons :=
    { paperOut := !p.paperPresent, coverOpen := p.coverOpen, headHot := decide (65 ≤ p.headTemp),
      lowSupply := decide (p.headSupply < 180), cutterJam := !p.cutterHome }
  { Printer.reset with
    reasons := r, engine := if r.any then .suspended else .idle, paperPresent := p.paperPresent, paperLow := p.paperLow,
    coverOpen := p.coverOpen, cutterHome := p.cutterHome, headSupply := p.headSupply, headTemp := p.headTemp }

/-- A port at power-on reset (R166): a fitted one takes its state from its sensor. -/
def Drawer.sampled (fitted high : Bool) (overdue : Timer) : Drawer :=
  let d := { Drawer.reset fitted with levelHigh := high }
  if fitted && high then { d with sensorOpen := true, state := .opened, overdueTimer := overdue } else d

/-- The card reader at power-on reset (R141, R144). -/
def Card.powerOn (p : Pins) (left : Timer) : Card :=
  { Card.reset with frontClosed := p.cardFrontClosed, rearClosed := p.cardRearClosed }.sampled left

/-- Every block at its values for power-on reset (R13), its pins sampled without waiting; flash is kept. A card slot found in
READER_FAULT raises CARD_STATE (R143). DEDUCED: a suspension reason that the reset sets raises no PRINT_STATE (R190, R191; log entry
57). -/
def evPowerOnReset (pins : Pins) (fate : FlashFate) (s : State) : State :=
  let ch := { Channel.reset with watchdog := s.timer Config.watchdogMs }
  let r : State :=
    { State.reset with
      clock := s.clock, link := { Link.reset with rateHigh := pins.rateHigh, hrdy := pins.hrdy }, chP := ch, chB := ch
      cal := { Calib.reset with switchClosed := pins.metrologyClosed }, flash := s.brokenFlash fate
      card := Card.powerOn pins (s.timer (Card.reset.leftS * 1000))
      drw1 := Drawer.sampled true pins.drawer1High (s.timer ((Drawer.reset true).overdueS * 1000))
      drw2 := Drawer.sampled false pins.drawer2High none
      prn := Printer.sampled pins, pending := s.pending }
  if r.card.seat = .readerFault then r.raiseCard .fault else r

/-! ## The scan (R113) -/

/-- What the scan found at one sector. -/
structure Found where
  header  : Header
  slots   : List UsedSlot
  health  : List Health
  blankOk : Bool
  eraseOk : Bool
  first   : Option Nat
  deriving DecidableEq, Repr

/-- The record of a slot that reads OK or CORRECTED, before its position is judged. -/
def readable (u : UsedSlot) (h : Health) : Option (Nat × RecordBody) :=
  match u, h with
  | .record n r, .clean | .record n r, .corrected => some (n, r)
  | _, _ => none

/-- The first number that the slots of a sector fix themselves (R113); `k` is the position of the head. DESIGN CHOICE: a number not
above its position fixes the first number as 0 (log entry 54). -/
def fixFirst : Nat → List UsedSlot → List Health → Option Nat
  | _, [], _ => none
  | k, u :: us, hs =>
    match readable u (hs.headD .clean) with
    | some (n, _) => if n = 0 then fixFirst (k + 1) us hs.tail else some (n - k)
    | none => fixFirst (k + 1) us hs.tail

/-- One sector as the scan finds it. -/
def Found.of (f : FlashSector) (x : SectorScan) : Found :=
  { header := x.header.getD f.header, slots := f.slots, health := x.slots, blankOk := x.blankOk && f.slots.isEmpty,
    eraseOk := x.eraseOk, first := fixFirst 0 f.slots x.slots }

/-- The sequence number of a sector in use. -/
def Found.seq (f : Found) : Option Nat :=
  match f.header with
  | .marked (some q) _ _ => some q
  | _ => none

def Found.isFull (f : Found) : Bool :=
  match f.header with
  | .marked _ full _ => full
  | _ => false

def Found.isReleased (f : Found) : Bool :=
  match f.header with
  | .marked _ _ released => released
  | _ => false

/-- The positions of the sectors in use, in order of sequence number. -/
def inUseOrder (l : List Found) : List Nat :=
  ((l.zipIdx.filterMap fun f => f.1.seq.map fun q => (q, f.2)).insertionSort fun a b => a.1 ≤ b.1).map Prod.snd

/-- First numbers not fixed by a sector itself follow the sector before it (R113); `prev` is the number after that one's last. -/
def fillForward : Option Nat → List Found → List Found
  | _, [] => []
  | prev, f :: fs =>
    let f := if f.first.isNone ∧ f.slots ≠ [] then { f with first := prev } else f
    f :: fillForward (f.first.map (· + f.slots.length)) fs

/-- Or else they precede the next sector in use (R113). DESIGN CHOICE: a first number that would so fall below 1 is not fixed (log
entry 50). -/
def fillBackward : List Found → List Found
  | [] => []
  | f :: fs =>
    let fs := fillBackward fs
    match f.first, (fs.head?).bind (·.first) with
    | none, some g =>
      if f.slots ≠ [] ∧ f.slots.length < g then { f with first := some (g - f.slots.length) } :: fs else f :: fs
    | _, _ => f :: fs

/-- The sectors in use with their positions, in order of sequence number, their first numbers fixed where they can be. -/
def settled (l : List Found) : List (Found × Nat) :=
  let order := inUseOrder l
  let blank : Found := { header := .blank, slots := [], health := [], blankOk := true, eraseOk := true, first := none }
  (fillBackward (fillForward none (order.map fun i => l.getD i blank))).zip order

/-- A sector in use is kept when it has no used slot or its first number is fixed (R113). -/
def Found.kept (f : Found) : Bool := f.slots.isEmpty || f.first.isSome

/-- The outcomes of a sector's used slots from position `k`; where no first number could be fixed, every slot is DAMAGED. -/
def slotOutcomes (first : Option Nat) : Nat → List UsedSlot → List Health → List ReadEntry
  | _, [], _ => []
  | k, u :: us, hs =>
    (match first with
      | some f => u.outcome (f + k) (hs.headD .clean)
      | none => ⟨.damaged, none⟩) :: slotOutcomes first (k + 1) us hs.tail

def Found.outcomes (f : Found) : List ReadEntry := slotOutcomes f.first 0 f.slots f.health

/-! ## What recovery takes from the slots (R114, R61, R64) -/

/-- The records read OK or CORRECTED, with their numbers. -/
def recordsOf (l : List (Found × Nat)) : List (Nat × RecordBody) :=
  ((l.filter fun f => f.1.kept).map fun f => f.1.outcomes.filterMap (·.record)).flatten

/-- Is a number above that of the record chosen so far? -/
def aboveChosen (n : Nat) : Option CurrentCal → Bool
  | some b => decide (b.number < n)
  | none => true

/-- The calibration chosen for a channel: the highest-numbered valid CAL record of it (R61). -/
def chosenCal (c : Ch) (l : List (Nat × RecordBody)) : Option CurrentCal :=
  l.foldl (fun best x => match x.2 with
    | .cal k =>
      if k.channel = c ∧ k.cal.valid c ∧ aboveChosen x.1 best then some { number := x.1, fields := k } else best
    | .sale _ => best) none

/-- The highest transaction number among the SALE records (R64, R114). -/
def highestTxn (l : List (Nat × RecordBody)) : Nat :=
  l.foldl (fun best x => match x.2 with | .sale r => max best r.txn | .cal _ => best) 0

/-- The next number (R114). -/
def nextNumber (l : List (Found × Nat)) : Nat :=
  match ((l.filter fun f => f.1.kept && !f.1.slots.isEmpty).getLast?).bind fun f => f.1.first.map (· + f.1.slots.length) with
  | some n => n
  | none => 1

/-- The release point: the last number of the newest FULL sector with the RELEASED mark (R114). -/
def recoveredPoint (l : List (Found × Nat)) : Nat :=
  match (l.filter fun f => f.1.kept && f.1.isFull && f.1.isReleased).getLast? with
  | some f => f.1.first.getD 0 + f.1.slots.length - 1
  | none => 0

/-! ## The sectors settled (R115) -/

/-- The table entry of a sector in use as its header gives it; an ACTIVE candidate is ACTIVE for now. -/
def Found.entry (f : Found) : SectorEntry :=
  { state := if f.isFull then .full else .active, seq := f.seq.getD 0, first := if f.slots.isEmpty then none else f.first,
    used := f.slots.length, released := f.isReleased, pending := false }

/-- Step 1 at one sector not kept: a blank one that passes its check is ERASED, any other is erased, and ends ERASED or
RETIRED. -/
def Found.erasedEntry (f : Found) : SectorEntry :=
  if (f.header = .blank ∧ f.blankOk) ∨ f.eraseOk then SectorEntry.blank else { SectorEntry.blank with state := .retired }

/-- The flash of a sector that recovery erased. -/
def Found.erasedFlash (f : Found) : FlashSector :=
  if (f.header = .blank ∧ f.blankOk) ∨ f.eraseOk then { header := .blank, slots := [] }
  else { header := .damaged, slots := f.slots }

/-- Recovery under way: the store, the array, and whether the marks still to come verify. -/
structure Recov where
  store : Store
  flash : List FlashSector
  marks : List Bool
  deriving DecidableEq, Repr

/-- Recovery programs a mark: it takes effect, or the store enters FAILED; in FAILED none is programmed (R103). -/
def Recov.mark (r : Recov) (i : Nat) (entry : SectorEntry) (header : Header) : Recov :=
  if r.store.failed then r
  else if r.marks.headD true then
    { store := r.store.setEntry i entry, flash := Flash.modify i (fun x => { x with header := header }) r.flash,
      marks := r.marks.tail }
  else { r with store := r.store.fail, marks := r.marks.tail }

/-- An ACTIVE candidate receives the FULL mark (R115). -/
def Recov.markFull (r : Recov) (i : Nat) : Recov :=
  let e := r.store.entry i
  r.mark i { e with state := .full } (.marked (some e.seq) true e.released)

/-- The first ERASED sector after the newest in use, or from sector 0 (R115). -/
def Store.nextErased (x : Store) : Option Nat :=
  match (x.bySeq fun e => e.inUse).getLast? with
  | some i => x.erasedAfter i
  | none => x.erasedAfter (Config.sectors - 1)

/-- Step 2: of several ACTIVE candidates the newest stays, and if it has no room while a sector is ERASED, it is FULL too. DESIGN
CHOICE: the others receive their FULL marks in ascending order of sequence number (log entry 58). -/
def Recov.chooseActive (r : Recov) : Recov :=
  let cands := r.store.bySeq fun e => e.state == .active
  let r := cands.dropLast.foldl Recov.markFull r
  match cands.getLast? with
  | some i => if (r.store.entry i).used = Config.slotsPerSector ∧ r.store.anyErased then r.markFull i else r
  | none => r

/-- Step 3: with no ACTIVE candidate a sector is brought into use. -/
def Recov.bringIntoUse (r : Recov) : Recov :=
  if r.store.table.any (fun e => e.state == .active) then r
  else
    match r.store.nextErased with
    | none => { r with store := r.store.fail }
    | some i =>
      let seq := r.store.lastSeq + 1
      let r := r.mark i { SectorEntry.blank with state := .active, seq := seq } (.marked (some seq) false false)
      if r.store.failed then r else { r with store := { r.store with lastSeq := seq } }

/-- Step 4, and a store whose last number has been issued (log entry 16). -/
def Store.judgeUsable (x : Store) : Store :=
  if x.usable < 3 ∨ Config.maxNumber < x.next then x.fail else x

/-- The whole recovery of the store, up to the condition (R113 to R115). DESIGN CHOICE: the sequence number of an in-use-headed
sector that is not kept counts as used for the next IN_USE mark (R104; log entry 49). -/
def recover (x : Store) (flash : List FlashSector) (scan : Scan) : Recov :=
  let found := (flash.zip scan.sectors).map fun y => Found.of y.1 y.2
  let used := settled found
  let kept := used.filter fun f => f.1.kept
  let records := recordsOf used
  let place := fun (i : Nat) => (kept.find? fun f => f.2 == i).map (·.1)
  let table := found.zipIdx.map fun f => match place f.2 with | some g => g.entry | none => f.1.erasedEntry
  let array := found.zipIdx.map fun f => match place f.2 with
    | some g => { header := g.header, slots := g.slots }
    | none => f.1.erasedFlash
  let damaged := ((used.map fun f => f.1.outcomes.countP fun e => e.status == .damaged)).sum
  let store : Store :=
    { x with
      table := table, next := nextNumber used, releasePoint := recoveredPoint used, damagedFound := sat16 damaged
      currentP := chosenCal .p records, currentB := chosenCal .b records
      retired := table.countP fun e => e.state == .retired
      lastSeq := (used.filterMap fun f => f.1.seq).foldl max 0 }
  let r := ({ store := store, flash := array, marks := scan.marks } : Recov).chooseActive.bringIntoUse
  { r with store := r.store.judgeUsable.spareCheck }

/-- The records that recovery offers, for the transaction number (R64). -/
def recoveredTxn (flash : List FlashSector) (scan : Scan) : Nat :=
  highestTxn (recordsOf (settled ((flash.zip scan.sectors).map fun y => Found.of y.1 y.2)))

/-- A channel's calibration is installed from its current CAL record (R61). -/
def State.installCal (c : Ch) (s : State) : State :=
  match s.store.current c with
  | none => s
  | some k =>
    let nChanged := (s.params c).n != k.fields.cal.params.n
    (s.setCal (s.cal.install c k.fields.counter k.fields.cal)).moveChannel c .noZero nChanged

/-- STORE_STATE at the end of recovery (R99, R109, R115): a retirement raises it, and so do a condition other than NORMAL and a
damaged-found count above 0. DESIGN CHOICE: of several sectors retired the raise names the last in physical order (log entry
55). -/
def State.reportRecovery (s : State) : State :=
  let s := match s.store.table.findIdx? (fun e => e.state == .retired) with
    | some _ => s.raiseStore .retired ((s.store.table.zipIdx.filter fun e => e.1.state == .retired).getLast?.map (·.2) |>.getD 0)
    | none => s
  if s.store.condition ≠ .normal then s.raiseStore .condition Config.sectors
  else if 0 < s.store.damagedFound then s.raiseStore .none Config.sectors
  else s

/-- LANE_READY (R14). -/
def State.readyBytes (s : State) : List Byte :=
  byte1 s.store.condition.code ++ le32 s.store.newest ++ le32 s.txn.number ++ le16 s.cal.counterP ++ le16 s.cal.counterB
    ++ byte1 s.chP.state.code ++ byte1 s.chB.state.code

/-- The recovery scan ends (R61, R64, R113 to R115, R14). -/
def evRecoveryScanEnd (scan : Scan) (s : State) : State :=
  if !s.link.starting then s
  else
    let number := recoveredTxn s.flash scan
    let r := recover s.store s.flash scan
    let s := (s.setStore { r.store with condition := r.store.judge }).setFlash r.flash
    let s := (s.installCal .p).installCal .b
    let s := s.setTxn { s.txn with number := number }
    let s := s.reportRecovery
    let s := s.setLink { s.link with starting := false }
    (s.raise .laneReady s.readyBytes).pump

end Sys2Proof.Machine
end

