-- ==== Sys2Proof/Machine/Requests.lean ====
section
/-! DEFINITION. The taking of a request (R7, R8, R14): the link interface's own requests, the routing of the others, and the
replies. -/

namespace Sys2Proof.Machine

/-! ## The link interface's own requests -/

/-- PING (R15): part code 0x0340, revision code 0x01 and the rate code. DESIGN CHOICE: the part code, which one byte cannot hold,
is two bytes, little-endian (log entry 46). -/
def reqPing (s : State) : State × Answer :=
  (s, .accept (le16 0x0340 ++ byte1 0x01 ++ byte1 (flagsByte [s.link.rateHigh])))

/-- The status record (R16, section 1.7). -/
def State.statusBytes (s : State) : List Byte :=
  byte1 (flagsByte [s.link.rateHigh]) ++ byte1 (statusFlags s.link.starting s.cal.switchClosed s.card.held.isSome)
    ++ byte1 (s.report .p).state.code ++ byte1 (s.report .p).condition.code
    ++ byte1 (s.report .b).state.code ++ byte1 (s.report .b).condition.code
    ++ le32 s.txn.number ++ byte1 s.txn.state.code ++ byte1 s.bag.state.code ++ byte1 s.bag.entries.length
    ++ byte1 s.card.slotCode ++ byte1 s.drw1.state.code ++ byte1 s.drw2.state.code
    ++ byte1 s.prn.engine.code ++ byte1 (reasonBits s.prn.reasons) ++ byte1 s.store.condition.code ++ le16 s.noSale
    ++ le16 s.cal.counterP ++ le16 s.cal.counterB

/-- STATUS_GET (R16). -/
def reqStatusGet (s : State) : State × Answer := (s, .accept s.statusBytes)

/-! ## Routing -/

/-- A request for a channel; the field has been judged (R7), but for CAL_BEGIN in the start-up period, which is refused. -/
def forChannel (c : Nat) (f : Ch → State → State × Answer) (s : State) : State × Answer :=
  match Ch.ofCode? c with
  | some c => f c s
  | none => (s, .refuse .badValue)

/-- CAL_BEGIN: its refusals come before its channel is looked at (R50). -/
def serveCalBegin (c : Nat) (s : State) : State × Answer :=
  match calBeginRefusal s with
  | some r => (s, .refuse r)
  | none => forChannel c reqCalBegin s

/-- DRAWER_OPEN for the port named. -/
def serveDrawerOpen (p reason : Nat) (s : State) : State × Answer :=
  match Port.ofCode? p with
  | some p => reqDrawerOpen p reason s
  | none => (s, .refuse .badValue)

/-- The reply of a request that is answered at its taking. -/
def answered (r : State × Answer) : State × Option Answer := (r.1, some r.2)

/-- A request is served by its block (table of section 1.4); no answer yet for LANE_RESET and an accepted ALIBI_READ (R8). -/
def serve (tag : Byte) (r : Request) (s : State) : State × Option Answer :=
  match r with
  | .ping => answered (reqPing s)
  | .statusGet => answered (reqStatusGet s)
  | .laneReset => (s.setLink { s.link with resetTag := some tag }, none)
  | .settingPut b n v => answered (reqSettingPut b n v s)
  | .settingGet b n => answered (reqSettingGet b n s)
  | .noticeMask m => answered (reqNoticeMask m s)
  | .attnBeep c p => answered (reqAttnBeep c p s)
  | .attnSilence => answered (reqAttnSilence s)
  | .weightGet c => answered (forChannel c reqWeightGet s)
  | .zero c => answered (forChannel c reqZero s)
  | .tare a v => answered (reqTare a v s)
  | .calBegin c => answered (serveCalBegin c s)
  | .calPoint p m => answered (reqCalPoint p m s)
  | .calParams m e n st t => answered (reqCalParams m e n st t s)
  | .calCommit => answered (reqCalCommit s)
  | .calAbandon => answered (reqCalAbandon s)
  | .txnOpen t => answered (reqTxnOpen t s)
  | .txnTender k => answered (reqTxnTender k s)
  | .txnResume => answered (reqTxnResume s)
  | .txnClose => answered (reqTxnClose s)
  | .txnAbort => answered (reqTxnAbort s)
  | .priceWeigh u t f tol => answered (reqPriceWeigh u t f tol s)
  | .priceCancel => answered (reqPriceCancel s)
  | .alibiRead n c => reqAlibiRead tag n c s
  | .alibiRelease n => answered (reqAlibiRelease n s)
  | .alibiInfo => answered (reqAlibiInfo s)
  | .expectAdd r w t f => answered (reqExpectAdd r w t f s)
  | .expectRemove r w t => answered (reqExpectRemove r w t s)
  | .bagClear => answered (reqBagClear s)
  | .bagSkip r => answered (reqBagSkip r s)
  | .bagGet => answered (reqBagGet s)
  | .cardArm t => answered (reqCardArm t s)
  | .cardDisarm => answered (reqCardDisarm s)
  | .cardFetch => answered (reqCardFetch s)
  | .drawerOpen p r => answered (serveDrawerOpen p r s)
  | .printRecords rs => answered (reqPrintRecords (rs.map Prod.fst) s)
  | .printCancel => answered (reqPrintCancel s)
  | .printResume => answered (reqPrintResume s)

/-- The requests that the start-up period does not answer STARTING (R14). -/
def Request.servedStarting : Request → Bool
  | .ping | .statusGet | .calBegin _ => true
  | _ => false

/-- Steps 3 to 5 of R7: the start-up period, the enumerated fields, the owning block. -/
def decide3 (tag : Byte) (r : Request) (s : State) : State × Option Answer :=
  if s.link.starting then
    if r.servedStarting then serve tag r s else (s, some (.refuse .starting))
  else if r.fieldsOk then serve tag r s
  else (s, some (.refuse .badValue))

/-- A request is answered, in a place reserved for it. -/
def State.answerRequest (tag : Byte) (r : Request) (s : State) : State :=
  match decide3 tag r s with
  | (s', some a) => s'.reply r.kind tag a
  | (s', none) => s'

/-- The answer to a frame of an unknown kind (R8). -/
def State.answerUnknown (tag kind : Byte) (s : State) : State :=
  s.pushReply { kind := 0x7F, tag := tag, body := [Byte.of Result.unknownKind.code, kind] }

/-- A request is taken: a place is reserved, and the request is answered; it waits, with no effect yet, where no place is free or
a lane reset is being applied (log entry 1). -/
def State.takeRequest (tag : Byte) (r : Request) (s : State) : State :=
  if s.link.mayTake then s.reservePlace.answerRequest tag r else s

/-! ## Notices that follow a change (R78, R139, R176, R198) -/

/-- The fields of BAG_STATE that the verifier's own events change. -/
structure BagKey where
  state       : BagPhase
  kind        : ExceptionKind
  delta       : Int
  ref         : Option Nat
  baseline    : Int
  entries     : Nat
  reserved    : Nat
  lastMatched : Option Nat
  deriving DecidableEq

def Bag.key (b : Bag) : BagKey := ⟨b.state, b.kind, b.delta, b.ref, b.baseline, b.entries.length, b.reserved, b.lastMatched⟩

/-- The fields of DRAWER_STATE. -/
structure DrawerKey where
  state      : DrawerState
  forced     : Bool
  sensorOpen : Bool
  fitted     : Bool
  reason     : KickReason
  deriving DecidableEq

def Drawer.key (d : Drawer) : DrawerKey := ⟨d.state, d.forced, d.sensorOpen, d.fitted, d.reason⟩

/-- The fields of PRINT_STATE. -/
structure PrintKey where
  engine        : Engine
  reasons       : Reasons
  paperLow      : Bool
  receiptOpen   : Bool
  damagedLine   : Bool
  records       : Nat
  bytes         : Nat
  lastDone      : Nat
  doneCount     : Nat
  damagedNumber : Nat
  deriving DecidableEq

def Printer.key (p : Printer) : PrintKey :=
  ⟨p.engine, p.reasons, p.paperLow, p.openReceipt.isSome, p.damagedLine, p.recordsFree, p.bytesFree, p.lastDone, p.doneCount,
   p.damagedNumber⟩

/-- TXN_STATE, BAG_STATE, DRAWER_STATE and PRINT_STATE are raised once each, after an event that changed a field of them
(R78, R139, R176, R198). -/
def State.raiseChanges (s before : State) : State :=
  let s := if s.txn = before.txn then s else s.raiseTxn
  let s := if s.bag.key = before.bag.key then s else s.raiseBag
  let s := if s.drw1.key = before.drw1.key then s else s.raise .drawer1 (drawerBytes .one s.drw1)
  let s := if s.drw2.key = before.drw2.key then s else s.raise .drawer2 (drawerBytes .two s.drw2)
  if s.prn.key = before.prn.key then s else s.raise .printState s.prn.bytes

/-- What every command ends with: the notices of its changes, and the choice of an idle transmitter (R3, R11). -/
def State.finish (s before : State) : State := (s.raiseChanges before).chooseFrame

end Sys2Proof.Machine
end

