-- ==== Sys2Proof/Machine/Link.lean ====
section
/-! DEFINITION. The receiver, the taking of frames and the transmitter of the lane link (R2, R3, R5 to R7, R9). -/

namespace Sys2Proof.Machine

/-- The framer examines the buffer, and LRDY is reasserted when the buffer has emptied (R2). -/
def Link.hunt (l : Link) : Link :=
  let rx := examine l.lineQuiet l.rx
  { l with rx := rx, lrdy := if rx.isEmpty then true else l.lrdy }

/-- A byte is stored with its marks, and LRDY falls at 1,536 bytes (R2). -/
def Link.storeByte (l : Link) (byte : Byte) (gap : Bool) : Link :=
  let rx := l.rx ++ [{ byte := byte, gap := gap, loss := l.lossNext }]
  { l with rx := rx, lossNext := false, lrdy := if Config.lrdyLevel ≤ rx.length then false else l.lrdy }

/-- A byte arrives (R1, R2): it is lost to a framing error or a full buffer, or stored. -/
def evByteReceived (byte : Byte) (gap framingError : Bool) (s : State) : State :=
  let l := { s.link with lineQuiet := false }
  if framingError ∨ Config.rxSize ≤ l.rx.length then s.setLink { l with lossNext := true }
  else s.setLink (l.storeByte byte gap).hunt

/-- More than 20 ms pass without a byte (R6): an incomplete candidate at the head is abandoned. -/
def evCandidateAbandoned (s : State) : State := s.setLink { s.link with lineQuiet := true }.hunt

/-- A frame that has its place is examined and answered (R7). -/
def State.answerFrame (f : Frame) (s : State) : State :=
  if !knownKind f.kind.toNat then s.answerUnknown f.tag f.kind
  else
    match parseBody f.kind.toNat f.body with
    | none => s.reply f.kind.toNat f.tag (.refuse .badFrame)
    | some r => s.answerRequest f.tag r

/-- A good frame is taken (R5, R7): its bytes leave the buffer, a place is reserved, and it is answered. -/
def evFrameTaken (s : State) : State :=
  match s.link.headFrame with
  | none => s
  | some (f, rest) =>
    if s.link.mayTake then ((s.setLink { s.link with rx := rest }.hunt).reservePlace).answerFrame f else s

/-- HRDY changes (R3): a byte that waits starts when HRDY is asserted. -/
def evHrdyChange (asserted : Bool) (s : State) : State :=
  s.setLink { s.link with
    hrdy := asserted, tx := s.link.tx.map fun t => { t with inFlight := t.inFlight || asserted } }

/-- A byte other than the last finishes on TXD (R3). -/
def evByteSent (s : State) : State :=
  match s.link.tx with
  | some t =>
    if t.inFlight ∧ t.index + 1 < t.bytes.length then
      s.setLink { s.link with tx := some { t with index := t.index + 1, inFlight := s.link.hrdy } }
    else s
  | none => s

/-- The last byte of a frame is sent (R3, R9): a reply leaves the queue, and the transmitter is idle. -/
def evFrameSent (s : State) : State :=
  match s.link.tx with
  | some t =>
    if t.inFlight ∧ t.index + 1 = t.bytes.length then
      s.setLink { s.link with tx := none, replies := if t.isReply then s.link.replies.tail else s.link.replies }
    else s
  | none => s

end Sys2Proof.Machine
end

