-- ==== Sys2Proof/Machine/Conversion.lean ====
section
/-! DEFINITION. A conversion completion with the users of its reading (R42), and the conversion watchdog (R22). -/

namespace Sys2Proof.Machine

/-- Channel B's reading reaches the verifier, after the end of a fault has (R129, R133, R134). -/
def State.handOnB (wasFault formed : Bool) (s : State) : State :=
  let s := if wasFault ∧ s.chB.state = .weighing then s.bagFaultEnd else s
  if formed then s.bagReading else s

/-- A conversion completes (R42): the channel works through its stages, and the reading is handed on. The report is compared
against the last raised one after a reading, and after the end of a fault, which changes the state (R45). -/
def evConversionComplete (c : Ch) (raw : BitVec 24) (s : State) : State :=
  let wasFault := (s.ch c).state == .fault
  let n := (s.params c).n
  let s := s.convert c raw.toInt
  let formed := (s.ch c).full n
  let s := match c with
    | .p => if formed then s.priceReading else s
    | .b => s.handOnB wasFault formed
  if wasFault ∨ formed then s.raiseWeight c else s

/-- The conversion watchdog expires (R22, R133). -/
def evConversionWatchdogExpiry (c : Ch) (s : State) : State :=
  match (s.ch c).watchdog with
  | none => s
  | some t =>
    let s := (s.atExpiry (some t)).enterFault c
    match c with
    | .p => s
    | .b => s.bagFault

/-- What a command answers: the next state, with the notices of its changes raised and the transmitter's choice made. -/
def ended (before s : State) : Host.Outcome State Fault Refusal := .next (s.finish before)

end Sys2Proof.Machine
end

