-- ==== Sys2Proof/Machine/CmdBagCard.lean ====
section
/-! DEFINITION. The meanings of the commands of the bagging verifier and the card reader, one for each row of the table. -/

namespace Sys2Proof.Machine

/-- EXPECT_ADD (R122). -/
def execExpectAdd (tag : Byte) (ref weight : BitVec 32) (tolerance : BitVec 16) (flags : Byte)
    (s : State) : Host.Outcome State Fault Refusal :=
  ended s (s.takeRequest tag (.expectAdd ref.toNat weight.toInt tolerance.toInt flags.toNat))

/-- EXPECT_REMOVE (R123). -/
def execExpectRemove (tag : Byte) (ref weight : BitVec 32) (tolerance : BitVec 16)
    (s : State) : Host.Outcome State Fault Refusal :=
  ended s (s.takeRequest tag (.expectRemove ref.toNat weight.toInt tolerance.toInt))

/-- BAG_CLEAR (R136). -/
def execBagClear (tag : Byte) (s : State) : Host.Outcome State Fault Refusal :=
  ended s (s.takeRequest tag .bagClear)

/-- BAG_SKIP (R137). -/
def execBagSkip (tag : Byte) (ref : BitVec 32) (s : State) : Host.Outcome State Fault Refusal :=
  ended s (s.takeRequest tag (.bagSkip ref.toNat))

/-- BAG_GET (R138). -/
def execBagGet (tag : Byte) (s : State) : Host.Outcome State Fault Refusal :=
  ended s (s.takeRequest tag .bagGet)

/-- DEADLINE_EXPIRY (R125). -/
def execDeadlineExpiry (index : Nat) (s : State) : Host.Outcome State Fault Refusal :=
  ended s (evDeadlineExpiry index s)

/-- CARD_SWITCH_CHANGE (R142). -/
def execCardSwitchChange (switch : CardSwitch) (closed : Bool) (s : State) : Host.Outcome State Fault Refusal :=
  ended s (evCardSwitchChange switch closed s)

/-- FLUX_TRANSITION (R147). -/
def execFluxTransition (track : Track) (elapsed : Nat) (s : State) : Host.Outcome State Fault Refusal :=
  ended s (evFluxTransition track elapsed s)

/-- FLUX_GAP (R147). -/
def execFluxGap (track : Track) (s : State) : Host.Outcome State Fault Refusal :=
  ended s (evFluxGap track s)

/-- DECODE_END (R154). -/
def execDecodeEnd (s : State) : Host.Outcome State Fault Refusal :=
  ended s (evDecodeEnd s)

/-- CARD_LEFT_TIMER_EXPIRY (R144). -/
def execCardLeftTimerExpiry (s : State) : Host.Outcome State Fault Refusal :=
  ended s (evCardLeftTimerExpiry s)

/-- HOLD_TIMER_EXPIRY (R155). -/
def execHoldTimerExpiry (s : State) : Host.Outcome State Fault Refusal :=
  ended s (evHoldTimerExpiry s)

/-- CARD_ARM (R145). -/
def execCardArm (tag tracks : Byte) (s : State) : Host.Outcome State Fault Refusal :=
  ended s (s.takeRequest tag (.cardArm tracks.toNat))

/-- CARD_DISARM (R146). -/
def execCardDisarm (tag : Byte) (s : State) : Host.Outcome State Fault Refusal :=
  ended s (s.takeRequest tag .cardDisarm)

/-- CARD_FETCH (R156). -/
def execCardFetch (tag : Byte) (s : State) : Host.Outcome State Fault Refusal :=
  ended s (s.takeRequest tag .cardFetch)

end Sys2Proof.Machine
end

