-- ==== Sys2Proof/Machine/CmdLink.lean ====
section
/-! DEFINITION. The meanings of the commands of the lane link, one for each row of the table. -/

namespace Sys2Proof.Machine

/-- The lane reset of a request taken (R19), or a taking of the request, which in the start-up period is answered STARTING
(R14). -/
def laneResetStep (tag : Byte) (s : State) : State :=
  match s.link.resetTag with
  | some t => s.applyLaneReset t
  | none =>
    let s := s.takeRequest tag .laneReset
    match s.link.resetTag with
    | some t => s.applyLaneReset t
    | none => s

/-- POWER_ON_RESET (R13): the reset itself is no choice of the transmitter (log entry 8). -/
def execPowerOnReset (pins : Pins) (fate : FlashFate) (s : State) : Host.Outcome State Fault Refusal :=
  .next (evPowerOnReset pins fate s)

/-- RECOVERY_SCAN_END (R115): its notices are those that its rules name. -/
def execRecoveryScanEnd (scan : Scan) (s : State) : Host.Outcome State Fault Refusal :=
  .next (evRecoveryScanEnd scan s).chooseFrame

/-- BYTE_RECEIVED (R2). -/
def execByteReceived (byte : Byte) (gap framingError : Bool) (s : State) : Host.Outcome State Fault Refusal :=
  ended s (evByteReceived byte gap framingError s)

/-- CANDIDATE_ABANDONED (R6). -/
def execCandidateAbandoned (s : State) : Host.Outcome State Fault Refusal :=
  ended s (evCandidateAbandoned s)

/-- FRAME_TAKEN (R7). -/
def execFrameTaken (s : State) : Host.Outcome State Fault Refusal :=
  ended s (evFrameTaken s)

/-- HRDY_CHANGE (R3). -/
def execHrdyChange (asserted : Bool) (s : State) : Host.Outcome State Fault Refusal :=
  ended s (evHrdyChange asserted s)

/-- FRAME_SENT (R9). -/
def execFrameSent (s : State) : Host.Outcome State Fault Refusal :=
  ended s (evFrameSent s)

/-- BYTE_SENT (R3). -/
def execByteSent (s : State) : Host.Outcome State Fault Refusal :=
  ended s (evByteSent s)

/-- PING (R15). -/
def execPing (tag : Byte) (s : State) : Host.Outcome State Fault Refusal :=
  ended s (s.takeRequest tag .ping)

/-- STATUS_GET (R16). -/
def execStatusGet (tag : Byte) (s : State) : Host.Outcome State Fault Refusal :=
  ended s (s.takeRequest tag .statusGet)

/-- LANE_RESET (R19): the reset of the request taken is applied; where none has been taken, it is taken and applied. -/
def execLaneReset (tag : Byte) (s : State) : Host.Outcome State Fault Refusal :=
  .next (laneResetStep tag s).chooseFrame

/-- SETTING_PUT (R17). -/
def execSettingPut (tag block setting : Byte) (value : BitVec 32) (s : State) : Host.Outcome State Fault Refusal :=
  ended s (s.takeRequest tag (.settingPut block.toNat setting.toNat value.toNat))

/-- SETTING_GET (R18). -/
def execSettingGet (tag block setting : Byte) (s : State) : Host.Outcome State Fault Refusal :=
  ended s (s.takeRequest tag (.settingGet block.toNat setting.toNat))

/-- NOTICE_MASK (R12). -/
def execNoticeMask (tag : Byte) (mask : BitVec 16) (s : State) : Host.Outcome State Fault Refusal :=
  ended s (s.takeRequest tag (.noticeMask mask.toNat))

/-- ATTN_BEEP (R202). -/
def execAttnBeep (tag count pitch : Byte) (s : State) : Host.Outcome State Fault Refusal :=
  ended s (s.takeRequest tag (.attnBeep count.toNat pitch.toNat))

/-- ATTN_SILENCE (R202). -/
def execAttnSilence (tag : Byte) (s : State) : Host.Outcome State Fault Refusal :=
  ended s (s.takeRequest tag .attnSilence)

/-- HOST_BEEP_END (R202). -/
def execHostBeepEnd (s : State) : Host.Outcome State Fault Refusal :=
  ended s (evHostBeepEnd s)

/-- ACCEPT_END (R203). -/
def execAcceptEnd (s : State) : Host.Outcome State Fault Refusal :=
  ended s (evAcceptEnd s)

end Sys2Proof.Machine
end

