-- ==== Sys2Proof/Machine/CmdSale.lean ====
section
/-! DEFINITION. The meanings of the commands of the transaction, the priced-weighing unit and the alibi store, one for each row of the table. -/

namespace Sys2Proof.Machine

/-- TXN_OPEN (R66). -/
def execTxnOpen (tag : Byte) (laneTime : BitVec 32) (s : State) : Host.Outcome State Fault Refusal :=
  ended s (s.takeRequest tag (.txnOpen laneTime.toNat))

/-- TXN_TENDER (R68). -/
def execTxnTender (tag kind : Byte) (s : State) : Host.Outcome State Fault Refusal :=
  ended s (s.takeRequest tag (.txnTender kind.toNat))

/-- TXN_RESUME (R69). -/
def execTxnResume (tag : Byte) (s : State) : Host.Outcome State Fault Refusal :=
  ended s (s.takeRequest tag .txnResume)

/-- TXN_CLOSE (R70). -/
def execTxnClose (tag : Byte) (s : State) : Host.Outcome State Fault Refusal :=
  ended s (s.takeRequest tag .txnClose)

/-- TXN_ABORT (R72). -/
def execTxnAbort (tag : Byte) (s : State) : Host.Outcome State Fault Refusal :=
  ended s (s.takeRequest tag .txnAbort)

/-- PRICE_WEIGH (R80). -/
def execPriceWeigh (tag : Byte) (unitPrice presetTare : BitVec 32) (flags : Byte) (tolerance : BitVec 16)
    (s : State) : Host.Outcome State Fault Refusal :=
  ended s (s.takeRequest tag (.priceWeigh unitPrice.toNat presetTare.toInt flags.toNat tolerance.toInt))

/-- SALE_RECORD_HANDOVER (R89). -/
def execSaleRecordHandover (s : State) : Host.Outcome State Fault Refusal :=
  ended s (evSaleRecordHandover s)

/-- SETTLE_TIMER_EXPIRY (R87). -/
def execSettleTimerExpiry (s : State) : Host.Outcome State Fault Refusal :=
  ended s (evSettleTimerExpiry s)

/-- PRICE_CANCEL (R92). -/
def execPriceCancel (tag : Byte) (s : State) : Host.Outcome State Fault Refusal :=
  ended s (s.takeRequest tag .priceCancel)

/-- ALIBI_READ (R111). -/
def execAlibiRead (tag : Byte) (first : BitVec 32) (count : Byte) (s : State) : Host.Outcome State Fault Refusal :=
  ended s (s.takeRequest tag (.alibiRead first.toNat count.toNat))

/-- ALIBI_RELEASE (R110). -/
def execAlibiRelease (tag : Byte) (upTo : BitVec 32) (s : State) : Host.Outcome State Fault Refusal :=
  ended s (s.takeRequest tag (.alibiRelease upTo.toNat))

/-- ALIBI_INFO (R112). -/
def execAlibiInfo (tag : Byte) (s : State) : Host.Outcome State Fault Refusal :=
  ended s (s.takeRequest tag .alibiInfo)

/-- RECORD_PROGRAM_END (R101). -/
def execRecordProgramEnd (verified : Bool) (s : State) : Host.Outcome State Fault Refusal :=
  ended s (evRecordProgramEnd verified s)

/-- HEADER_MARK_END (R103). -/
def execHeaderMarkEnd (verified : Bool) (s : State) : Host.Outcome State Fault Refusal :=
  ended s (evHeaderMarkEnd verified s)

/-- RECORD_READ_END (R102). -/
def execRecordReadEnd (slots : List Health) (s : State) : Host.Outcome State Fault Refusal :=
  ended s (evRecordReadEnd slots s)

/-- ERASE_PULSE_END (R106). -/
def execErasePulseEnd (s : State) : Host.Outcome State Fault Refusal :=
  ended s (evErasePulseEnd s)

/-- BLANK_VERIFY_END (R106). -/
def execBlankVerifyEnd (blank : Bool) (s : State) : Host.Outcome State Fault Refusal :=
  ended s (evBlankVerifyEnd blank s)

end Sys2Proof.Machine
end

