-- ==== Sys2Proof/Machine/CmdSupply.lean ====
section
/-! DEFINITION. The meanings of the commands of the drawer ports and the receipt printer, one for each row of the table. -/

namespace Sys2Proof.Machine

/-- A taking of PRINT_RECORDS (R7): a body that is no whole sequence of records is answered BAD_FRAME. -/
def printRecordsStep (tag : Byte) (body : List Byte) (s : State) : State :=
  match parseBody printKind body with
  | some r => s.takeRequest tag r
  | none => if s.link.mayTake then s.reservePlace.reply printKind tag (.refuse .badFrame) else s

/-- DRAWER_OPEN (R168). -/
def execDrawerOpen (tag port reason : Byte) (s : State) : Host.Outcome State Fault Refusal :=
  ended s (s.takeRequest tag (.drawerOpen port.toNat reason.toNat))

/-- DRAWER_SENSOR_CHANGE (R167). -/
def execDrawerSensorChange (port : Port) (high : Bool) (s : State) : Host.Outcome State Fault Refusal :=
  ended s (evDrawerSensorChange port high s)

/-- KICK_TIMER_EXPIRY (R170). -/
def execKickTimerExpiry (port : Port) (s : State) : Host.Outcome State Fault Refusal :=
  ended s (evKickTimerExpiry port s)

/-- HOLD_LIMIT_EXPIRY (R171). -/
def execHoldLimitExpiry (port : Port) (s : State) : Host.Outcome State Fault Refusal :=
  ended s (evHoldLimitExpiry port s)

/-- OVERDUE_TIMER_EXPIRY (R172). -/
def execOverdueTimerExpiry (port : Port) (s : State) : Host.Outcome State Fault Refusal :=
  ended s (evOverdueTimerExpiry port s)

/-- STROBE_PHASE_END (R183). -/
def execStrobePhaseEnd (s : State) : Host.Outcome State Fault Refusal :=
  ended s (evStrobePhaseEnd s)

/-- PRINT_RECORDS (R178). -/
def execPrintRecords (tag : Byte) (body : List Byte) (s : State) : Host.Outcome State Fault Refusal :=
  ended s (printRecordsStep tag body s)

/-- PRINT_CANCEL (R194). -/
def execPrintCancel (tag : Byte) (s : State) : Host.Outcome State Fault Refusal :=
  ended s (s.takeRequest tag .printCancel)

/-- PRINT_RESUME (R192). -/
def execPrintResume (tag : Byte) (s : State) : Host.Outcome State Fault Refusal :=
  ended s (s.takeRequest tag .printResume)

/-- PAPER_ADVANCE_END (R182). -/
def execPaperAdvanceEnd (s : State) : Host.Outcome State Fault Refusal :=
  ended s (evPaperAdvanceEnd s)

/-- WEIGHED_LINE_READ_HANDOVER (R186). -/
def execWeighedLineReadHandover (s : State) : Host.Outcome State Fault Refusal :=
  ended s (evWeighedLineReadHandover s)

/-- CUTTER_DRIVE_END (R189). -/
def execCutterDriveEnd (s : State) : Host.Outcome State Fault Refusal :=
  ended s (evCutterDriveEnd s)

/-- CUTTER_HOME_CHANGE (R189). -/
def execCutterHomeChange (home : Bool) (s : State) : Host.Outcome State Fault Refusal :=
  ended s (evCutterHomeChange home s)

/-- JAM_TIMER_EXPIRY (R189). -/
def execJamTimerExpiry (s : State) : Host.Outcome State Fault Refusal :=
  ended s (evJamTimerExpiry s)

/-- PAPER_SENSOR_CHANGE (R191). -/
def execPaperSensorChange (present : Bool) (s : State) : Host.Outcome State Fault Refusal :=
  ended s (evPaperSensorChange present s)

/-- COVER_SENSOR_CHANGE (R191). -/
def execCoverSensorChange (coverOpen : Bool) (s : State) : Host.Outcome State Fault Refusal :=
  ended s (evCoverSensorChange coverOpen s)

/-- PAPER_LOW_CHANGE (R190). -/
def execPaperLowChange (low : Bool) (s : State) : Host.Outcome State Fault Refusal :=
  ended s (evPaperLowChange low s)

/-- HEAD_MONITOR_SAMPLE (R190). -/
def execHeadMonitorSample (headSupply : SupplySamples) (headTemp : TempSamples) (s : State) : Host.Outcome State Fault Refusal :=
  ended s (evHeadMonitorSample headSupply headTemp s)

end Sys2Proof.Machine
end

