-- ==== Sys2Proof/Machine/CmdWeighing.lean ====
section
/-! DEFINITION. The meanings of the commands of the weighing channels and the calibration unit, one for each row of the table. -/

namespace Sys2Proof.Machine

/-- WEIGHT_GET (R46). -/
def execWeightGet (tag channel : Byte) (s : State) : Host.Outcome State Fault Refusal :=
  ended s (s.takeRequest tag (.weightGet channel.toNat))

/-- ZERO (R31). -/
def execZero (tag channel : Byte) (s : State) : Host.Outcome State Fault Refusal :=
  ended s (s.takeRequest tag (.zero channel.toNat))

/-- TARE_SEMI (R37): TARE with action SEMI. -/
def execTareSemi (tag : Byte) (value : BitVec 32) (s : State) : Host.Outcome State Fault Refusal :=
  ended s (s.takeRequest tag (.tare 0 value.toInt))

/-- TARE_PRESET (R38): TARE with action PRESET. -/
def execTarePreset (tag : Byte) (value : BitVec 32) (s : State) : Host.Outcome State Fault Refusal :=
  ended s (s.takeRequest tag (.tare 1 value.toInt))

/-- TARE_CLEAR (R39): TARE with action CLEAR. -/
def execTareClear (tag : Byte) (value : BitVec 32) (s : State) : Host.Outcome State Fault Refusal :=
  ended s (s.takeRequest tag (.tare 2 value.toInt))

/-- CONVERSION_COMPLETE (R42). -/
def execConversionComplete (channel : Ch) (raw : BitVec 24) (s : State) : Host.Outcome State Fault Refusal :=
  ended s (evConversionComplete channel raw s)

/-- CONVERSION_WATCHDOG_EXPIRY (R22). -/
def execConversionWatchdogExpiry (channel : Ch) (s : State) : Host.Outcome State Fault Refusal :=
  ended s (evConversionWatchdogExpiry channel s)

/-- TRACKING_STEP (R33). -/
def execTrackingStep (channel : Ch) (s : State) : Host.Outcome State Fault Refusal :=
  ended s (evTrackingStep channel s)

/-- METROLOGY_SWITCH_CHANGE (R49). -/
def execMetrologySwitchChange (closed : Bool) (s : State) : Host.Outcome State Fault Refusal :=
  ended s (evMetrologySwitchChange closed s)

/-- CAL_BEGIN (R50). -/
def execCalBegin (tag channel : Byte) (s : State) : Host.Outcome State Fault Refusal :=
  ended s (s.takeRequest tag (.calBegin channel.toNat))

/-- CAL_POINT_ZERO (R52): CAL_POINT with point ZERO. -/
def execCalPointZero (tag : Byte) (mass : BitVec 32) (s : State) : Host.Outcome State Fault Refusal :=
  ended s (s.takeRequest tag (.calPoint 0 mass.toNat))

/-- CAL_POINT_SPAN (R52): CAL_POINT with point SPAN. -/
def execCalPointSpan (tag : Byte) (mass : BitVec 32) (s : State) : Host.Outcome State Fault Refusal :=
  ended s (s.takeRequest tag (.calPoint 1 mass.toNat))

/-- CAL_PARAMS (R53). -/
def execCalParams (tag : Byte) (max : BitVec 32) (e : BitVec 16) (n st tracking : Byte)
    (s : State) : Host.Outcome State Fault Refusal :=
  ended s (s.takeRequest tag (.calParams max.toInt e.toNat n.toNat st.toNat tracking.toNat))

/-- CAL_COMMIT (R54). -/
def execCalCommit (tag : Byte) (s : State) : Host.Outcome State Fault Refusal :=
  ended s (s.takeRequest tag .calCommit)

/-- CAL_ABANDON (R58). -/
def execCalAbandon (tag : Byte) (s : State) : Host.Outcome State Fault Refusal :=
  ended s (s.takeRequest tag .calAbandon)

end Sys2Proof.Machine
end

