-- ==== Sys2Proof/Machine/Dispatch.lean ====
section
/-! DEFINITION. The meaning of each command: one arm per constructor, one direct call of its meaning. -/

namespace Sys2Proof.Machine

def exec (i : Instr) (s : State) : Host.Outcome State Fault Refusal :=
  match i with
  | .powerOnReset pins fate => Sys2Proof.Machine.execPowerOnReset pins fate s
  | .recoveryScanEnd scan => Sys2Proof.Machine.execRecoveryScanEnd scan s
  | .byteReceived byte gap framingError => Sys2Proof.Machine.execByteReceived byte gap framingError s
  | .candidateAbandoned => Sys2Proof.Machine.execCandidateAbandoned s
  | .frameTaken => Sys2Proof.Machine.execFrameTaken s
  | .hrdyChange asserted => Sys2Proof.Machine.execHrdyChange asserted s
  | .frameSent => Sys2Proof.Machine.execFrameSent s
  | .ping tag => Sys2Proof.Machine.execPing tag s
  | .statusGet tag => Sys2Proof.Machine.execStatusGet tag s
  | .laneReset tag => Sys2Proof.Machine.execLaneReset tag s
  | .settingPut tag block setting value => Sys2Proof.Machine.execSettingPut tag block setting value s
  | .settingGet tag block setting => Sys2Proof.Machine.execSettingGet tag block setting s
  | .noticeMask tag mask => Sys2Proof.Machine.execNoticeMask tag mask s
  | .attnBeep tag count pitch => Sys2Proof.Machine.execAttnBeep tag count pitch s
  | .attnSilence tag => Sys2Proof.Machine.execAttnSilence tag s
  | .weightGet tag channel => Sys2Proof.Machine.execWeightGet tag channel s
  | .zero tag channel => Sys2Proof.Machine.execZero tag channel s
  | .tareSemi tag value => Sys2Proof.Machine.execTareSemi tag value s
  | .tarePreset tag value => Sys2Proof.Machine.execTarePreset tag value s
  | .tareClear tag value => Sys2Proof.Machine.execTareClear tag value s
  | .conversionComplete channel raw => Sys2Proof.Machine.execConversionComplete channel raw s
  | .conversionWatchdogExpiry channel => Sys2Proof.Machine.execConversionWatchdogExpiry channel s
  | .trackingStep channel => Sys2Proof.Machine.execTrackingStep channel s
  | .metrologySwitchChange closed => Sys2Proof.Machine.execMetrologySwitchChange closed s
  | .calBegin tag channel => Sys2Proof.Machine.execCalBegin tag channel s
  | .calPointZero tag mass => Sys2Proof.Machine.execCalPointZero tag mass s
  | .calPointSpan tag mass => Sys2Proof.Machine.execCalPointSpan tag mass s
  | .calParams tag max e n st tracking => Sys2Proof.Machine.execCalParams tag max e n st tracking s
  | .calCommit tag => Sys2Proof.Machine.execCalCommit tag s
  | .calAbandon tag => Sys2Proof.Machine.execCalAbandon tag s
  | .txnOpen tag laneTime => Sys2Proof.Machine.execTxnOpen tag laneTime s
  | .txnTender tag kind => Sys2Proof.Machine.execTxnTender tag kind s
  | .txnResume tag => Sys2Proof.Machine.execTxnResume tag s
  | .txnClose tag => Sys2Proof.Machine.execTxnClose tag s
  | .txnAbort tag => Sys2Proof.Machine.execTxnAbort tag s
  | .priceWeigh tag unitPrice presetTare flags tolerance => Sys2Proof.Machine.execPriceWeigh tag unitPrice presetTare flags tolerance s
  | .saleRecordHandover => Sys2Proof.Machine.execSaleRecordHandover s
  | .settleTimerExpiry => Sys2Proof.Machine.execSettleTimerExpiry s
  | .priceCancel tag => Sys2Proof.Machine.execPriceCancel tag s
  | .alibiRead tag first count => Sys2Proof.Machine.execAlibiRead tag first count s
  | .alibiRelease tag upTo => Sys2Proof.Machine.execAlibiRelease tag upTo s
  | .alibiInfo tag => Sys2Proof.Machine.execAlibiInfo tag s
  | .recordProgramEnd verified => Sys2Proof.Machine.execRecordProgramEnd verified s
  | .headerMarkEnd verified => Sys2Proof.Machine.execHeaderMarkEnd verified s
  | .recordReadEnd slots => Sys2Proof.Machine.execRecordReadEnd slots s
  | .erasePulseEnd => Sys2Proof.Machine.execErasePulseEnd s
  | .blankVerifyEnd blank => Sys2Proof.Machine.execBlankVerifyEnd blank s
  | .expectAdd tag ref weight tolerance flags => Sys2Proof.Machine.execExpectAdd tag ref weight tolerance flags s
  | .expectRemove tag ref weight tolerance => Sys2Proof.Machine.execExpectRemove tag ref weight tolerance s
  | .bagClear tag => Sys2Proof.Machine.execBagClear tag s
  | .bagSkip tag ref => Sys2Proof.Machine.execBagSkip tag ref s
  | .bagGet tag => Sys2Proof.Machine.execBagGet tag s
  | .deadlineExpiry index => Sys2Proof.Machine.execDeadlineExpiry index s
  | .cardSwitchChange switch closed => Sys2Proof.Machine.execCardSwitchChange switch closed s
  | .fluxTransition track elapsed => Sys2Proof.Machine.execFluxTransition track elapsed s
  | .fluxGap track => Sys2Proof.Machine.execFluxGap track s
  | .decodeEnd => Sys2Proof.Machine.execDecodeEnd s
  | .cardLeftTimerExpiry => Sys2Proof.Machine.execCardLeftTimerExpiry s
  | .holdTimerExpiry => Sys2Proof.Machine.execHoldTimerExpiry s
  | .cardArm tag tracks => Sys2Proof.Machine.execCardArm tag tracks s
  | .cardDisarm tag => Sys2Proof.Machine.execCardDisarm tag s
  | .cardFetch tag => Sys2Proof.Machine.execCardFetch tag s
  | .drawerOpen tag port reason => Sys2Proof.Machine.execDrawerOpen tag port reason s
  | .drawerSensorChange port high => Sys2Proof.Machine.execDrawerSensorChange port high s
  | .kickTimerExpiry port => Sys2Proof.Machine.execKickTimerExpiry port s
  | .holdLimitExpiry port => Sys2Proof.Machine.execHoldLimitExpiry port s
  | .overdueTimerExpiry port => Sys2Proof.Machine.execOverdueTimerExpiry port s
  | .strobePhaseEnd => Sys2Proof.Machine.execStrobePhaseEnd s
  | .printRecords tag body => Sys2Proof.Machine.execPrintRecords tag body s
  | .printCancel tag => Sys2Proof.Machine.execPrintCancel tag s
  | .printResume tag => Sys2Proof.Machine.execPrintResume tag s
  | .paperAdvanceEnd => Sys2Proof.Machine.execPaperAdvanceEnd s
  | .weighedLineReadHandover => Sys2Proof.Machine.execWeighedLineReadHandover s
  | .cutterDriveEnd => Sys2Proof.Machine.execCutterDriveEnd s
  | .cutterHomeChange home => Sys2Proof.Machine.execCutterHomeChange home s
  | .jamTimerExpiry => Sys2Proof.Machine.execJamTimerExpiry s
  | .paperSensorChange present => Sys2Proof.Machine.execPaperSensorChange present s
  | .coverSensorChange coverOpen => Sys2Proof.Machine.execCoverSensorChange coverOpen s
  | .paperLowChange low => Sys2Proof.Machine.execPaperLowChange low s
  | .headMonitorSample headSupply headTemp => Sys2Proof.Machine.execHeadMonitorSample headSupply headTemp s
  | .hostBeepEnd => Sys2Proof.Machine.execHostBeepEnd s
  | .acceptEnd => Sys2Proof.Machine.execAcceptEnd s
  | .byteSent => Sys2Proof.Machine.execByteSent s

end Sys2Proof.Machine
end

