-- ==== Sys2Proof/Machine/Step.lean ====
section
/-! DEFINITION. One step of the part: the command at the front of the queue runs; on an empty queue a millisecond passes. -/

namespace Sys2Proof.Machine

/-- A millisecond passes with no command (log entry 2): the clock advances, and an idle transmitter chooses (R3, R11). -/
def State.tick (s : State) : State := (s.setClock (s.clock + 1)).chooseFrame

/-- The command at the front of the queue runs on the state with the queue's rest; an empty queue lets time pass. -/
def step (s : State) : Host.Outcome State Fault Refusal :=
  match s.pending with
  | [] => .next s.tick
  | c :: rest => exec c { s with pending := rest }

/-- The command that a word spells by the table's bits goes to the front of the queue; no word spells one. -/
def State.withFetchWord (s : State) (nbits w : Nat) : State :=
  match decodeTableWord nbits w with
  | some c => { s with pending := c :: s.pending }
  | none => s

end Sys2Proof.Machine
end

