-- ==== Sys2Proof/Safety.lean ====
section
/-! DEFINITION. The words in which the statements speak: which requests the rows are and how the link carries them, the table of
settings, an answered request, and the conditions that every step is to keep. -/

namespace Sys2Proof

open Sys2Proof.Machine

/-! ## The rows that are requests -/

/-- The tag and the request of a row that is one (section 1.4); a body of PRINT_RECORDS that is no whole sequence of records is
no request. -/
def Instr.request? : Instr → Option (Byte × Request)
  | .ping t => some (t, .ping)
  | .statusGet t => some (t, .statusGet)
  | .laneReset t => some (t, .laneReset)
  | .settingPut t b n v => some (t, .settingPut b.toNat n.toNat v.toNat)
  | .settingGet t b n => some (t, .settingGet b.toNat n.toNat)
  | .noticeMask t m => some (t, .noticeMask m.toNat)
  | .attnBeep t c p => some (t, .attnBeep c.toNat p.toNat)
  | .attnSilence t => some (t, .attnSilence)
  | .weightGet t c => some (t, .weightGet c.toNat)
  | .zero t c => some (t, .zero c.toNat)
  | .tareSemi t v => some (t, .tare 0 v.toInt)
  | .tarePreset t v => some (t, .tare 1 v.toInt)
  | .tareClear t v => some (t, .tare 2 v.toInt)
  | .calBegin t c => some (t, .calBegin c.toNat)
  | .calPointZero t m => some (t, .calPoint 0 m.toNat)
  | .calPointSpan t m => some (t, .calPoint 1 m.toNat)
  | .calParams t m e n st tr => some (t, .calParams m.toInt e.toNat n.toNat st.toNat tr.toNat)
  | .calCommit t => some (t, .calCommit)
  | .calAbandon t => some (t, .calAbandon)
  | .txnOpen t l => some (t, .txnOpen l.toNat)
  | .txnTender t k => some (t, .txnTender k.toNat)
  | .txnResume t => some (t, .txnResume)
  | .txnClose t => some (t, .txnClose)
  | .txnAbort t => some (t, .txnAbort)
  | .priceWeigh t u p f tol => some (t, .priceWeigh u.toNat p.toInt f.toNat tol.toInt)
  | .priceCancel t => some (t, .priceCancel)
  | .alibiRead t n c => some (t, .alibiRead n.toNat c.toNat)
  | .alibiRelease t n => some (t, .alibiRelease n.toNat)
  | .alibiInfo t => some (t, .alibiInfo)
  | .expectAdd t r w tol f => some (t, .expectAdd r.toNat w.toInt tol.toInt f.toNat)
  | .expectRemove t r w tol => some (t, .expectRemove r.toNat w.toInt tol.toInt)
  | .bagClear t => some (t, .bagClear)
  | .bagSkip t r => some (t, .bagSkip r.toNat)
  | .bagGet t => some (t, .bagGet)
  | .cardArm t tr => some (t, .cardArm tr.toNat)
  | .cardDisarm t => some (t, .cardDisarm)
  | .cardFetch t => some (t, .cardFetch)
  | .drawerOpen t p r => some (t, .drawerOpen p.toNat r.toNat)
  | .printRecords t b => (parseRecords b).map fun rs => (t, .printRecords rs)
  | .printCancel t => some (t, .printCancel)
  | .printResume t => some (t, .printResume)
  | .powerOnReset .. | .recoveryScanEnd _ | .byteReceived .. | .candidateAbandoned | .frameTaken | .hrdyChange _ | .frameSent
  | .conversionComplete .. | .conversionWatchdogExpiry _ | .trackingStep _ | .metrologySwitchChange _ | .saleRecordHandover
  | .settleTimerExpiry | .recordProgramEnd _ | .headerMarkEnd _ | .recordReadEnd _ | .erasePulseEnd | .blankVerifyEnd _
  | .deadlineExpiry _ | .cardSwitchChange .. | .fluxTransition .. | .fluxGap _ | .decodeEnd | .cardLeftTimerExpiry
  | .holdTimerExpiry | .drawerSensorChange .. | .kickTimerExpiry _ | .holdLimitExpiry _ | .overdueTimerExpiry _
  | .strobePhaseEnd | .paperAdvanceEnd | .weighedLineReadHandover | .cutterDriveEnd | .cutterHomeChange _ | .jamTimerExpiry
  | .paperSensorChange _ | .coverSensorChange _ | .paperLowChange _ | .headMonitorSample .. | .hostBeepEnd | .acceptEnd
  | .byteSent => none

/-- The request frame that carries a row: its kind, tag and body fields, as section 1.4 lays them out. -/
def Instr.frame? : Instr → Option Frame
  | .ping t => some ⟨0x01, t, []⟩
  | .statusGet t => some ⟨0x02, t, []⟩
  | .laneReset t => some ⟨0x03, t, []⟩
  | .settingPut t b n v => some ⟨0x04, t, [b, n] ++ le32 v.toNat⟩
  | .settingGet t b n => some ⟨0x05, t, [b, n]⟩
  | .noticeMask t m => some ⟨0x06, t, le16 m.toNat⟩
  | .attnBeep t c p => some ⟨0x08, t, [c, p]⟩
  | .attnSilence t => some ⟨0x09, t, []⟩
  | .weightGet t c => some ⟨0x10, t, [c]⟩
  | .zero t c => some ⟨0x11, t, [c]⟩
  | .tareSemi t v => some ⟨0x12, t, 0 :: le32 v.toNat⟩
  | .tarePreset t v => some ⟨0x12, t, 1 :: le32 v.toNat⟩
  | .tareClear t v => some ⟨0x12, t, 2 :: le32 v.toNat⟩
  | .calBegin t c => some ⟨0x14, t, [c]⟩
  | .calPointZero t m => some ⟨0x15, t, 0 :: le32 m.toNat⟩
  | .calPointSpan t m => some ⟨0x15, t, 1 :: le32 m.toNat⟩
  | .calParams t m e n st tr => some ⟨0x16, t, le32 m.toNat ++ le16 e.toNat ++ [n, st, tr]⟩
  | .calCommit t => some ⟨0x17, t, []⟩
  | .calAbandon t => some ⟨0x18, t, []⟩
  | .txnOpen t l => some ⟨0x20, t, le32 l.toNat⟩
  | .txnTender t k => some ⟨0x21, t, [k]⟩
  | .txnResume t => some ⟨0x22, t, []⟩
  | .txnClose t => some ⟨0x23, t, []⟩
  | .txnAbort t => some ⟨0x24, t, []⟩
  | .priceWeigh t u p f tol => some ⟨0x25, t, le32 u.toNat ++ le32 p.toNat ++ [f] ++ le16 tol.toNat⟩
  | .priceCancel t => some ⟨0x26, t, []⟩
  | .alibiRead t n c => some ⟨0x28, t, le32 n.toNat ++ [c]⟩
  | .alibiRelease t n => some ⟨0x29, t, le32 n.toNat⟩
  | .alibiInfo t => some ⟨0x2A, t, []⟩
  | .expectAdd t r w tol f => some ⟨0x2C, t, le32 r.toNat ++ le32 w.toNat ++ le16 tol.toNat ++ [f]⟩
  | .expectRemove t r w tol => some ⟨0x2D, t, le32 r.toNat ++ le32 w.toNat ++ le16 tol.toNat⟩
  | .bagClear t => some ⟨0x2E, t, []⟩
  | .bagSkip t r => some ⟨0x2F, t, le32 r.toNat⟩
  | .bagGet t => some ⟨0x30, t, []⟩
  | .cardArm t tr => some ⟨0x31, t, [tr]⟩
  | .cardDisarm t => some ⟨0x32, t, []⟩
  | .cardFetch t => some ⟨0x33, t, []⟩
  | .drawerOpen t p r => some ⟨0x34, t, [p, r]⟩
  | .printRecords t b => some ⟨0x36, t, b⟩
  | .printCancel t => some ⟨0x37, t, []⟩
  | .printResume t => some ⟨0x38, t, []⟩
  | .powerOnReset .. | .recoveryScanEnd _ | .byteReceived .. | .candidateAbandoned | .frameTaken | .hrdyChange _ | .frameSent
  | .conversionComplete .. | .conversionWatchdogExpiry _ | .trackingStep _ | .metrologySwitchChange _ | .saleRecordHandover
  | .settleTimerExpiry | .recordProgramEnd _ | .headerMarkEnd _ | .recordReadEnd _ | .erasePulseEnd | .blankVerifyEnd _
  | .deadlineExpiry _ | .cardSwitchChange .. | .fluxTransition .. | .fluxGap _ | .decodeEnd | .cardLeftTimerExpiry
  | .holdTimerExpiry | .drawerSensorChange .. | .kickTimerExpiry _ | .holdLimitExpiry _ | .overdueTimerExpiry _
  | .strobePhaseEnd | .paperAdvanceEnd | .weighedLineReadHandover | .cutterDriveEnd | .cutterHomeChange _ | .jamTimerExpiry
  | .paperSensorChange _ | .coverSensorChange _ | .paperLowChange _ | .headMonitorSample .. | .hostBeepEnd | .acceptEnd
  | .byteSent => none

end Sys2Proof

namespace Sys2Proof.Machine

/-! ## Taking a request -/

/-- A request is taken, and its block decides it: a reply place is free, no lane reset is being applied (R7), and the start-up
period is over (R14). -/
def State.ready (s : State) : Prop := s.link.mayTake = true ∧ s.link.starting = false

/-- A reply joins the queue behind every reply produced before it (R8, R9). -/
def State.answer (kind : Nat) (tag : Byte) (a : Answer) (s : State) : State :=
  s.setLink { s.link with replies := s.link.replies ++ [replyFrame kind tag a] }

/-- The reply of a request is the last of the queue, and of the link only the transmitter and the notice slots have changed
beside it. -/
def State.replied (s t : State) (kind : Nat) (tag : Byte) (a : Answer) : Prop :=
  t.link.replies = s.link.replies ++ [replyFrame kind tag a]
    ∧ t.link = { s.link with replies := t.link.replies, slots := t.link.slots, tx := t.link.tx }

/-- Of the link only the transmitter and the notice slots have changed. -/
def State.noticed (s t : State) : Prop := t.link = { s.link with slots := t.link.slots, tx := t.link.tx }

/-- An enabled notice stands in its slot with a body (R10, R12). -/
def State.holdsNotice (t : State) (k : Slot) (body : List Byte) : Prop :=
  k.enabled t.link.mask t.link.weightB = true → t.link.slots.get k = some body

/-! ## The flash -/

/-- The flash is busy with an operation that an arriving access does not cut (R100, R107). -/
def State.flashBusy (s : State) : Prop := s.store.op ≠ .idle ∧ (s.store.op ≠ .pulse false ∨ s.store.eraseFirst = true)

/-- The operation that an access needs first, where it is the only one of the queue: a record program, in a store that takes writes
and whose ACTIVE sector has room beyond the reserve, or room at all with a sector ERASED (R101); the read of a slot, where a sector
bears a number asked for (R102); or the first mark of a release (R110). -/
def Store.begins (x : Store) (a : Access) (op : FlashOp) : Prop :=
  match a with
  | .write _ => op = .programHead ∧ x.condition ≠ .failed ∧ x.condition ≠ .storeFull
      ∧ ∃ i, x.active = some i ∧ ((x.entry i).used < 126 ∨ (x.entry i).used < 128 ∧ ∃ e ∈ x.table, e.state = .erased)
  | .readHost .. | .readPrinter .. => op = .read ∧ ∃ n ∈ a.numbers, ∃ e ∈ x.table, e.bears n = true
  | .release l => x.failed = false ∧ (∀ i ∈ l, (x.entry i).state = .full ∧ (x.entry i).released = false)
      ∧ ∃ i, l.head? = some i ∧ op = .markReleased i

/-- The store that an access handed over leaves (R100, R107). Where the flash goes on with its operation, the access stands last in
the queue. Where the access is alone, the flash is idle or at a pulse that the access cuts, and no mark and no copy is owed, the
operation that it needs has begun, and a cut pulse is to be applied again. -/
def State.receives (s : State) (a : Access) (x' : Store) : Prop :=
  let x := s.store
  let joined := { x with queue := x.queue ++ [a] }
  x.op ≠ .idle ∧ (x.op ≠ .pulse false ∨ x.eraseFirst = true ∨ joined.headBlocked = true) ∧ x' = joined
    ∨ s.link.starting = false ∧ x.queue = [] ∧ x.rotation = .none ∧ x.copies = [] ∧ ∃ op, x.begins a op
      ∧ (x.op = .idle ∧ x' = { joined with op := op }
        ∨ x.op = .pulse false ∧ x.eraseFirst = false
          ∧ x' = { joined with op := op, erase := x.erase.map fun e => { e with next := .reapply } })

/-! ## The receive buffer -/

/-- What the framer leaves of the buffer (R5, R6): bytes have left from the head, each no sync byte or the sync byte of a
candidate that was to be discarded, and at the head stands the sync byte of one that is not. -/
def hunted (quiet : Bool) (before after : List RxByte) : Prop :=
  ∃ gone, before = gone ++ after
    ∧ (∀ a b c, gone = a ++ b :: c → b.byte ≠ 0xA5 ∨ verdict quiet (c ++ after) = .discard)
    ∧ (∀ b rest, after = b :: rest → b.byte = 0xA5 ∧ verdict quiet rest ≠ .discard)

/-! ## Settings -/

/-- A row of the tables of settings: block, setting, range and default. -/
structure SettingRow where
  block    : Nat
  setting  : Nat
  lo       : Nat
  hi       : Nat
  default_ : Nat
  deriving DecidableEq, Repr

/-- The rows of a drawer block (R166). -/
def drawerRows (block fitted : Nat) : List SettingRow :=
  [⟨block, 1, 0, 1, fitted⟩, ⟨block, 2, 30, 200, 80⟩, ⟨block, 3, 0, 60, 25⟩, ⟨block, 4, 100, 1000, 400⟩,
   ⟨block, 5, 10, 600, 120⟩, ⟨block, 6, 0, 1, 0⟩, ⟨block, 7, 32, 400, 256⟩]

/-- The tables of settings of R12, R48, R119, R157, R160, R166, R197, R116 and R204. -/
def settingRows : List SettingRow :=
  [⟨1, 1, 0, 1023, 1023⟩, ⟨1, 2, 0, 1, 0⟩, ⟨2, 1, 2, 30, 10⟩, ⟨2, 2, 0, 1, 1⟩]
    ++ [⟨4, 1, 0, 1, 1⟩, ⟨4, 2, 1, 10, 2⟩, ⟨4, 3, 5, 60, 15⟩, ⟨4, 4, 0, 1, 1⟩, ⟨4, 5, 0, 1, 1⟩, ⟨4, 6, 0, 1, 1⟩]
    ++ [⟨5, 1, 20, 300, 60⟩, ⟨5, 2, 10, 60, 30⟩, ⟨6, 1, 160, 640, 384⟩, ⟨6, 2, 0, 1, 0⟩]
    ++ drawerRows 7 1 ++ drawerRows 8 0
    ++ [⟨9, 1, 1, 8, 4⟩, ⟨9, 2, 0, 3, 2⟩, ⟨10, 1, 0, 1, 0⟩, ⟨10, 2, 0, 1, 0⟩, ⟨11, 1, 0, 1, 1⟩]

/-! ## The verifier: settles and holds -/

/-- An entry of a direction whose window contains a weight, ends included (R120). -/
def Expect.fits (e : Expect) (dir : Direction) (v : Int) : Prop :=
  e.dir = dir ∧ e.expected - e.tolerance ≤ v ∧ v ≤ e.expected + e.tolerance

/-- Two entries, by their positions, are ADD entries among the first four ADD entries, and their summed window contains an
increase (R130). -/
def pairFits (l : List Expect) (d : Int) (i j : Nat) : Prop :=
  i < j ∧ ∃ x y, l[i]? = some x ∧ l[j]? = some y ∧ x.dir = .add ∧ y.dir = .add
    ∧ (l.take j).countP (fun e => e.dir == .add) ≤ 3
    ∧ x.expected + y.expected - (x.tolerance + y.tolerance) ≤ d ∧ d ≤ x.expected + y.expected + (x.tolerance + y.tolerance)

/-- What an increase matches (R130): `got` are the entries in queue order and `rest` those it leaves. It is the first ADD entry
whose window contains it, or else, under bagging/pair_match, the first pair. -/
def Bag.matched (b : Bag) (d : Int) (got rest : List Expect) : Prop :=
  (∃ before e after, b.entries = before ++ e :: after ∧ e.fits .add d ∧ (∀ y ∈ before, ¬ y.fits .add d)
      ∧ got = [e] ∧ rest = before ++ after)
    ∨ ((∀ y ∈ b.entries, ¬ y.fits .add d) ∧ b.pairMatch = true ∧ ∃ i j x y, pairFits b.entries d i j
      ∧ (∀ i' j', pairFits b.entries d i' j' → i < i' ∨ i = i' ∧ j ≤ j')
      ∧ b.entries[i]? = some x ∧ b.entries[j]? = some y ∧ got = [x, y] ∧ rest = (b.entries.eraseIdx j).eraseIdx i)

/-- An increase that matches nothing (R130). -/
def Bag.unmatched (b : Bag) (d : Int) : Prop :=
  (∀ y ∈ b.entries, ¬ y.fits .add d) ∧ (b.pairMatch = true → ∀ i j, ¬ pairFits b.entries d i j)

/-- The verifier after a matched increase (R130): the entries are bagged in queue order, the newest first of at most eight. -/
def Bag.accepts (b : Bag) (got rest : List Expect) (gross : Int) : Bag :=
  { b with
    entries := rest, baseline := gross, lastMatched := got.getLast?.map (·.ref)
    bagged := ((got.reverse.map fun e => Bagged.mk e.ref e.expected e.tolerance) ++ b.bagged).take 8 }

/-- The verifier in HOLD with an exception that holds no entry (R132). -/
def Bag.holds (b : Bag) (kind : ExceptionKind) (delta : Int) (ref : Option Nat) : Bag :=
  { b with state := .hold, kind := kind, delta := delta, ref := ref, entries := b.entries.map fun e => { e with held := false } }

/-- The verifier watching, with no exception (R135): its delta is 0 and it has no ref (DESIGN CHOICE, log entry 60). -/
def Bag.watches (b : Bag) : Bag :=
  { b with state := .watching, kind := .none, delta := 0, ref := none, entries := b.entries.map fun e => { e with held := false } }

/-- An overdue ADD entry (R125). -/
def Expect.waits (e : Expect) : Prop := e.dir = .add ∧ e.overdue = true

/-- BAG_HOLD asserted at a moment (R132, R199). -/
def Attention.bagHoldAt (a : Attention) (clock : Nat) : Attention :=
  { a with bagHold := { active := true, muted := false, start := clock } }

/-- BAG_HOLD released (R135, R199). -/
def Attention.bagHoldOff (a : Attention) : Attention := { a with bagHold := { a.bagHold with active := false, muted := false } }

/-- The clearing of a hold (R135): with no overdue ADD entry the verifier watches and BAG_HOLD is released; else the first of them
is held as NOT_PLACED, and BAG_HOLD is asserted anew. -/
def Bag.clears (b b' : Bag) (a a' : Attention) (clock : Nat) : Prop :=
  ((∀ e ∈ b.entries, ¬ e.waits) → b' = b.watches ∧ a' = a.bagHoldOff)
    ∧ ∀ before e after, b.entries = before ++ e :: after → e.waits → (∀ y ∈ before, ¬ y.waits) →
      b' = { b with
        state := .hold, kind := .notPlaced, delta := 0, ref := some e.ref
        entries := (before.map fun y => { y with held := false }) ++ { e with held := true }
          :: (after.map fun y => { y with held := false }) }
      ∧ a' = a.bagHoldAt clock

/-- The sources after a matched settle (R130, R203): a chirp of 40 ms while bagging/accept_chirp is 1. -/
def State.chirped (s : State) : Attention :=
  if s.bag.acceptChirp then
    { s.attn with accept := { active := true, muted := false, start := s.clock }, acceptEnd := some (s.clock + 40) }
  else s.attn

/-! ## Card tracks -/

/-- A character of `w` bits (R151): its data bits, least significant first, then a parity bit that makes the number of 1 bits odd
where `good` says so. -/
def charBits (w v : Nat) (good : Bool) : List Bool :=
  let data := (List.range (w - 1)).map v.testBit
  data ++ [(data.countP (·) % 2 == 0) == good]

/-- The intervals that read as some bits under a running reference (R150): a 0 bit is a whole cell, a 1 bit a half cell with the
interval behind it; a last half cell without a partner is dropped. -/
def carries : Nat → List Nat → List Bool → Prop
  | _, [], [] => True
  | t, [i], [] => 4 * i < 3 * t
  | t, i :: l, false :: bits => 3 * t ≤ 4 * i ∧ carries ((3 * t + i) / 4) l bits
  | t, i :: j :: l, true :: bits => 4 * i < 3 * t ∧ carries ((3 * t + i + j) / 4) l bits
  | _, _, _ => False

/-- What stands on a track up to the end of its characters: zeros, the start character, and the characters with their parity. -/
def trackBits (w start lead : Nat) (chars : List (Nat × Bool)) : List Bool :=
  List.replicate (lead + 1) false ++ charBits w start true ++ (chars.map fun c => charBits w c.1 c.2).flatten

/-! ## The text of weighed lines -/

/-- The number that decimal digits write. -/
def decimalValue (l : List Nat) : Nat := l.foldl (fun v d => 10 * v + d) 0

/-- A value shown with `d` decimals (R187): the whole part without leading zeros, a point, and `d` digits of remainder. -/
def shown (d v : Nat) (g : List Glyph) : Prop :=
  ∃ whole frac : List Nat, (∀ x ∈ whole ++ frac, x < 10) ∧ whole ≠ [] ∧ (whole.head? = some 0 → whole = [0])
    ∧ decimalValue whole = v / 10 ^ d ∧ frac.length = d ∧ decimalValue frac = v % 10 ^ d
    ∧ g = whole.map Glyph.digit ++ (if d = 0 then [] else .point :: frac.map Glyph.digit)

/-- A field of cells whose content stands at the right, spaces before it. -/
def rightIn (width : Nat) (content cells : List Glyph) : Prop :=
  cells.length = width ∧ ∃ k, cells = List.replicate k .space ++ content

/-- The cells of the first text line of a sale (R187). -/
def laidOut (d number net unitPrice price : Nat) (line : List Glyph) : Prop :=
  ∃ (digits : List Nat) (n u p a b c : List Glyph),
    digits.length = 7 ∧ (∀ x ∈ digits, x < 10) ∧ decimalValue digits = number % 10000000
    ∧ shown 3 net n ∧ rightIn 8 (n ++ [.k, .g]) a
    ∧ shown d unitPrice u ∧ rightIn 12 (.at :: (u ++ [.slash, .k, .g])) b
    ∧ shown d price p ∧ rightIn 10 p c
    ∧ line = (.hash :: digits.map Glyph.digit) ++ [.space] ++ a ++ [.space] ++ b ++ c

/-- The cells of the second text line of a sale with a tare (R187). -/
def tareLaidOut (tare : Nat) (line : List Glyph) : Prop :=
  ∃ t a : List Glyph, shown 3 tare t ∧ rightIn 9 (.tare :: (t ++ [.k, .g])) a
    ∧ line = List.replicate 8 .space ++ a ++ List.replicate 23 .space

/-- The sale that a read result lets a weighed line print (R186), of a receipt and an alibi number. -/
def State.printsSale (s : State) (receipt number : Nat) (x : ReadEntry) (r : SaleFields) : Prop :=
  (x.status = .ok ∨ x.status = .corrected) ∧ x.record = some (number, .sale r) ∧ r.txn = receipt
    ∧ ∃ before e after, s.txn.sales = before ++ e :: after ∧ e.number = number ∧ (∀ y ∈ before, y.number ≠ number)
      ∧ e.net = r.net ∧ e.price = r.price

/-- The strobe width in µs (R184), in its four steps: darkness, head supply in 0.1 V, head temperature in °C, and the width. -/
def strobeTime (d v : Nat) (temp : Int) (width : Nat) : Prop :=
  let base := 200 + 40 * d
  ∃ t t' : Nat, t * v ^ 2 ≤ base * 57600 ∧ base * 57600 < (t + 1) * v ^ 2
    ∧ (temp ≤ 25 → t' = t)
    ∧ (25 < temp → ∃ f : Int, f = max 60 (100 - (temp - 25)) ∧ 100 * (t' : Int) ≤ t * f ∧ t * f < 100 * ((t' : Int) + 1))
    ∧ width = max 100 (min 2000 t')

/-- The next phase of a line, from a state with LOW_SUPPLY clear (R183): V is sampled; below 180 no phase begins; else the phase is
the longest run of unprinted blocks from the front that the available load bears, and with no such run the engine waits. -/
def State.plansPhase (s t : State) (l : Line) (available : Nat) : Prop :=
  let v := s.prn.supplyInput.headD s.prn.headSupply
  t.prn.headSupply = v ∧ t.prn.supplyInput = s.prn.supplyInput.tail ∧ t.prn.line = some l ∧ t.prn.work = s.prn.work
    ∧ (v < 180 → t.prn.engine = .suspended ∧ t.prn.reasons = { s.prn.reasons with lowSupply := true } ∧ t.supply.phase = none)
    ∧ (180 ≤ v → t.prn.reasons = s.prn.reasons ∧ ∃ run rest, l.unprinted = run ++ rest ∧ (run.map Prod.snd).sum ≤ available
      ∧ (∀ k load more, rest = (k, load) :: more → available < (run.map Prod.snd).sum + load)
      ∧ (run = [] → t.supply.phase = none ∧ t.prn.engine = .waitSupply)
      ∧ (run ≠ [] → t.prn.engine = .printing ∧ ∃ ph, t.supply.phase = some ph ∧ ph.blocks = run.map Prod.fst
          ∧ ph.load = (run.map Prod.snd).sum ∧ ph.reapplied = false ∧ strobeTime s.prn.darkness v l.temp ph.width))

/-- A new line start (R182): block loads, those of load 0 printed, a sample of the temperature and the staged darkness. -/
def State.startsLine (s t : State) (loads : List Nat) : Prop :=
  ∃ l, t.prn.line = some l ∧ l.loads = loads ∧ l.printed = loads.map (· == 0)
    ∧ l.temp = s.prn.tempInput.headD s.prn.headTemp ∧ t.prn.darkness = s.prn.darknessSet

/-- A DRAWER_OPEN that will be accepted (R168) waits at the front of the queue, as its row, or as FRAME_TAKEN with its frame at the
head of the receive buffer. -/
def State.kickWaits (s : State) : Prop :=
  s.ready ∧ ∃ (p : Port) (tag reason : Byte) (more : List Instr),
    (s.pending = .drawerOpen tag (Byte.of p.code) reason :: more
      ∨ s.pending = .frameTaken :: more ∧ ∃ rest, s.link.headFrame = some (⟨0x34, tag, [Byte.of p.code, reason]⟩, rest))
    ∧ (s.drw p).fitted = true ∧ ((s.drw p).state = .closed ∨ (s.drw p).state = .noOpen) ∧ reason.toNat ≤ 1
    ∧ (if reason.toNat = 0 then s.txn.state = .tender ∧ s.txn.tenderCash = true else s.txn.state = .idle)

/-- The engine stands IDLE with nothing in progress and nothing queued (section 10.2). -/
def State.engineIdle (s : State) : Prop :=
  s.prn.engine = .idle ∧ s.prn.queue = [] ∧ s.prn.work = none ∧ s.prn.cutter = none ∧ s.prn.reasons.any = false

/-- The engine takes up a record of the queue (R181, R182, R186, R189): a feed's first line, a cut's cycle, the read of a weighed
line (whose access is handed over, or waits for a place, R100), or a raster's first line. A RECEIPT_BEGIN and a RECEIPT_END take
no time, and are no case of it. -/
def State.takesUp (s t : State) (r : PrintRecord) : Prop :=
  let goes := fun (store : Store) (prn : Printer) => t = { s with link := t.link, store := store, prn := prn }
  match r with
  | .feed lines => goes s.store { s.prn with
      work := some (.feed lines), engine := .printing
      line := some { loads := [], printed := [], advancing := true, temp := s.prn.headTemp } }
  | .cut kind => goes s.store { s.prn with
      work := some (.cut kind), engine := .cutting, cutter := some ⟨kind, true⟩, jamTimer := some (s.clock + 500) }
  | .weighedLine n =>
    let reading := { s.prn with work := some (.reading n), engine := .waitStore }
    let free := s.store.queue.length + s.store.waiters.length < 4
    (¬ free → goes { s.store with waiters := s.store.waiters ++ [.line] } reading)
      ∧ (free → ∀ store, s.receives (.readPrinter n true) store → goes store reading)
  | .raster repeats dots => t = { s with link := t.link, supply := t.supply, prn := t.prn } ∧ t.prn.queue = s.prn.queue
      ∧ t.prn.work = some (.raster repeats dots) ∧ s.startsLine t (rasterLoads dots)
  | .receiptBegin _ | .receiptEnd => True

/-- A record that takes time can be taken up with no other access of the store ending (R181, R186): where it asks for a read, no
place is free, or the flash stays at its operation, or no access waits. -/
def State.takesAlone (s : State) (r : PrintRecord) : Prop :=
  match r with
  | .receiptBegin _ | .receiptEnd => False
  | .weighedLine _ => 4 ≤ s.store.queue.length + s.store.waiters.length ∨ s.flashBusy
      ∨ s.store.op ≠ .idle ∧ s.store.headBlocked = true ∨ s.store.queue = []
  | .feed _ | .cut _ | .raster .. => True

/-- The record in progress has completed with its last line (R181, R188): it has left the queue, and the last line of a weighed
line has noted its damage and set the printed flag of its sale. -/
def State.recordDone (s : State) (w : Work) : State :=
  let left := { s.prn with queue := s.prn.queue.tail, work := none, ending := false, line := none }
  match w with
  | .text j => { s with
      prn := if j.damaged = true then { left with damagedLine := true, damagedNumber := j.number } else left
      txn := if s.txn.state ≠ .idle ∧ s.prn.queue.head?.map (·.receipt) = some s.txn.number then
          { s.txn with sales := s.txn.sales.map fun x => if x.number = j.number then { x with printed := true } else x }
        else s.txn }
  | _ => { s with prn := left }

/-- A transaction in CLOSING meets its closing condition (R71). -/
def State.closes (s : State) (x : Txn) : Prop :=
  x.state = .closing ∧ (x.receipt = .none ∨ x.receipt = .printed ∨ x.receipt = .cancelled)
    ∧ ∀ p, x.fired p = true → (s.drw p).state = .closed ∨ (s.drw p).state = .noOpen

/-- The transaction once its receipt, or a port that it fired, has taken a state (R71, R74): a CLOSING one ends where its closing
condition then holds, and bagging/enable as last written comes into effect (R119). -/
def State.receiptBecomes (s t : State) (x : Txn) : Prop :=
  (s.closes x → t.txn = { x with state := .idle, endCause := .closed } ∧ t.bag = { s.bag with enabled := s.bag.enableSet })
    ∧ (¬ s.closes x → t.txn = x ∧ t.bag = s.bag)

/-! ## Recovery -/

/-- The store as a power-on reset leaves it for the scan (R100): nothing queued, owed or under way. -/
def Store.quiet (x : Store) : Prop :=
  x.op = .idle ∧ x.queue = [] ∧ x.waiters = [] ∧ x.erase = none ∧ x.rotation = .none ∧ x.copies = [] ∧ x.failed = false

/-- The header that the scan reads of a sector (R113). -/
def scanHeader (scan : Scan) (i : Nat) (x : FlashSector) : Header := ((scan.sectors[i]?).bind (·.header)).getD x.header

/-- How the scan reads a slot (R96). -/
def scanHealth (scan : Scan) (i k : Nat) : Health := (((scan.sectors[i]?).map (·.slots)).getD []).getD k .clean

/-- A record that the scan reads OK or CORRECTED (R96, R98, R114): it stands in a sector that recovery has kept, and bears the
number of its position there. -/
def State.scanned (s t : State) (scan : Scan) (n : Nat) (r : RecordBody) : Prop :=
  ∃ i k e f x, t.store.table[i]? = some e ∧ e.first = some f ∧ s.flash[i]? = some x ∧ x.slots[k]? = some (.record n r)
    ∧ n = f + k ∧ scanHealth scan i k ≠ .uncorrectable

/-- A CAL record whose fields pass the limits of R53 and the relations of R54. -/
def CalFields.sound (k : CalFields) : Prop :=
  let p := k.cal.params
  (p.e = 1 ∨ p.e = 2 ∨ p.e = 5 ∨ p.e = 10 ∨ p.e = 20 ∨ p.e = 50) ∧ 1 ≤ p.max ∧ p.max ≤ 60000 ∧ p.max % p.e = 0
    ∧ p.max / p.e ≤ (match k.channel with | .p => 6000 | .b => 10000)
    ∧ (p.n = 4 ∨ p.n = 8 ∨ p.n = 16 ∨ p.n = 32) ∧ 4 ≤ p.s ∧ p.s ≤ 16
    ∧ k.cal.zc < k.cal.cs ∧ 1000 * (p.max : Int) ≤ 10 * k.cal.ms ∧ 4 * k.cal.ms ≤ (k.cal.cs - k.cal.zc) * (1000 * p.e)

/-- The calibration that recovery chooses for a channel (R61): the record of the highest number among the sound CAL records of
that channel that the scan reads; no other one bears that number. -/
def State.chosen (s t : State) (scan : Scan) (n : Nat) (k : CalFields) : Prop :=
  s.scanned t scan n (.cal k) ∧ k.sound
    ∧ ∀ n' k', s.scanned t scan n' (.cal k') → k'.channel = k.channel → k'.sound → n' < n ∨ n' = n ∧ k' = k

/-- A notice has been raised (R10, R11): it stands in its slot, or the transmitter, idle before, has chosen it. -/
def State.raised (s t : State) (k : Slot) (body : List Byte) : Prop :=
  k.enabled s.link.mask s.link.weightB = true →
    t.link.slots.get k = some body
      ∨ s.link.tx = none ∧ ∃ x, t.link.tx = some x ∧ x.bytes = ({ kind := Byte.of k.kind, tag := 0, body := body } : Frame).bytes

/-! ## The sectors -/

/-- The oldest FULL sector (R105): the first of those with the lowest sequence number. -/
def Store.oldestFullIs (x : Store) (i : Nat) : Prop :=
  ∃ e, x.table[i]? = some e ∧ e.state = .full
    ∧ ∀ j y, x.table[j]? = some y → y.state = .full → e.seq < y.seq ∨ e.seq = y.seq ∧ i ≤ j

/-- The first ERASED sector in physical order after one, wrapping from 7 to 0 (R104). -/
def Store.firstErasedAfter (x : Store) (i j : Nat) : Prop :=
  ∃ k, k < 8 ∧ j = (i + 1 + k) % 8 ∧ (x.entry j).state = .erased ∧ ∀ m, m < k → (x.entry ((i + 1 + m) % 8)).state ≠ .erased

/-- The spare check decides nothing (R105): a sector is ERASED, ERASING or erase pending, or the store is FAILED. -/
def Store.spared (x : Store) : Prop :=
  x.failed = true ∨ ∃ e ∈ x.table, e.state = .erased ∨ e.state = .erasing ∨ e.pending = true

/-- Does a channel's current CAL record lie in a sector (R105)? -/
def Store.holdsCurrent (x : Store) (i : Nat) (c : Ch) : Prop :=
  ∃ k, (match c with | .p => x.currentP | .b => x.currentB) = some k ∧ (x.entry i).bears k.number = true

/-! ## What every step keeps -/

/-- Is an access a read for the host, which owes a reply (R111)? -/
def Access.owesReply : Access → Bool
  | .readHost .. => true
  | .write _ | .readPrinter .. | .release _ => false

/-- The reply queue (R9): at most 8 places are reserved or filled, and the reserved ones are those of the reads under way and of
a lane reset under way. -/
def State.replyPlacesKept (s : State) : Prop :=
  s.link.reserved + s.link.replies.length ≤ 8
    ∧ s.link.reserved = s.store.queue.countP Access.owesReply + (if s.link.resetTag.isSome then 1 else 0)

/-- The buffers of the link and the store: 2,048 bytes received (R2) and 4 accesses (R100). -/
def State.buffersKept (s : State) : Prop := s.link.rx.length ≤ 2048 ∧ s.store.queue.length ≤ 4

/-- A capture stream holds at most 2,048 entries (R147). -/
def Stream.within (x : Option Stream) : Bool := x.all fun y => y.entries.length ≤ 2048

/-- The capture streams of the card in the slot, and those that the decoder has taken (R147, R148). -/
def Streams.within (x : Streams) : Bool :=
  Stream.within x.insertA && Stream.within x.insertB && Stream.within x.withdrawA && Stream.within x.withdrawB

/-- The capture memory (R147). -/
def State.captureKept (s : State) : Prop := s.card.streams.within = true ∧ (s.card.decoder.all Streams.within) = true

/-- The lists of a sale: 16 places of expectations and reservations (R120), 8 bagged items (R124), and 32 sales, one place kept
for a weighing in flight (R73). -/
def State.saleListsKept (s : State) : Prop :=
  s.bag.entries.length + s.bag.reserved ≤ 16 ∧ s.bag.bagged.length ≤ 8
    ∧ s.txn.sales.length + (if s.pw.inFlight then 1 else 0) ≤ 32

/-- The print queue (R177): 256 records, and 16,384 bytes at 80 for each RASTER. -/
def State.printQueueKept (s : State) : Prop :=
  s.prn.queue.length ≤ 256 ∧ 80 * s.prn.queue.countP (fun q => q.record.isRaster) ≤ 16384

/-- A port holds load only in KICK and in HOLD, and a hold load within its kick load (R161, R169, R170). -/
def Drawer.loadKept (d : Drawer) : Prop :=
  (d.state ≠ .kick → d.state ≠ .hold → d.grant = 0) ∧ (d.state = .kick → d.holdLoad ≤ d.grant) ∧ d.holdDuty ≤ 60

/-- The supply (R161, R162): the granted loads stay within the budget in effect, and at most one port is in KICK. -/
def State.supplyKept (s : State) : Prop :=
  s.granted ≤ s.supply.budget ∧ ¬ (s.drw1.state = .kick ∧ s.drw2.state = .kick) ∧ s.drw1.loadKept ∧ s.drw2.loadKept

/-- What the sale allows a port that waits for its kick (R168): a SALE only in TENDER with a cash tender seen, the port in the
drawers-fired set; a NO_SALE only in IDLE. -/
def State.waitAllowed (s : State) (p : Port) : Prop :=
  (s.drw p).state = .waitSupply →
    (s.drw p).fitted = true ∧
      (((s.drw p).reason = .sale ∧ s.txn.state = .tender ∧ s.txn.tenderCash = true ∧ s.txn.fired p = true)
        ∨ ((s.drw p).reason = .noSale ∧ s.txn.state = .idle))

/-- No kick is on its way outside the states of the sale that allow it. -/
def State.kicksKept (s : State) : Prop := s.waitAllowed .one ∧ s.waitAllowed .two

/-- The verifier holds a kind of exception other than NONE exactly in HOLD (R118). -/
def State.holdKept (s : State) : Prop := s.bag.state = .hold ↔ s.bag.kind ≠ .none

/-- A held read has its hold timer running, and none runs without one (R155). -/
def State.readKept (s : State) : Prop := s.card.held.isSome = s.card.holdTimer.isSome

/-- The price of a sale: net times unit price over 1,000, to the nearest with ties away from zero, at most 9,999,999 (R88). -/
def SaleFields.priced (r : SaleFields) : Prop := r.price = roundAway (r.net * r.unitPrice) 1000 ∧ r.price ≤ 9999999

/-- A record's price, where it is a sale. -/
def RecordBody.priced : RecordBody → Prop
  | .sale r => r.priced
  | .cal _ => True

/-- Every SALE record is priced by R88: those in the flash array, those on their way in the access queue, and one that waits. -/
def State.salesPriced (s : State) : Prop :=
  (∀ x ∈ s.flash, ∀ n r, UsedSlot.record n r ∈ x.slots → r.priced)
    ∧ (∀ r, Access.write r ∈ s.store.queue → r.priced) ∧ (∀ r, s.pw.waiting = some r → r.priced)

/-- The zero offset of a channel lies within 2% of Max of its initial zero (R30). -/
def State.zeroKept (s : State) (c : Ch) : Prop :=
  (((s.ch c).zo - (s.ch c).zoInit).natAbs : Int) ≤ 20 * ((s.params c).max : Int)

end Sys2Proof.Machine
end

