-- ==== Sys2Proof/Certificates/Slice0/Obligations.lean ====
section
/-! DEFINITION. The statements for the provers, chapter by chapter of the manual; each docstring names the rules it formalises.
Throughout, `.chooseFrame` is the choice of an idle transmitter with which a command ends (R3, R11; log entry 8), and the moment at
which an expiry leaves the clock, `max s.clock w`, is the MODEL'S CHOICE (log entry 2). -/

open Sys2Proof Sys2Proof.Machine

/-! ## The step -/

/-- The command at the front of the queue runs on the state with the queue's rest, and its outcome is the step's. -/
def Obligations.StepRunsTheFrontCommand : Prop :=
  ∀ (s : State) (c : Instr) (rest : List Instr), step { s with pending := c :: rest } = exec c { s with pending := rest }

/-- The MODEL'S CHOICE of log entry 2: on an empty queue a millisecond passes, and an idle transmitter chooses. -/
def Obligations.EmptyQueueLetsAMillisecondPass : Prop :=
  ∀ s : State, s.pending = [] → step s = .next ({ s with clock := s.clock + 1 } : State).chooseFrame

/-! ## The lane link (chapter 1) -/

/-- R3, R9, R10, R11: a transmitter that is sending chooses nothing; an idle one chooses the oldest filled reply, or else the
first filled slot of the order of R11, which is emptied; its first byte starts if HRDY is asserted. A change of HRDY, the end of
a byte and the end of a frame change nothing else of the part: a byte starts only while HRDY is asserted, one that has started
is completed, and a reply leaves the queue with its last byte. That BYTE_SENT and FRAME_SENT change nothing with no frame in
transmission is the MODEL'S CHOICE (log entry 10). -/
def Obligations.TransmitterChoosesAndSendsOneFrame : Prop :=
  (∀ l : Link,
      (l.tx.isSome = true → l.choose = l)
      ∧ (∀ f rest, l.tx = none → l.replies = f :: rest →
          l.choose = { l with tx := some { bytes := f.bytes, index := 0, inFlight := l.hrdy, isReply := true } })
      ∧ (∀ before k after body, l.tx = none → l.replies = [] →
          [Slot.laneReady, .calState, .storeState, .priceResult, .txnState, .bagState, .drawer1, .drawer2, .cardState,
            .printState, .weightP, .weightB] = before ++ k :: after →
          (∀ j ∈ before, l.slots.get j = none) → l.slots.get k = some body →
          l.choose = { l with
            tx := some { bytes := ({ kind := Byte.of k.kind, tag := 0, body := body } : Frame).bytes, index := 0,
                         inFlight := l.hrdy, isReply := false }
            slots := l.slots.set k none })
      ∧ (l.tx = none → l.replies = [] → (∀ k, l.slots.get k = none) → l.choose = l))
    ∧ (∀ s : State,
      (∀ asserted, exec (.hrdyChange asserted) s = .next ({ s with link := { s.link with
          hrdy := asserted
          tx := s.link.tx.map fun t => { t with inFlight := t.inFlight || asserted } } } : State).chooseFrame)
      ∧ (∀ t, s.link.tx = some t → t.inFlight = true → t.index + 1 < t.bytes.length →
          exec .byteSent s = .next { s with link := { s.link with
            tx := some { t with index := t.index + 1, inFlight := s.link.hrdy } } })
      ∧ (∀ t, s.link.tx = some t → t.inFlight = true → t.index + 1 = t.bytes.length →
          exec .frameSent s = .next ({ s with link := { s.link with
            tx := none
            replies := if t.isReply then s.link.replies.tail else s.link.replies } } : State).chooseFrame)
      ∧ (s.link.tx = none → exec .byteSent s = .next s.chooseFrame ∧ exec .frameSent s = .next s.chooseFrame))

/-- R1, R2: a byte is lost to a framing error or a full buffer, and the next one stored carries the loss mark; any other byte
joins the buffer with its marks, and the framer examines the buffer (R5, R6). LRDY falls at 1,536 bytes and rises when the
buffer has emptied. R6: when the line has been quiet for more than 20 ms, incomplete candidates at the head are abandoned.
Nothing else of the part changes. When a candidate with a loss mark is discarded is the MODEL'S reading (verdict, log entry
61). -/
def Obligations.ReceivedByteIsStoredOrLost : Prop :=
  ∀ (s : State) (byte : Byte) (gap framingError : Bool),
    (framingError = true ∨ 2048 ≤ s.link.rx.length →
      exec (.byteReceived byte gap framingError) s =
        .next ({ s with link := { s.link with lineQuiet := false, lossNext := true } } : State).chooseFrame)
    ∧ (framingError = false → s.link.rx.length < 2048 →
      ∃ rx, hunted false (s.link.rx ++ [{ byte := byte, gap := gap, loss := s.link.lossNext }]) rx
        ∧ exec (.byteReceived byte gap framingError) s = .next ({ s with link := { s.link with
            lineQuiet := false, lossNext := false, rx := rx
            lrdy := if rx = [] then true else if 1536 ≤ s.link.rx.length + 1 then false else s.link.lrdy } } : State).chooseFrame)
    ∧ (∃ rx, hunted true s.link.rx rx
      ∧ exec .candidateAbandoned s = .next ({ s with link := { s.link with
          lineQuiet := true, rx := rx, lrdy := if rx = [] then true else s.link.lrdy } } : State).chooseFrame)

/-- R2: whatever the command, LRDY is not reasserted before the buffer has emptied completely. -/
def Obligations.LrdyRisesOnlyOnAnEmptyBuffer : Prop :=
  ∀ s t : State, step s = .next t → s.link.lrdy = false → t.link.lrdy = true → t.link.rx = []

/-- R4, R5, R6: the bytes of a frame of at most 1,024 body bytes, received without gap or loss behind any sync byte, are read
back as that frame, with whatever bytes follow it left over. -/
def Obligations.FrameBytesReadBackAsTheFrame : Prop :=
  ∀ (l : Link) (f : Frame) (first : RxByte) (more : List RxByte),
    f.body.length ≤ 1024 → first.byte = 0xA5 →
    l.rx = first :: (f.bytes.tail.map fun b => { byte := b, gap := false, loss := false }) ++ more →
    l.headFrame = some (f, more)

/-- R5, R7, section 1.4: a good frame that carries a row's request, with every operand of the row at every value, runs that row
once its bytes have left the buffer. (A TARE frame with an action above 2 and a CAL_POINT frame with a point above 1 are no
row's.) LANE_RESET, which only sets the reset-in-progress flag at its taking, is stated in
LaneResetInTwoSteps. -/
def Obligations.RequestFrameRunsItsRow : Prop :=
  ∀ (s : State) (c : Instr) (f : Frame) (rest : List RxByte),
    c.frame? = some f → f.kind ≠ 0x03 → s.link.headFrame = some (f, rest) → s.link.mayTake = true →
    exec .frameTaken s = exec c (s.setLink { s.link with rx := rest }.hunt)

/-- R5, R7, R8: a frame waits while no place is free or a reset is under way; one of an unknown kind is answered UNKNOWN_KIND
with the kind, and one of a known kind with a body that its kind does not have is answered BAD_FRAME. -/
def Obligations.FrameWaitsOrIsRefusedByTheLink : Prop :=
  ∀ (s : State) (f : Frame) (rest : List RxByte), s.link.headFrame = some (f, rest) →
    (s.link.mayTake = false → exec .frameTaken s = .next s.chooseFrame)
    ∧ (s.link.mayTake = true → knownKind f.kind.toNat = false →
        exec .frameTaken s = .next ({ s with link := { { s.link with rx := rest }.hunt with
          replies := s.link.replies ++ [{ kind := 0x7F, tag := f.tag, body := [0x05, f.kind] }] } } : State).chooseFrame)
    ∧ (s.link.mayTake = true → knownKind f.kind.toNat = true → parseBody f.kind.toNat f.body = none →
        exec .frameTaken s = .next ({ s with link := { { s.link with rx := rest }.hunt with
          replies := s.link.replies ++ [{ kind := f.kind + 0x40, tag := f.tag, body := [0x03] }] } } : State).chooseFrame)

/-- R15: PING is answered, in the start-up period too, OK with the part code 0x0340, the revision code 0x01 and the rate code, and
touches no other state. The two bytes of the part code, little-endian, are the MODEL'S CHOICE (log entry 46). -/
def Obligations.PingAnswersThePartAndTouchesNothing : Prop :=
  ∀ (s : State) (tag : Byte), s.link.mayTake = true →
    exec (.ping tag) s =
      .next (s.answer 0x01 tag (.accept [0x40, 0x03, 0x01, if s.link.rateHigh then 1 else 0])).chooseFrame

/-- R16, R112, R138: STATUS_GET, ALIBI_INFO and BAG_GET report what their blocks hold, and change nothing. -/
def Obligations.ReportRequestsChangeNothing : Prop :=
  ∀ (s : State) (tag : Byte), s.link.mayTake = true →
    exec (.statusGet tag) s = .next (s.answer 0x02 tag (.accept
      ([if s.link.rateHigh then 1 else 0, Byte.of (statusFlags s.link.starting s.cal.switchClosed s.card.held.isSome),
          Byte.of (s.report .p).state.code, Byte.of (s.report .p).condition.code, Byte.of (s.report .b).state.code,
          Byte.of (s.report .b).condition.code]
        ++ le32 s.txn.number
        ++ [Byte.of s.txn.state.code, Byte.of s.bag.state.code, Byte.of s.bag.entries.length,
          if s.card.decoder.isSome then 4 else Byte.of s.card.seat.code, Byte.of s.drw1.state.code, Byte.of s.drw2.state.code,
          Byte.of s.prn.engine.code, Byte.of (reasonBits s.prn.reasons), Byte.of s.store.condition.code]
        ++ le16 s.noSale ++ le16 s.cal.counterP ++ le16 s.cal.counterB))).chooseFrame
    ∧ (s.link.starting = false →
      exec (.alibiInfo tag) s = .next (s.answer 0x2A tag (.accept
        (le32 s.store.oldest ++ le32 (s.store.next - 1) ++ le32 s.store.releasePoint ++ [Byte.of s.store.condition.code]
          ++ le16 s.cal.counterP ++ le16 s.cal.counterB ++ le16 s.store.damagedFound ++ [Byte.of s.store.retired]
          ++ (s.store.table.map fun e => [Byte.of e.state.code, if e.released then 1 else 0, if e.pending then 1 else 0]
              ++ le32 e.seq ++ [Byte.of e.used]).flatten))).chooseFrame
      ∧ exec (.bagGet tag) s = .next (s.answer 0x30 tag (.accept
        ([Byte.of s.bag.state.code, Byte.of s.bag.kind.code] ++ leI32 s.bag.delta ++ [if s.bag.ref.isSome then 1 else 0]
          ++ refField s.bag.ref ++ leI32 s.bag.baseline ++ [Byte.of s.bag.reserved] ++ le16 s.txn.bagSkip
          ++ [Byte.of s.bag.entries.length] ++ (s.bag.entries.map (entryBytes s.clock)).flatten
          ++ [Byte.of s.bag.bagged.length] ++ (s.bag.bagged.map baggedBytes).flatten))).chooseFrame)

/-- R17, R18: SETTING_PUT and SETTING_GET over the tables of settings (R12, R48, R116, R119, R157, R160, R166, R197, R204). An
unknown pair is answered NOT_FOUND by both. A write answers the clamped value, which a read returns afterwards, and touches its own
block alone beside the link, but for what the drawer settings do to the attention sources and the sale. A polarity written
acts as a sensor event where the level then reads otherwise (R167); a fitted value takes effect where the port's state lets it, a
port that it unfits being CLOSED, one that it fits sampling its sensor (R174; that an unfitted port keeps its sensor state as it
stood is the MODEL'S CHOICE, log entry 52, and that the level sampled is the pin's as last debounced its reading, log entry 27); a
fired port that either shuts may end a CLOSING transaction (R71). hold_unexported written makes the spare check (R105; the order of
the copies owed is the MODEL'S CHOICE, log entry 47), and an idle flash begins the erase it decides, whose sector is ERASING from
then on, not pending, with sequence number 0 (R97, R106; that its first number, used slots and released flag stay as they stood is
the MODEL'S reading, log entry 44). A write of a notices setting empties every slot that it disables, and no other (R12).
bagging/enable acts at once while the transaction is IDLE (R119), and a budget while no grant is held and no re-application is owed
(R160; that a port in HOLD holds a grant, a load of 0 included, is the MODEL'S reading, log entry 7); else both are staged. Each
other setting takes its value and changes nothing else. A read changes nothing. -/
def Obligations.SettingsAreClampedAndReadBack : Prop :=
  ∀ (s : State) (tag b n : Byte) (v : BitVec 32), s.ready →
    (∀ row ∈ settingRows, row.block = b.toNat → row.setting = n.toNat →
      exec (.settingGet tag b n) s = .next (s.answer 0x05 tag (.accept (le32 (s.setting b.toNat n.toNat)))).chooseFrame
      ∧ ∃ t mid, exec (.settingPut tag b n v) s = .next t ∧ t.setting b.toNat n.toNat = max row.lo (min row.hi v.toNat)
        ∧ t.link.replies = s.link.replies ++ mid ++ [replyFrame 0x04 tag (.accept (le32 (max row.lo (min row.hi v.toNat))))]
        ∧ (b.toNat ≠ 10 → mid = []))
    ∧ ((∀ row ∈ settingRows, ¬ (row.block = b.toNat ∧ row.setting = n.toNat)) →
      exec (.settingGet tag b n) s = .next (s.answer 0x05 tag (.refuse .notFound)).chooseFrame
      ∧ exec (.settingPut tag b n v) s = .next (s.answer 0x04 tag (.refuse .notFound)).chooseFrame)
    ∧ (∀ (mask : BitVec 10) (weightB : Bool) (w : Nat),
      (b.toNat = 1 ∧ n.toNat = 1 ∧ w = min 1023 v.toNat ∧ mask = BitVec.ofNat 10 w ∧ weightB = s.link.weightB
        ∨ b.toNat = 1 ∧ n.toNat = 2 ∧ w = min 1 v.toNat ∧ mask = s.link.mask ∧ weightB = decide (1 ≤ v.toNat)) →
      ∃ slots : Slots, (∀ k, slots.get k = if k.enabled mask weightB then s.link.slots.get k else none)
        ∧ exec (.settingPut tag b n v) s = .next (({ s with link := { s.link with
            mask := mask, weightB := weightB, slots := slots } } : State).answer 0x04 tag (.accept (le32 w))).chooseFrame)
    ∧ (∀ t, exec (.settingPut tag b n v) s = .next t →
      let on := decide (1 ≤ v.toNat)
      let into := fun lo hi => max lo (min hi v.toNat);
      (b.toNat = 1 → t = { s with link := t.link })
      ∧ (b.toNat = 2 → n.toNat = 1 → t.pw = { s.pw with settleS := into 2 30 })
      ∧ (b.toNat = 2 → n.toNat = 2 → t.pw = { s.pw with tareAutoclear := on })
      ∧ (b.toNat = 4 → n.toNat = 1 → t.bag = { s.bag with
          enableSet := on, enabled := if s.txn.state = .idle then on else s.bag.enabled })
      ∧ (b.toNat = 4 → n.toNat = 2 → t.bag = { s.bag with band := into 1 10 })
      ∧ (b.toNat = 4 → n.toNat = 3 → t.bag = { s.bag with placementS := into 5 60 })
      ∧ (b.toNat = 4 → n.toNat = 4 → t.bag = { s.bag with pairMatch := on })
      ∧ (b.toNat = 4 → n.toNat = 5 → t.bag = { s.bag with requireClear := on })
      ∧ (b.toNat = 4 → n.toNat = 6 → t.bag = { s.bag with acceptChirp := on })
      ∧ (b.toNat = 5 → n.toNat = 1 → t.card = { s.card with leftS := into 20 300 })
      ∧ (b.toNat = 5 → n.toNat = 2 → t.card = { s.card with holdS := into 10 60 })
      ∧ (b.toNat = 6 → n.toNat = 1 → t.supply = { s.supply with
          staged := into 160 640
          budget := if s.supply.phase = none ∧ s.supply.owed = none ∧ s.drw1.state ≠ .kick ∧ s.drw1.state ≠ .hold
              ∧ s.drw2.state ≠ .kick ∧ s.drw2.state ≠ .hold then into 160 640 else s.supply.budget })
      ∧ (b.toNat = 6 → n.toNat = 2 → t.supply = { s.supply with kickFirst := on })
      ∧ (b.toNat = 9 → n.toNat = 1 → t.prn = { s.prn with darknessSet := into 1 8 })
      ∧ (b.toNat = 9 → n.toNat = 2 → t.prn = { s.prn with decimals := into 0 3 })
      ∧ (b.toNat = 10 → n.toNat = 1 → t.store = { s.store with eraseFirst := on })
      ∧ (b.toNat = 11 → n.toNat = 1 → t.attn = { s.attn with tone := on })
      ∧ (b.toNat = 2 → t = { s with link := t.link, pw := t.pw })
      ∧ (b.toNat = 4 → t = { s with link := t.link, bag := t.bag })
      ∧ (b.toNat = 5 → t = { s with link := t.link, card := t.card })
      ∧ (b.toNat = 6 → t = { s with link := t.link, supply := t.supply })
      ∧ (b.toNat = 7 → n.toNat ≠ 1 → n.toNat ≠ 6 → t = { s with link := t.link, drw1 := t.drw1 })
      ∧ (b.toNat = 8 → n.toNat ≠ 1 → n.toNat ≠ 6 → t = { s with link := t.link, drw2 := t.drw2 })
      ∧ (b.toNat = 9 → t = { s with link := t.link, prn := t.prn })
      ∧ (b.toNat = 10 → n.toNat = 1 → t = { s with link := t.link, store := t.store })
      ∧ (b.toNat = 11 → t = { s with link := t.link, attn := t.attn })
      ∧ (t.clock = s.clock ∧ t.flash = s.flash ∧ t.noSale = s.noSale ∧ t.pending = s.pending)
      ∧ (∀ p q : Port, p ≠ q → b.toNat = (match p with | .one => 7 | .two => 8) →
        let d := s.drw p
        let becomes := fun (d' : Drawer) => t = { s.setDrw p d' with link := t.link }
        let rests := d.state = .closed ∨ d.state = .opened ∨ d.state = .overdue ∨ d.state = .noOpen
        let still := { d with fittedSet := on, fitted := on, forced := false, kickTimer := none, holdTimer := none, grant := 0 }
        let shut := { s.attn with
          drawerForced := if (s.drw q).forced then s.attn.drawerForced else
            { s.attn.drawerForced with active := false, muted := false }
          drawerOverdue := if (s.drw q).state = .overdue then s.attn.drawerOverdue else
            { s.attn.drawerOverdue with active := false, muted := false } }
        let turns := fun (d' : Drawer) (attn : Attention) =>
          t = { s.setDrw p d' with link := t.link, attn := attn, txn := t.txn, bag := t.bag }
            ∧ (if s.txn.fired p = true then (s.setDrw p d').receiptBecomes t s.txn else t.txn = s.txn ∧ t.bag = s.bag);
        (n.toNat = 2 → becomes { d with kickMs := into 30 200 })
        ∧ (n.toNat = 3 → becomes { d with holdDuty := into 0 60 })
        ∧ (n.toNat = 4 → becomes { d with holdMs := into 100 1000 })
        ∧ (n.toNat = 5 → becomes { d with overdueS := into 10 600 })
        ∧ (n.toNat = 7 → becomes { d with kickLoad := into 32 400 })
        ∧ (n.toNat = 6 →
          ∃ u, exec (.drawerSensorChange p d.levelHigh) (s.setDrw p { d with polarity := on, levelHigh := !d.levelHigh }) = .next u
            ∧ t = { u with link := t.link })
        ∧ (n.toNat = 6 → d.fitted = false ∨ (d.levelHigh != on) = d.sensorOpen → becomes { d with polarity := on })
        ∧ (n.toNat = 6 → d.fitted = true → d.fittedSet = true → (d.levelHigh != on) = false → d.sensorOpen = true →
            d.state = .opened ∨ d.state = .overdue →
            turns { still with state := .closed, polarity := on, sensorOpen := false, fittedSet := true, fitted := true
                               overdueTimer := none } shut)
        ∧ (n.toNat = 6 → d.fitted = true → d.fittedSet = true → (d.levelHigh != on) = true → d.sensorOpen = false →
            d.state = .closed →
            t = { s.setDrw p { d with
                polarity := on, sensorOpen := true, state := .opened, forced := true, kickTimer := none, holdTimer := none
                grant := 0, overdueTimer := some (s.clock + d.overdueS * 1000) } with
              link := t.link
              attn := { s.attn with drawerForced := { active := true, muted := false, start := s.clock } } })
        ∧ (n.toNat = 1 → s.txn.fired p = false ∨ ¬ s.closes s.txn → on = d.fitted ∨ ¬ rests → becomes { d with fittedSet := on })
        ∧ (n.toNat = 1 → rests → on = false → d.fitted = true →
            turns { still with state := .closed, overdueTimer := none } shut)
        ∧ (n.toNat = 1 → rests → on = true → d.fitted = false →
            turns (if d.levelHigh != d.polarity then
                { still with state := .opened, sensorOpen := true, overdueTimer := some (s.clock + d.overdueS * 1000) }
              else { still with state := .closed, sensorOpen := false, overdueTimer := none }) s.attn))
      ∧ (b.toNat = 10 → n.toNat = 2 → s.store.op ≠ .idle ∨ s.store.quiet →
        let x := { s.store with holdUnexported := on }
        let keeps := fun i => v.toNat ≠ 0 ∧ (s.store.entry i).released = false
        let owes := fun i => t.store.copies.Sublist [.p, .b] ∧ ∀ c, c ∈ t.store.copies ↔ s.store.holdsCurrent i c;
        t = { s with link := t.link, store := t.store }
        ∧ (s.store.spared ∨ (∀ e ∈ s.store.table, e.state ≠ .full) ∨ (∃ i, s.store.oldestFullIs i ∧ keeps i) →
            t.store = { x with condition := t.store.condition })
        ∧ (∀ i, ¬ s.store.spared → s.store.oldestFullIs i → ¬ keeps i →
            let decided := { x.setEntry i { s.store.entry i with pending := true } with
              erase := some ⟨i, 0, .pulse⟩, copies := t.store.copies, condition := t.store.condition };
            (s.store.op ≠ .idle → t.store = decided ∧ owes i)
            ∧ (s.store.op = .idle → (∀ c, ¬ s.store.holdsCurrent i c) → t.store = { x.setEntry i {
                  s.store.entry i with state := .erasing, seq := 0, pending := false } with
                erase := some ⟨i, 0, .pulse⟩, op := .pulse false, condition := t.store.condition })
            ∧ (s.store.op = .idle → (∃ c, s.store.holdsCurrent i c) →
              ((∃ a, s.store.active = some a ∧ (s.store.entry a).used < 128) →
                owes i ∧ ∃ c, t.store.copies.head? = some c ∧ t.store = { decided with op := .programCopy c })
              ∧ ((∀ a, s.store.active = some a → 128 ≤ (s.store.entry a).used) →
                t.store = { x with failed := true, condition := .failed })))))

/-- R12: NOTICE_MASK writes the mask and empties every filled slot that it disables, and no other; a field with a bit above 9
set is answered BAD_VALUE. -/
def Obligations.NoticeMaskEmptiesWhatItDisables : Prop :=
  ∀ (s : State) (tag : Byte) (mask : BitVec 16), s.ready →
    (mask.toNat ≤ 1023 → ∃ slots : Slots,
      (∀ k, slots.get k = if k.enabled (mask.setWidth 10) s.link.weightB then s.link.slots.get k else none)
      ∧ exec (.noticeMask tag mask) s = .next (({ s with link := { s.link with
          mask := mask.setWidth 10, slots := slots } } : State).answer 0x06 tag (.accept [])).chooseFrame)
    ∧ (1023 < mask.toNat → exec (.noticeMask tag mask) s = .next (s.answer 0x06 tag (.refuse .badValue)).chooseFrame)

/-- R19 and the lane-reset rule of every chapter (R47, R60, R77, R94, R127, R158, R175, R196, R204): what LANE_RESET leaves. A
calibration session that is OPEN ends, and its channel returns home; one that is COMMITTING is marked with cause RESET. A
waiting weighing is ABORTED, and a latched one detached; the tare is cleared, and the reference of a lane not re-armed moves with
it. Beside the tare and the last raised report a channel keeps what it holds (R47), but for the moves of R21 at the end of a
session. The verifier's queue, reservations and exception are emptied. The card slot takes its position from its switches, with
no stream and CARD_LEFT released. Each fitted port takes its state from its sensor. The printer stops, its cut runs on, and its
read is withdrawn or discarded; a staged budget takes effect, also where a port is not fitted. The MODEL'S own are: the row takes
the request and applies the reset at once (log entry 1), a port that becomes unfitted keeps its sensor state (log entry 52), the
emptied exception has delta 0 and no ref (log entry 60), a reading whose window is emptied is not stable (log entry 37), and a
port in HOLD holds a grant (log entry 7). -/
def Obligations.LaneResetReturnsTheLaneToACleanPoint : Prop :=
  ∀ (s : State) (tag : Byte), s.ready → ∃ t, exec (.laneReset tag) s = .next t
    ∧ s.replied t 0x03 tag (.accept []) ∧ t.link.slots = Slots.empty
    ∧ (s.txn.state ≠ .idle → t.txn = { s.txn with
        state := .idle, inFlight := false, endCause := .reset, receipt := s.txn.receipt.aborted })
    ∧ (s.txn.state = .idle → t.txn = { s.txn with inFlight := t.txn.inFlight })
    ∧ t.pw.reference = (if s.pw.rearm = true then s.pw.reference else s.pw.reference + s.chP.tare / 1000)
    ∧ (s.pw.state = .waitRearm ∨ s.pw.state = .waitStable → t.pw = { s.pw with
        state := .idle, settle := none, reserved := false, result := .aborted, reason := .none, lastAlibi := 0
        reference := t.pw.reference })
    ∧ (s.pw.state = .storing → t.pw = { s.pw with state := .detached, reserved := false, reference := t.pw.reference })
    ∧ (s.pw.state = .idle ∨ s.pw.state = .detached → t.pw = { s.pw with reference := t.pw.reference })
    ∧ t.bag.enabled = (if s.txn.state = .idle then s.bag.enabled else s.bag.enableSet)
    ∧ (s.bag.state ≠ .inactive → t.attn.bagHold.active = false ∧ t.bag = { s.bag with
        state := .inactive, entries := [], reserved := 0, kind := .none, delta := 0, ref := none
        baseline := 0, bagged := [], lastMatched := none, enabled := t.bag.enabled })
    ∧ (s.bag.state = .inactive → t.bag = { s.bag with
        baseline := 0, bagged := [], lastMatched := none, reserved := t.bag.reserved, enabled := t.bag.enabled })
    ∧ t.prn = { s.prn with
        queue := [], openReceipt := none, work := none, restart := .none, line := none, ending := false
        engine := if s.prn.cutter ≠ none then .cutting else if s.prn.reasons.any = true then .suspended else .idle }
    ∧ t.store = { s.store with
        waiters := s.store.waiters.filter (· != .line)
        queue := s.store.queue.map fun a => match a with | .readPrinter n _ => .readPrinter n false | a => a }
    ∧ t.supply = { s.supply with phase := none, owed := none, budget := t.supply.budget }
    ∧ ((∀ p, (s.drw p).fitted = true ∨ (s.drw p).state ≠ .kick ∧ (s.drw p).state ≠ .hold) → t.supply.budget = s.supply.staged)
    ∧ (s.card.cardLeft = true → t.attn.cardLeft.active = false)
    ∧ t.card = { s.card with
        held := none, decoder := none, armedA := false, armedB := false, holdTimer := none
        streams := ⟨none, none, none, none⟩, pass := none, cardLeft := false
        seat := match s.card.frontClosed, s.card.rearClosed with
          | false, false => .empty | true, false => .entering | true, true => .seated | false, true => .readerFault
        leftTimer := if s.card.frontClosed = true ∧ s.card.rearClosed = true then
          some (s.clock + s.card.leftS * 1000) else none }
    ∧ (∀ p, (s.drw p).fitted = true → (t.drw p).grant = 0 ∧ (t.drw p).reason = (s.drw p).reason)
    ∧ (∀ p, (s.drw p).fitted = false → t.drw p = s.drw p)
    ∧ (∀ p, let d := s.drw p; d.fitted = true → d.fittedSet = true → t.drw p = { d with
        state := if d.sensorOpen = true then .opened else .closed, grant := 0, kickTimer := none, holdTimer := none
        overdueTimer := if d.sensorOpen = true then some (s.clock + d.overdueS * 1000) else none
        forced := decide (d.forced = true ∧ (d.state = .opened ∨ d.state = .overdue) ∧ d.sensorOpen = true) })
    ∧ (∀ p, let d := s.drw p; d.fitted = true → d.fittedSet = false → t.drw p = { d with
        state := .closed, grant := 0, kickTimer := none, holdTimer := none, overdueTimer := none, forced := false, fitted := false })
    ∧ ((∃ p, (s.drw p).fitted = true) →
        ((∀ p, (s.drw p).fitted = true ∨ (s.drw p).state ≠ .overdue) → t.attn.drawerOverdue.active = false)
        ∧ ((∀ p, (t.drw p).forced = false) → t.attn.drawerForced.active = false))
    ∧ (s.cal.session = none → t.cal = s.cal)
    ∧ (∀ x, s.cal.session = some x → x.committing = true →
        t.cal = { s.cal with session := some { x with endMark := true, cause := .reset } })
    ∧ (∀ x, s.cal.session = some x → x.committing = false → t.cal = { s.cal with session := none })
    ∧ (∀ c, let a := s.ch c
        let b := t.ch c
        let tare := match c with | .p => 0 | .b => a.tare;
        ((∀ x, s.cal.session = some x → x.committing = false → x.channel ≠ c) →
          b = { a with tare := tare, lastReport := none })
        ∧ (∀ x, s.cal.session = some x → x.committing = false → x.channel = c →
          let from_ := if a.state = .fault then a.resume else a.state;
          b = { a with
            tare := tare, lastReport := none, window := b.window, latest := b.latest
            state := if a.state = .fault then .fault else x.home
            resume := if a.state = .fault then x.home else a.resume
            zo := if x.home = .noZero then 0 else a.zo
            zoInit := if x.home = .noZero then 0 else a.zoInit
            tracking := if x.home = .noZero ∨ x.home = .calibrating then none else a.tracking }
          ∧ (from_ = .calibrating → x.home = .uncalibrated → b.window = a.window ∧ b.latest = a.latest)
          ∧ (from_ = .calibrating → x.home = .noZero ∨ x.home = .weighing →
              b.window = [] ∧ b.latest = a.latest.map fun r => { r with stable := false })))
    ∧ (∀ k, (t.attn.get k).muted = false) ∧ t.attn.hostBeep.active = false ∧ t.attn.beepEnd = none
    ∧ t.attn.accept.active = s.attn.accept.active ∧ t.attn.acceptEnd = s.attn.acceptEnd
    ∧ (∀ row ∈ settingRows, t.setting row.block row.setting = s.setting row.block row.setting)
    ∧ t.clock = s.clock ∧ t.flash = s.flash ∧ t.noSale = s.noSale ∧ t.pending = s.pending

/-- R7, R19: a LANE_RESET frame at its taking only sets the reset-in-progress flag, and no frame is taken while it is set. That the
LANE_RESET row, whatever tag it carries, then applies the reset and answers with the tag of the frame is the MODEL'S reading of
the table (log entry 1). But for the link, the reset is that of LaneResetReturnsTheLaneToACleanPoint; of the link the flag is
cleared, the slots are empty, and the reply fills the place reserved for it. -/
def Obligations.LaneResetInTwoSteps : Prop :=
  ∀ (s : State) (tag : Byte) (rest : List RxByte),
    (s.link.headFrame = some (⟨0x03, tag, []⟩, rest) → s.ready →
      ∃ t, exec .frameTaken s = .next t ∧ t = { s with link := t.link } ∧ t.link.resetTag = some tag ∧ t.link.mayTake = false
        ∧ t.link.replies = s.link.replies)
    ∧ (∀ other, s.link.resetTag = some tag →
      let untaken := { s with link := { s.link with resetTag := none, starting := false, replies := [], reserved := 0 } };
      untaken.ready ∧ ∃ t u, exec (.laneReset other) s = .next t ∧ exec (.laneReset tag) untaken = .next u
        ∧ t = { u with link := t.link } ∧ t.link.replies = s.link.replies ++ [⟨0x43, tag, [0x00]⟩]
        ∧ t.link = { s.link with
            resetTag := none, slots := Slots.empty, reserved := s.link.reserved - 1, replies := t.link.replies, tx := t.link.tx }
        ∧ t.flash = s.flash ∧ t.clock = s.clock)

/-- R13, R14, R1, R2, R9, R10, R20, R49, R61, R64, R79, R98, R100, R118, R140, R141, R144, R160, R166, R177, R190, R199: a power-on
reset, with or without a flash operation in progress. Every block takes its power-on value, the pins are sampled, every setting
its default, and the flash array is kept. Of a flash operation in progress the header or the slot is as if the operation had not
begun, as if it were complete, or unreadable: every outcome is allowed, the MODEL'S CHOICE of log entry 14. The clock and the
queue of commands are the model's own and go on (log entries 2 and 5). That no slot but those of WEIGHT for channel P and of
CARD_STATE is filled is the MODEL'S reading (log entries 13, 31 and 57), and that the exception record has delta 0 and no ref its
choice (log entry 60). -/
def Obligations.PowerOnResetGivesEveryBlockItsValue : Prop :=
  ∀ (s : State) (pins : Pins) (fate : FlashFate), ∃ t, exec (.powerOnReset pins fate) s = .next t
    ∧ (s.store.op = .idle ∨ s.store.op = .read ∨ s.store.op = .verify ∨ fate = .notApplied → t.flash = s.flash)
    ∧ (∀ i x, s.flash[i]? = some x → fate ≠ .notApplied →
      let programs := fun r => t.flash = s.flash.set i { x with slots := x.slots ++ [if fate = .applied then r else .cleared] }
      let marks := fun h => t.flash = s.flash.set i { x with header := if fate = .applied then h else .damaged };
      (∀ body rest, s.store.op = .programHead → s.store.queue = .write body :: rest → s.store.active = some i →
        programs (.record s.store.next body))
      ∧ (∀ c k, s.store.op = .programCopy c → s.store.current c = some k → s.store.active = some i →
        programs (.record s.store.next (.cal { k.fields with carried := true })))
      ∧ (∀ released u f r, s.store.op = .markFull i released → x.header = .marked u f r → marks (.marked u true (r || released)))
      ∧ (∀ seq, s.store.op = .markInUse i seq → marks (.marked (some seq) false false))
      ∧ (∀ u f r, s.store.op = .markReleased i → x.header = .marked u f r → marks (.marked u f true))
      ∧ (∀ first e, s.store.op = .pulse first → s.store.erase = some e → e.sector = i →
        t.flash = s.flash.set i (if fate = .applied then { header := .blank, slots := [] } else { x with header := .damaged })))
    ∧ t.clock = s.clock ∧ t.pending = s.pending
    ∧ t.link.starting = true ∧ t.link.rateHigh = pins.rateHigh ∧ t.link.rx = [] ∧ t.link.lrdy = true ∧ t.link.hrdy = pins.hrdy
    ∧ t.link.reserved = 0 ∧ t.link.replies = [] ∧ t.link.tx = none ∧ t.link.resetTag = none
    ∧ (∀ k, k ≠ .weightP → k ≠ .cardState → t.link.slots.get k = none)
    ∧ (∀ c, (t.ch c).state = .uncalibrated ∧ (t.ch c).samples = [] ∧ (t.ch c).window = [] ∧ (t.ch c).zo = 0 ∧ (t.ch c).zoInit = 0
      ∧ (t.ch c).tare = 0 ∧ (t.ch c).saturated = 0 ∧ (t.ch c).latest = none ∧ (t.ch c).tracking = none
      ∧ (t.ch c).watchdog = some (s.clock + 100))
    ∧ t.cal.inForceP = none ∧ t.cal.inForceB = none ∧ t.cal.session = none ∧ t.cal.switchClosed = pins.metrologyClosed
    ∧ t.cal.counterP = 0 ∧ t.cal.counterB = 0 ∧ t.cal.lastRecord = 0
    ∧ t.txn = { number := 0, state := .idle, laneTime := 0, tenderCash := false, tenderCard := false, tenderOther := false
                fired1 := false, fired2 := false, sales := [], receipt := .none, bagSkip := 0, inFlight := false, endCause := .none }
    ∧ t.pw.state = .idle ∧ t.pw.rearm = true ∧ t.pw.reference = 0 ∧ t.pw.result = .none ∧ t.pw.lastAlibi = 0 ∧ t.pw.settle = none
    ∧ t.store.condition = .normal ∧ t.store.op = .idle ∧ t.store.queue = [] ∧ t.store.waiters = [] ∧ t.store.erase = none
    ∧ t.store.failed = false ∧ t.store.failures = 0 ∧ t.store.next = 1 ∧ t.store.releasePoint = 0 ∧ t.store.damagedFound = 0
    ∧ t.store.retired = 0 ∧ t.store.rotation = .none ∧ t.store.copies = [] ∧ t.store.currentP = none ∧ t.store.currentB = none
    ∧ t.bag.state = .inactive ∧ t.bag.baseline = 0 ∧ t.bag.entries = [] ∧ t.bag.reserved = 0 ∧ t.bag.bagged = []
    ∧ t.bag.kind = .none ∧ t.bag.delta = 0 ∧ t.bag.ref = none ∧ t.bag.lastMatched = none
    ∧ t.card.held = none ∧ t.card.counter = 0 ∧ t.card.armedA = false ∧ t.card.armedB = false
    ∧ t.card.streams = ⟨none, none, none, none⟩ ∧ t.card.decoder = none ∧ t.card.holdTimer = none ∧ t.card.cardLeft = false
    ∧ t.card.frontClosed = pins.cardFrontClosed ∧ t.card.rearClosed = pins.cardRearClosed
    ∧ t.card.seat = (match pins.cardFrontClosed, pins.cardRearClosed with
        | false, false => .empty | true, false => .entering | true, true => .seated | false, true => .readerFault)
    ∧ t.card.leftTimer = (if pins.cardFrontClosed = true ∧ pins.cardRearClosed = true then some (s.clock + 60000) else none)
    ∧ t.supply = { budget := 384, staged := 384, kickFirst := false, phase := none, owed := none }
    ∧ t.drw1.fitted = true ∧ t.drw2.fitted = false ∧ t.drw1.state = (if pins.drawer1High then .opened else .closed)
    ∧ t.drw1.sensorOpen = pins.drawer1High ∧ t.drw2.state = .closed
    ∧ t.drw1.overdueTimer = (if pins.drawer1High then some (s.clock + 120000) else none) ∧ t.drw2.overdueTimer = none
    ∧ (∀ p, (t.drw p).forced = false ∧ (t.drw p).grant = 0 ∧ (t.drw p).reason = .none ∧ (t.drw p).kickTimer = none
      ∧ (t.drw p).holdTimer = none)
    ∧ t.noSale = 0
    ∧ t.prn.queue = [] ∧ t.prn.openReceipt = none ∧ t.prn.work = none ∧ t.prn.line = none ∧ t.prn.ending = false
    ∧ t.prn.restart = .none ∧ t.prn.cutter = none ∧ t.prn.jamTimer = none ∧ t.prn.darkness = 4 ∧ t.prn.lastDone = 0
    ∧ t.prn.doneCount = 0 ∧ t.prn.damagedLine = false ∧ t.prn.damagedNumber = 0 ∧ t.prn.paperPresent = pins.paperPresent
    ∧ t.prn.paperLow = pins.paperLow ∧ t.prn.coverOpen = pins.coverOpen ∧ t.prn.cutterHome = pins.cutterHome
    ∧ t.prn.reasons = { paperOut := !pins.paperPresent, coverOpen := pins.coverOpen, headHot := decide (65 ≤ pins.headTemp),
                        lowSupply := decide (pins.headSupply < 180), cutterJam := !pins.cutterHome }
    ∧ t.prn.engine = (if t.prn.reasons.any then .suspended else .idle)
    ∧ (∀ k, (t.attn.get k).active = false ∧ (t.attn.get k).muted = false) ∧ t.attn.beepEnd = none ∧ t.attn.acceptEnd = none
    ∧ (∀ row ∈ settingRows, t.setting row.block row.setting = row.default_)

/-- R14, R61, R64, R113 to R115: the end of the recovery scan ends the start-up period, once. The transaction number is the
highest that a SALE record read OK or CORRECTED in a kept sector carries, or 0; each channel takes its calibration and counter
from the highest-numbered sound CAL record so read, or keeps the ones it has; LANE_READY is raised. The sectors are settled: one in
use whose slots fix its first number is kept with that number and its used slots; one that is not in use is ERASED, in use anew, or
RETIRED; while the store has not FAILED one sector is ACTIVE, and the next number follows the newest. The blocks that recovery does
not name are as before. That the first number, the used slots and the released flag of a kept sector stay as they were where its
erase has begun at once, and that a sector which recovery retires has no first number and no used slots, is the MODEL'S reading
(log entry 44), and so is the released flag of an ACTIVE candidate, which is that of its header (log entry 23). That a slot
past the end of the scan's list reads clean, and that a scan's end outside the start-up period finds nothing to end, is the
MODEL'S CHOICE (log entries 17 and 10). -/
def Obligations.RecoveryEndsTheStartUpPeriod : Prop :=
  ∀ (s : State) (scan : Scan),
    (s.link.starting = true → s.store.quiet → ∃ t, exec (.recoveryScanEnd scan) s = .next t ∧ t.link.starting = false
      ∧ (∀ n r, s.scanned t scan n (.sale r) → r.txn ≤ t.txn.number)
      ∧ (t.txn.number = 0 ∨ ∃ n r, s.scanned t scan n (.sale r) ∧ r.txn = t.txn.number)
      ∧ (∀ n k, s.chosen t scan n k → t.inForce k.channel = some k.cal
          ∧ t.store.current k.channel = some { number := n, fields := k }
          ∧ (match k.channel with | .p => t.cal.counterP | .b => t.cal.counterB) = k.counter
          ∧ (t.ch k.channel).zo = 0 ∧ (t.ch k.channel).zoInit = 0
          ∧ ((s.ch k.channel).state ≠ .fault → (t.ch k.channel).state = .noZero)
          ∧ ((s.ch k.channel).state = .fault → (t.ch k.channel).state = .fault ∧ (t.ch k.channel).resume = .noZero))
      ∧ (∀ c, (∀ n k, s.scanned t scan n (.cal k) → k.channel = c → ¬ k.sound) → t.inForce c = s.inForce c
          ∧ t.store.current c = none ∧ (t.ch c).state = (s.ch c).state)
      ∧ (∃ condition, (condition = t.store.condition ∨ t.store.condition = .failed)
          ∧ s.raised t .laneReady ([Byte.of condition.code] ++ le32 (t.store.next - 1) ++ le32 t.txn.number
            ++ le16 t.cal.counterP ++ le16 t.cal.counterB ++ [Byte.of t.chP.state.code, Byte.of t.chB.state.code]))
      ∧ t = { s with link := t.link, chP := t.chP, chB := t.chB, cal := t.cal, txn := { s.txn with number := t.txn.number }
                     pw := t.pw, store := t.store, flash := t.flash }
      ∧ t.link.rx = s.link.rx ∧ t.link.mask = s.link.mask ∧ t.link.replies = s.link.replies
      ∧ (∀ i x z e, s.flash[i]? = some x → scan.sectors[i]? = some z → t.store.table[i]? = some e →
          (∀ q full released k n r, scanHeader scan i x = .marked (some q) full released → x.slots[k]? = some (.record n r) →
            0 < n → k < n → scanHealth scan i k ≠ .uncorrectable →
            (∀ j m y, j < k → x.slots[j]? = some (.record m y) → scanHealth scan i j = .uncorrectable) →
            e.first = some (n - k) ∧ e.used = x.slots.length ∧ e.released = released
              ∧ (full = true → e.state = .full ∨ e.state = .erasing)
              ∧ (full = false → e.state ≠ .erased ∧ e.state ≠ .retired))
          ∧ ((∀ q full released, scanHeader scan i x ≠ .marked (some q) full released) →
            e.first = none ∧ e.used = 0
              ∧ (scanHeader scan i x = .blank ∧ z.blankOk = true ∧ x.slots = [] ∨ z.eraseOk = true →
                  e.state = .erased ∨ e.state = .active)
              ∧ (z.eraseOk = false → ¬ (scanHeader scan i x = .blank ∧ z.blankOk = true ∧ x.slots = []) → e.state = .retired)))
      ∧ (s.flash.length = 8 → scan.sectors.length = 8 → t.store.table.length = 8 ∧ (t.store.failed = false →
          t.store.table.countP (fun e => e.state == .active) = 1
          ∧ 3 ≤ t.store.table.countP (fun e => e.state != .retired)
          ∧ ((∀ re, t.store.op ≠ .pulse re) → ∀ (i : Nat) (e : SectorEntry) (f : Nat), t.store.table[i]? = some e → e.inUse = true →
              e.first = some f → (∀ (j : Nat) (y : SectorEntry), j ≠ i → t.store.table[j]? = some y → y.inUse = true → 0 < y.used → y.seq < e.seq) →
              t.store.next = f + e.used))))
    ∧ (s.link.starting = false → exec (.recoveryScanEnd scan) s = .next s.chooseFrame)

/-! ## Lane attention outputs (chapter 11) -/

/-- R202: ATTN_BEEP is an assertion event of HOST_BEEP that lasts count × 200 ms, and is answered BAD_VALUE for a count outside
1 to 9 or a pitch that has no code; ATTN_SILENCE mutes every active source, and no other, and reports both sets. R202, R203: the
two sources that release themselves. Nothing else of the part changes. -/
def Obligations.AttentionSourcesBeginMuteAndEnd : Prop :=
  ∀ (s : State) (tag count pitch : Byte),
    (s.ready → 1 ≤ count.toNat → count.toNat ≤ 9 → pitch.toNat ≤ 2 →
      exec (.attnBeep tag count pitch) s = .next (({ s with attn := { s.attn with
        hostBeep := { active := true, muted := false, start := s.clock }
        beepCount := count.toNat, beepPitch := pitch.toNat
        beepEnd := some (s.clock + count.toNat * 200) } } : State).answer 0x08 tag (.accept [])).chooseFrame)
    ∧ (s.ready → count.toNat = 0 ∨ 9 < count.toNat ∨ 2 < pitch.toNat →
      exec (.attnBeep tag count pitch) s = .next (s.answer 0x08 tag (.refuse .badValue)).chooseFrame)
    ∧ (s.ready → exec (.attnSilence tag) s = .next (({ s with attn := { s.attn with
        bagHold := { s.attn.bagHold with muted := s.attn.bagHold.muted || s.attn.bagHold.active }
        drawerForced := { s.attn.drawerForced with muted := s.attn.drawerForced.muted || s.attn.drawerForced.active }
        drawerOverdue := { s.attn.drawerOverdue with muted := s.attn.drawerOverdue.muted || s.attn.drawerOverdue.active }
        cardLeft := { s.attn.cardLeft with muted := s.attn.cardLeft.muted || s.attn.cardLeft.active }
        hostBeep := { s.attn.hostBeep with muted := s.attn.hostBeep.muted || s.attn.hostBeep.active }
        accept := { s.attn.accept with muted := s.attn.accept.muted || s.attn.accept.active } } } : State).answer 0x09 tag
          (.accept [Byte.of (flagsByte [s.attn.bagHold.active, s.attn.drawerForced.active, s.attn.drawerOverdue.active,
              s.attn.cardLeft.active, s.attn.hostBeep.active, s.attn.accept.active]),
            Byte.of (flagsByte [s.attn.bagHold.muted || s.attn.bagHold.active,
              s.attn.drawerForced.muted || s.attn.drawerForced.active,
              s.attn.drawerOverdue.muted || s.attn.drawerOverdue.active, s.attn.cardLeft.muted || s.attn.cardLeft.active,
              s.attn.hostBeep.muted || s.attn.hostBeep.active, s.attn.accept.muted || s.attn.accept.active])])).chooseFrame)
    ∧ (∀ t, s.attn.beepEnd = some t → exec .hostBeepEnd s = .next ({ s with
        clock := max s.clock t
        attn := { s.attn with hostBeep := { s.attn.hostBeep with active := false, muted := false }, beepEnd := none } }
          : State).chooseFrame)
    ∧ (∀ t, s.attn.acceptEnd = some t → exec .acceptEnd s = .next ({ s with
        clock := max s.clock t
        attn := { s.attn with accept := { s.attn.accept with active := false, muted := false }, acceptEnd := none } }
          : State).chooseFrame)

/-- R200, R201, R202: the tone falls silent at an ATTN_SILENCE, the lamp does not change, and with no other unmuted source an
ATTN_BEEP sounds its pitch at once while attention/tone is 1. The tone is the pattern of a source that is active and unmuted,
and of which no source of higher priority is. -/
def Obligations.ToneIsThePlayedSourceAndTheLampStays : Prop :=
  ∀ (s t : State) (tag count pitch : Byte), s.ready →
    (exec (.attnSilence tag) s = .next t → t.toneOutput = none ∧ t.lamp = s.lamp)
    ∧ (exec (.attnBeep tag count pitch) s = .next t → 1 ≤ count.toNat → count.toNat ≤ 9 → pitch.toNat ≤ 2 →
        (∀ k, k ≠ .hostBeep → (s.attn.get k).active = true → (s.attn.get k).muted = true) →
        t.toneOutput = (if s.attn.tone then some (if pitch.toNat = 0 then 2000 else if pitch.toNat = 1 then 2400 else 3000)
          else none)
        ∧ t.lamp = s.lamp)
    ∧ (∀ hz, s.toneOutput = some hz → ∃ before k after,
        [SourceName.bagHold, .drawerForced, .drawerOverdue, .cardLeft, .hostBeep, .accept] = before ++ k :: after
        ∧ (s.attn.get k).active = true ∧ (s.attn.get k).muted = false
        ∧ (∀ j ∈ before, (s.attn.get j).active = false ∨ (s.attn.get j).muted = true)
        ∧ s.attn.pattern k (s.clock - (s.attn.get k).start) = some hz)

/-! ## Weighing channels (chapter 2) -/

/-- R46: WEIGHT_GET answers the report's twenty bytes in every channel state and changes nothing, and is answered STARTING in the
start-up period; R34, R40, R41, R44: in WEIGHING without saturation
the condition is judged on gross, a VALID gross and net are the nearest whole divisions, a tie going away from zero, and the
centre flag is |gross_mg| ≤ e_mg / 4. -/
def Obligations.WeightGetReportsTheRoundedReading : Prop :=
  (∀ (s : State) (tag : Byte) (c : Ch), s.link.mayTake = true → s.link.starting = true →
    exec (.weightGet tag (Byte.of c.code)) s = .next (s.answer 0x10 tag (.refuse .starting)).chooseFrame)
  ∧ ∀ (s : State) (tag : Byte) (c : Ch), s.ready →
    exec (.weightGet tag (Byte.of c.code)) s = .next (s.answer 0x10 tag (.accept
      ([Byte.of c.code, Byte.of (s.report c).state.code, Byte.of (s.report c).condition.code,
          Byte.of (flagsByte [(s.report c).stable, (s.report c).centre])]
        ++ leI32 (s.report c).gross ++ leI32 (s.report c).net ++ leI32 (s.report c).tare
        ++ leI32 (s.report c).raw))).chooseFrame
    ∧ (s.report c).state = (s.ch c).state ∧ (s.report c).tare = (s.ch c).tare / 1000
    ∧ ((s.ch c).latest = none → (s.report c).condition = .valid ∧ (s.report c).stable = false ∧ (s.report c).raw = 0
        ∧ (s.report c).gross = 0 ∧ (s.report c).net = 0)
    ∧ (∀ r, (s.ch c).latest = some r → (s.report c).stable = r.stable ∧ (s.report c).raw = r.a
        ∧ (0 < (s.ch c).saturated → (s.report c).condition = .saturated ∧ (s.report c).gross = 0))
    ∧ (∀ r k g, (s.ch c).latest = some r → s.inForce c = some k → (s.ch c).state = .weighing → (s.ch c).saturated = 0 →
        0 < k.params.e → g = roundAway ((r.a - k.zc) * k.ms) (k.cs - k.zc).natAbs - (s.ch c).zo →
        ((s.report c).condition = .over ↔ 1000 * (k.params.max : Int) + 9 * (1000 * k.params.e) < g)
        ∧ ((s.report c).condition = .under ↔ g < -(20 * (1000 * (k.params.e : Int)))
            ∧ ¬ 1000 * (k.params.max : Int) + 9 * (1000 * k.params.e) < g)
        ∧ ((s.report c).condition = .valid →
            ((s.report c).centre = true ↔ 4 * g.natAbs ≤ 1000 * k.params.e)
            ∧ ∃ m n : Int, (s.report c).gross = k.params.e * m ∧ (s.report c).net = k.params.e * n
              ∧ 2 * (1000 * k.params.e * m - g).natAbs ≤ 1000 * k.params.e
              ∧ 2 * (1000 * k.params.e * n - (g - (s.ch c).tare)).natAbs ≤ 1000 * k.params.e
              ∧ (2 * (1000 * k.params.e * m - g).natAbs = 1000 * k.params.e →
                  g.natAbs ≤ (1000 * (k.params.e : Int) * m).natAbs)
              ∧ (2 * (1000 * k.params.e * n - (g - (s.ch c).tare)).natAbs = 1000 * k.params.e →
                  (g - (s.ch c).tare).natAbs ≤ (1000 * (k.params.e : Int) * n).natAbs)))

/-- R31, R32: an accepted ZERO takes the present gross weight as zero, restarts the tracking timer, and changes nothing else but
the link and the report last raised. -/
def Obligations.ZeroTakesThePresentLoad : Prop :=
  ∀ (s : State) (tag : Byte) (c : Ch) (r : Reading), s.ready → (s.ch c).state = .weighing →
    (c = .p → s.pw.inFlight = false ∧ s.chP.tare = 0) → (c = .b → s.bag.state = .inactive) →
    (s.ch c).latest = some r → r.stable = true → (s.ch c).saturated = 0 →
    ((s.scale c r.a - (s.ch c).zoInit).natAbs : Int) ≤ 20 * (s.params c).max →
    ∃ t, exec (.zero tag (Byte.of c.code)) s = .next t ∧ s.replied t 0x11 tag (.accept [])
      ∧ t = { s.setCh c { s.ch c with
          zo := s.scale c r.a
          tracking := if (s.params c).tracking then some (s.clock + 1000) else none
          lastReport := (t.ch c).lastReport } with link := t.link }

/-- R36 to R39, R84: the tare that each action of TARE leaves, the reply in grams, and the re-arm reference that moves with it
while the re-arm flag is clear. CLEAR is accepted in every state of channel P. Nothing else changes but the link and the report
last raised. -/
def Obligations.TareActionsSetTheTare : Prop :=
  ∀ (s : State) (tag : Byte) (value : BitVec 32), s.ready → s.pw.inFlight = false →
    ∀ (c : Instr) (mg : Int),
      (c = .tareClear tag value ∧ mg = 0)
      ∨ (c = .tarePreset tag value ∧ s.chP.state = .weighing ∧ 0 < value.toInt ∧ value.toInt ≤ (s.params .p).max
          ∧ mg = 1000 * (s.params .p).e * roundAway (1000 * value.toInt) (1000 * (s.params .p).e)
          ∧ mg ≠ 0 ∧ mg ≤ 1000 * (s.params .p).max)
      ∨ (∃ r, c = .tareSemi tag value ∧ s.chP.state = .weighing ∧ s.chP.latest = some r ∧ r.stable = true ∧ s.chP.saturated = 0
          ∧ 0 < s.scale .p r.a - s.chP.zo ∧ s.scale .p r.a - s.chP.zo ≤ 1000 * (s.params .p).max
          ∧ mg = 1000 * (s.params .p).e * roundAway (s.scale .p r.a - s.chP.zo) (1000 * (s.params .p).e)
          ∧ mg ≠ 0 ∧ mg ≤ 1000 * (s.params .p).max) →
      ∃ t, exec c s = .next t ∧ s.replied t 0x12 tag (.accept (leI32 (mg / 1000)))
        ∧ t = { s with
            link := t.link
            chP := { s.chP with tare := mg, lastReport := t.chP.lastReport }
            pw := { s.pw with reference :=
              if s.pw.rearm then s.pw.reference else s.pw.reference + s.chP.tare / 1000 - mg / 1000 } }

/-- R22, R25 to R29, R42: a conversion completes on a channel that is not in FAULT, with no weighing waiting on channel P and no
verification on channel B. The sample joins a window of the last N; a full window gives the filtered count; the stability window
keeps the last S values, and the reading is stable when S of them lie within the limit; in NO_ZERO a stable reading near zero
becomes the initial zero. Beside the channel only the link and the re-arm flag change. R32: the reading starts the tracking timer,
lets it run on, or stops it, as the tracking condition holds. R45: WEIGHT is raised where the report differs, in more than the raw
count, from the last raised one, and not at a completion without a reading. R83: in every state of the unit a reading of channel P
near zero or far from the reference sets the re-arm flag, which no other reading changes unless it latches. -/
def Obligations.ConversionFormsTheReading : Prop :=
  (∀ (s : State) (c : Ch) (raw : BitVec 24),
    (s.ch c).state ≠ .fault → (c = .p → s.pw.state ≠ .waitRearm ∧ s.pw.state ≠ .waitStable) →
    (c = .b → s.bag.state = .inactive) →
    ∃ t, exec (.conversionComplete c raw) s = .next t
      ∧ t = { s.setCh c (t.ch c) with link := t.link, pw := { s.pw with rearm := t.pw.rearm } }
      ∧ (t.ch c).watchdog = some (s.clock + 100) ∧ (t.ch c).tare = (s.ch c).tare
      ∧ (∃ gone, (s.ch c).samples ++ [raw.toInt] = gone ++ (t.ch c).samples)
      ∧ (t.ch c).samples.length = min (s.params c).n ((s.ch c).samples.length + 1)
      ∧ (t.ch c).saturated = (t.ch c).samples.countP (fun x => x == -8388608 || x == 8388607)
      ∧ ((s.ch c).samples.length + 1 < (s.params c).n → (t.ch c).latest = (s.ch c).latest ∧ (t.ch c).state = (s.ch c).state
          ∧ (t.ch c).zo = (s.ch c).zo ∧ (t.ch c).tracking = (s.ch c).tracking ∧ (t.ch c).lastReport = (s.ch c).lastReport
          ∧ t.link = s.chooseFrame.link ∧ t.pw = s.pw)
      ∧ (c = .b → t.pw = s.pw)
      ∧ ((s.params c).n ≤ (s.ch c).samples.length + 1 →
          let r := t.report c
          (∀ q, (s.ch c).lastReport = some q → { q with raw := r.raw } = r →
            (t.ch c).lastReport = some q ∧ t.link = s.chooseFrame.link)
          ∧ ((∀ q, (s.ch c).lastReport = some q → { q with raw := r.raw } ≠ r) →
            (t.ch c).lastReport = some r ∧ s.raised t (weightSlot c) (reportBytes c r)))
      ∧ ((s.params c).n ≤ (s.ch c).samples.length + 1 → ∃ (a : Int) (stable : Bool) (gone : List Int),
          (t.ch c).latest = some { a := a, stable := stable }
          ∧ (0 < (s.params c).n → (2 * (s.params c).n : Int) * a ≤ 2 * (t.ch c).samples.sum + (s.params c).n
              ∧ 2 * (t.ch c).samples.sum + (s.params c).n < (2 * (s.params c).n : Int) * (a + 1))
          ∧ (s.ch c).window ++ [if (s.ch c).state.weights then s.scale c a else a] = gone ++ (t.ch c).window
          ∧ (t.ch c).window.length = min (s.params c).s ((s.ch c).window.length + 1)
          ∧ (stable = true ↔ (t.ch c).window.length = (s.params c).s ∧ ∀ x ∈ (t.ch c).window, ∀ y ∈ (t.ch c).window,
              x - y ≤ (if (s.ch c).state.weights then 1000 * ((s.params c).e : Int) else 8))
          ∧ (if (s.ch c).state = .noZero ∧ stable = true ∧ (t.ch c).saturated = 0
                ∧ ((s.scale c a).natAbs : Int) ≤ 100 * (s.params c).max then
              (t.ch c).state = .weighing ∧ (t.ch c).zo = s.scale c a ∧ (t.ch c).zoInit = s.scale c a
            else (t.ch c).state = (s.ch c).state ∧ (t.ch c).zo = (s.ch c).zo ∧ (t.ch c).zoInit = (s.ch c).zoInit)
          ∧ (let tracks := (t.ch c).state = .weighing ∧ (s.params c).tracking = true ∧ (s.ch c).tare = 0 ∧ stable = true
                ∧ (t.report c).condition = .valid ∧ 2 * (s.scale c a - (t.ch c).zo).natAbs ≤ 1000 * (s.params c).e;
            (¬ tracks → (t.ch c).tracking = none)
            ∧ (tracks → (s.ch c).tracking = none → (t.ch c).tracking = some (s.clock + 1000))
            ∧ (tracks → (s.ch c).tracking ≠ none → (t.ch c).tracking = (s.ch c).tracking))))
  ∧ (∀ (s : State) (raw : BitVec 24) (r : Report), r = (s.convert .p raw.toInt).report .p →
    (s.convert .p raw.toInt).chP.samples.length = (s.params .p).n →
    let e := ((s.params .p).e : Int)
    let read := r.state = .weighing ∧ r.condition = .valid
    let sets := read ∧ ((r.gross.natAbs : Int) ≤ 5 * e ∨ 20 * e ≤ ((r.net - s.pw.reference).natAbs : Int))
    let latches := read ∧ r.stable = true ∧ 20 * e ≤ r.net
      ∧ (s.pw.state = .waitStable ∨ s.pw.state = .waitRearm ∧ s.pw.rearm = false ∧ sets);
    ¬ latches → ∃ t, exec (.conversionComplete .p raw) s = .next t ∧ (t.pw.rearm = true ↔ s.pw.rearm = true ∨ sets)
      ∧ t.pw.reference = s.pw.reference)

/-- R22, R23, R33, R133: the watchdog's expiry puts the channel in FAULT with its present state to return to, and holds a
verifier that watches; the next conversion of a channel in FAULT returns it with that one sample; a tracking step takes the load
into the zero, within 2% of Max of the initial zero. -/
def Obligations.WatchdogFaultsAndTrackingStepsTheZero : Prop :=
  ∀ (s : State) (c : Ch),
    (∀ w, (s.ch c).watchdog = some w → ∃ t, exec (.conversionWatchdogExpiry c) s = .next t
      ∧ t.ch c = { s.ch c with state := .fault, resume := (s.ch c).state, latest := none, tracking := none, watchdog := none,
                               lastReport := (t.ch c).lastReport }
      ∧ t = { s.setCh c (t.ch c) with clock := max s.clock w, link := t.link, bag := t.bag, attn := t.attn }
      ∧ (c = .p ∨ s.bag.state = .inactive → t.bag = s.bag ∧ t.attn = s.attn)
      ∧ (c = .b → s.bag.state = .watching → s.bag.kind = .none → t.bag.state = .hold ∧ t.bag.kind = .scaleFault
          ∧ t.bag.baseline = s.bag.baseline ∧ t.attn.bagHold = { active := true, muted := false, start := max s.clock w }))
    ∧ (∀ raw, (s.ch c).state = .fault → 1 < (s.params c).n → ∃ t, exec (.conversionComplete c raw) s = .next t
      ∧ (t.ch c).state = (s.ch c).resume ∧ (t.ch c).samples = [raw.toInt] ∧ (t.ch c).latest = none
      ∧ (t.ch c).window = [] ∧ (t.ch c).zo = (s.ch c).zo ∧ (t.ch c).tare = (s.ch c).tare)
    ∧ (∀ w r, (s.ch c).tracking = some w → (s.ch c).latest = some r → ∃ t, exec (.trackingStep c) s = .next t
      ∧ t = { s.setCh c { s.ch c with
          zo := max ((s.ch c).zoInit - 20 * (s.params c).max) (min ((s.ch c).zoInit + 20 * (s.params c).max) (s.scale c r.a))
          tracking := some (max s.clock w + 1000)
          lastReport := (t.ch c).lastReport } with clock := max s.clock w, link := t.link }
      ∧ s.noticed t)

/-! ## Calibration (chapter 3) -/

/-- R49, R59, R62: a change of the metrology switch raises CAL_STATE with event SWITCH; opening in phase OPEN ends the session
without a commit and raises ABANDONED with cause SWITCH in its place; opening in phase COMMITTING sets the end-after-commit
mark, and the switch closing again changes nothing of the session. That a change to the level the switch already has changes
nothing is the MODEL'S CHOICE (log entry 10). -/
def Obligations.SwitchChangeReportsAndEndsAnOpenSession : Prop :=
  ∀ (s : State) (closed : Bool),
    (s.cal.switchClosed = closed → exec (.metrologySwitchChange closed) s = .next s.chooseFrame)
    ∧ (s.cal.switchClosed ≠ closed → s.cal.session = none →
      exec (.metrologySwitchChange closed) s = .next (({ s with cal := { s.cal with switchClosed := closed } } : State).raise
        .calState ([Byte.of s.cal.lastChannel.code, 0, 1, 0, if closed then 1 else 0]
          ++ le16 s.cal.counterP ++ le16 s.cal.counterB ++ le32 s.cal.lastRecord)).chooseFrame)
    ∧ (∀ x, s.cal.switchClosed = true → closed = false → s.cal.session = some x → x.committing = true →
      exec (.metrologySwitchChange closed) s = .next (({ s with cal := { s.cal with
          switchClosed := false, session := some { x with endMark := true, cause := .switch } } } : State).raise
        .calState ([Byte.of x.channel.code, 2, 1, 0, Byte.of (flagsByte [false, x.zeroStaged, x.spanStaged, x.paramsStaged])]
          ++ le16 s.cal.counterP ++ le16 s.cal.counterB ++ le32 s.cal.lastRecord)).chooseFrame)
    ∧ (∀ x, s.cal.switchClosed = false → closed = true → s.cal.session = some x →
      exec (.metrologySwitchChange closed) s = .next (({ s with cal := { s.cal with switchClosed := true } } : State).raise
        .calState ([Byte.of x.channel.code, if x.committing then 2 else 1, 1, 0,
            Byte.of (flagsByte [true, x.zeroStaged, x.spanStaged, x.paramsStaged])]
          ++ le16 s.cal.counterP ++ le16 s.cal.counterB ++ le32 s.cal.lastRecord)).chooseFrame)
    ∧ (∀ x, s.cal.switchClosed = true → closed = false → s.cal.session = some x → x.committing = false →
      ∃ (u : State) (ch : Channel),
        exec (.metrologySwitchChange closed) s = .next (u.raise .calState ([Byte.of s.cal.lastChannel.code, 0, 6, 2, 0]
          ++ le16 s.cal.counterP ++ le16 s.cal.counterB ++ le32 s.cal.lastRecord)).chooseFrame
        ∧ s.noticed u ∧ u.cal = { s.cal with switchClosed := false, session := none }
        ∧ u.ch x.channel = ch ∧ (if (s.ch x.channel).state = .fault then ch.state = .fault ∧ ch.resume = x.home
            else ch.state = x.home)
        ∧ u = { s with link := u.link, cal := u.cal, chP := u.chP, chB := u.chB, pw := u.pw })

/-- R50, R58: CAL_BEGIN copies the calibration in force, or the defaults of an uncalibrated channel, records the home state and
moves the channel to CALIBRATING, where channel P holds no tare; CAL_ABANDON discards the session and moves the channel home. In
FAULT the move is made on the resume state. The calibration in force and the counters do not change. -/
def Obligations.CalibrationSessionBeginsAndIsAbandoned : Prop :=
  ∀ (s : State) (tag : Byte) (c : Ch), s.ready →
    (s.cal.switchClosed = true → s.txn.state = .idle → s.cal.session = none →
      ∃ t x, exec (.calBegin tag (Byte.of c.code)) s = .next t
        ∧ s.replied t 0x14 tag (.accept (le16 (match c with | .p => s.cal.counterP | .b => s.cal.counterB)))
        ∧ t.cal = { s.cal with session := some x, lastChannel := c }
        ∧ x = { channel := c, home := if (s.ch c).state = .fault then (s.ch c).resume else (s.ch c).state,
                zc := (s.inForce c).map (·.zc), span := (s.inForce c).map fun k => (k.cs, k.ms), params := s.params c,
                zeroStaged := false, spanStaged := false, paramsStaged := false, committing := false, endMark := false,
                cause := .request }
        ∧ (if (s.ch c).state = .fault then (t.ch c).state = .fault ∧ (t.ch c).resume = .calibrating
            else (t.ch c).state = .calibrating)
        ∧ (t.ch c).tracking = none ∧ (c = .p → t.chP.tare = 0) ∧ (c = .b → t.chP = s.chP ∧ t.pw = s.pw)
        ∧ (c = .p → t.chB = s.chB) ∧ (t.ch c).zo = (s.ch c).zo ∧ (t.ch c).zoInit = (s.ch c).zoInit
        ∧ ((s.ch c).state.weights = true → (t.ch c).window = []) ∧ (t.ch c).samples = (s.ch c).samples
        ∧ t = { s with link := t.link, cal := t.cal, chP := t.chP, chB := t.chB, pw := t.pw })
    ∧ (∀ x, s.cal.session = some x → x.committing = false →
      ∃ t, exec (.calAbandon tag) s = .next t ∧ s.replied t 0x18 tag (.accept [])
        ∧ t.cal = { s.cal with session := none }
        ∧ (if (s.ch x.channel).state = .fault then (t.ch x.channel).state = .fault ∧ (t.ch x.channel).resume = x.home
            else (t.ch x.channel).state = x.home)
        ∧ (x.home ≠ .noZero → (t.ch x.channel).zo = (s.ch x.channel).zo ∧ (t.ch x.channel).zoInit = (s.ch x.channel).zoInit)
        ∧ t = { s with link := t.link, cal := t.cal, chP := t.chP, chB := t.chB, pw := t.pw })

/-- R52, R53: a point is staged from the filtered count of a stable, unsaturated latest reading; the five parameters are staged
together when every limit holds, and none of them otherwise. Nothing else changes. -/
def Obligations.PointsAndParametersAreStaged : Prop :=
  ∀ (s : State) (tag : Byte) (x : Session), s.ready → s.cal.session = some x → x.committing = false →
    (∀ (r : Reading) (mass : BitVec 32),
      (s.ch x.channel).latest = some r → r.stable = true → (s.ch x.channel).saturated = 0 →
      exec (.calPointZero tag mass) s = .next (({ s with cal := { s.cal with
          session := some { x with zc := some r.a, zeroStaged := true } } } : State).answer 0x15 tag (.accept (leI32 r.a))).chooseFrame
      ∧ (1000 ≤ mass.toNat → mass.toNat ≤ 60000000 →
        exec (.calPointSpan tag mass) s = .next (({ s with cal := { s.cal with
          session := some { x with span := some (r.a, (mass.toNat : Int)), spanStaged := true } } } : State).answer 0x15 tag
            (.accept (leI32 r.a))).chooseFrame)
      ∧ (mass.toNat < 1000 ∨ 60000000 < mass.toNat →
        exec (.calPointSpan tag mass) s = .next (s.answer 0x15 tag (.refuse .badValue)).chooseFrame))
    ∧ (∀ (max : BitVec 32) (e : BitVec 16) (n st tracking : Byte),
      let ok := (e.toNat = 1 ∨ e.toNat = 2 ∨ e.toNat = 5 ∨ e.toNat = 10 ∨ e.toNat = 20 ∨ e.toNat = 50)
        ∧ 1 ≤ max.toNat ∧ max.toNat ≤ 60000 ∧ max.toNat % e.toNat = 0
        ∧ max.toNat / e.toNat ≤ (match x.channel with | .p => 6000 | .b => 10000)
        ∧ (n.toNat = 4 ∨ n.toNat = 8 ∨ n.toNat = 16 ∨ n.toNat = 32) ∧ 4 ≤ st.toNat ∧ st.toNat ≤ 16 ∧ tracking.toNat ≤ 1;
      (ok → exec (.calParams tag max e n st tracking) s = .next (({ s with cal := { s.cal with session := some { x with
          params := { max := max.toNat, e := e.toNat, n := n.toNat, s := st.toNat, tracking := tracking.toNat == 1 }
          paramsStaged := true } } } : State).answer 0x16 tag (.accept [])).chooseFrame)
      ∧ (¬ ok → exec (.calParams tag max e n st tracking) s = .next (s.answer 0x16 tag (.refuse .badValue)).chooseFrame))

/-- R54, R55: a staged calibration that passes validity is handed to the store as a CAL record with the counter plus one, which
the reply carries, and the session is COMMITTING; one that fails it is answered OUT_OF_RANGE, with the session as it was, and so
is one answered STORE_FULL or STORE_FAILED. R54 answers BUSY where the access queue holds 4; that places owed to blocks that wait
count as taken is the MODEL'S reading (log entry 18). -/
def Obligations.CommitHandsOverTheStagedCalibration : Prop :=
  ∀ (s : State) (tag : Byte) (x : Session) (zc cs ms : Int), s.ready → s.cal.session = some x → x.committing = false →
    x.zc = some zc → x.span = some (cs, ms) →
    let valid := zc < cs ∧ 1000 * (x.params.max : Int) ≤ 10 * ms ∧ 4 * ms ≤ (cs - zc) * (1000 * x.params.e);
    let counter := min 65535 ((match x.channel with | .p => s.cal.counterP | .b => s.cal.counterB) + 1)
    let record : CalFields :=
      { channel := x.channel, carried := false, counter := counter, cal := { zc := zc, cs := cs, ms := ms, params := x.params } };
    (¬ valid → exec (.calCommit tag) s = .next (s.answer 0x17 tag (.refuse .outOfRange)).chooseFrame)
    ∧ (valid → s.store.condition = .storeFull →
      exec (.calCommit tag) s = .next (s.answer 0x17 tag (.refuse .storeFull)).chooseFrame)
    ∧ (valid → s.store.condition = .failed →
      exec (.calCommit tag) s = .next (s.answer 0x17 tag (.refuse .storeFailed)).chooseFrame)
    ∧ (valid → s.store.condition ≠ .storeFull → s.store.condition ≠ .failed →
      s.store.queue.length + s.store.waiters.length < 4 → ∀ store, s.receives (.write (.cal record)) store →
      exec (.calCommit tag) s = .next ((({ s with
        cal := { s.cal with session := some { x with committing := true } }
        store := store } : State).raise .calState
            ([Byte.of x.channel.code, 2, 3, 0,
              Byte.of (flagsByte [s.cal.switchClosed, x.zeroStaged, x.spanStaged, x.paramsStaged])]
              ++ le16 s.cal.counterP ++ le16 s.cal.counterB ++ le32 s.cal.lastRecord)).answer 0x17 tag
                (.accept (le16 counter))).chooseFrame)
    ∧ (valid → s.store.condition ≠ .storeFull → s.store.condition ≠ .failed →
      4 ≤ s.store.queue.length + s.store.waiters.length →
      exec (.calCommit tag) s = .next (s.answer 0x17 tag (.refuse .busy)).chooseFrame)

/-! ## The transaction (chapter 4) -/

/-- R65 to R67, R126: TXN_OPEN gives the next number, a fresh context and no tare. With verification enabled the verifier
watches from the gross weight of channel B; else it stays as it was with its bagged list empty. That the exception NONE then has
delta 0 and no ref is the MODEL'S choice (log entry 60). -/
def Obligations.OpenBeginsAFreshTransaction : Prop :=
  ∀ (s : State) (tag : Byte) (laneTime : BitVec 32), s.ready → s.txn.state = .idle →
    (∀ p, (s.drw p).state = .closed ∨ (s.drw p).state = .noOpen) → s.txn.number < 4294967295 →
    (s.bag.enabled = true → s.chB.state = .weighing ∧ s.chB.isStable = true ∧ (s.report .b).condition = .valid
      ∧ (s.bag.requireClear = true → ((s.report .b).gross.natAbs : Int) ≤ s.bag.band * (s.params .b).e)) →
    ∃ t, exec (.txnOpen tag laneTime) s = .next t ∧ s.replied t 0x20 tag (.accept (le32 (s.txn.number + 1)))
      ∧ t.txn = { number := s.txn.number + 1, state := .opened, laneTime := laneTime.toNat, tenderCash := false,
                  tenderCard := false, tenderOther := false, fired1 := false, fired2 := false, sales := [], receipt := .none,
                  bagSkip := 0, inFlight := false, endCause := .none }
      ∧ t.bag = (if s.bag.enabled then { s.bag with
          state := .watching, baseline := (s.report .b).gross, bagged := [], kind := .none, delta := 0, ref := none,
          lastMatched := none } else { s.bag with bagged := [] })
      ∧ t.chP.tare = 0
      ∧ t = { s with link := t.link, txn := t.txn, bag := t.bag, chP := { s.chP with tare := 0, lastReport := t.chP.lastReport },
                     pw := { s.pw with reference := t.pw.reference } }

/-- R68, R128: a tender sets the flag of its kind, drops the skippable entries while verification is enabled and counts them,
and enters TENDER; a weighing in flight, a hold and pending items refuse it in that order. -/
def Obligations.TenderSetsItsKindAndDropsSkippables : Prop :=
  ∀ (s : State) (tag kind : Byte), s.ready → s.txn.state = .opened ∨ s.txn.state = .tender → kind.toNat ≤ 2 →
    let refuse := fun r => exec (.txnTender tag kind) s = .next (s.answer 0x21 tag (.refuse r)).chooseFrame
    let pending := ∃ e ∈ s.bag.entries, e.dir = .remove ∨ e.skippable = false;
    (s.txn.inFlight = true → refuse .busy)
    ∧ (s.txn.inFlight = false → s.bag.enabled = true → s.bag.state = .hold → refuse .bagHold)
    ∧ (s.txn.inFlight = false → s.bag.enabled = true → s.bag.state ≠ .hold → pending → refuse .itemsPending)
    ∧ (s.txn.inFlight = false → (s.bag.enabled = true → s.bag.state ≠ .hold ∧ ¬ pending) →
      ∃ t, exec (.txnTender tag kind) s = .next t ∧ s.replied t 0x21 tag (.accept [])
        ∧ t = { s with
            link := t.link
            txn := { s.txn with
              state := .tender
              tenderCash := s.txn.tenderCash || kind.toNat == 0
              tenderCard := s.txn.tenderCard || kind.toNat == 1
              tenderOther := s.txn.tenderOther || kind.toNat == 2
              bagSkip := if s.bag.enabled then min 65535 (s.txn.bagSkip + s.bag.entries.length) else s.txn.bagSkip }
            bag := if s.bag.enabled then { s.bag with entries := [] } else s.bag })

/-- R69, whole: TXN_RESUME is refused WRONG_STATE outside TENDER, then NOT_ALLOWED where a drawer has been fired; else the
tender flags clear, the state is OPEN, TXN_STATE is raised, and nothing else changes. -/
def Obligations.ResumeReturnsATenderToOpen : Prop :=
  ∀ (s : State) (tag : Byte), s.ready →
    (s.txn.state ≠ .tender → exec (.txnResume tag) s = .next (s.answer 0x22 tag (.refuse .wrongState)).chooseFrame)
    ∧ (s.txn.state = .tender → s.txn.fired1 = true ∨ s.txn.fired2 = true →
      exec (.txnResume tag) s = .next (s.answer 0x22 tag (.refuse .notAllowed)).chooseFrame)
    ∧ (s.txn.state = .tender → s.txn.fired1 = false → s.txn.fired2 = false →
      ∃ txn, txn = { s.txn with state := .opened, tenderCash := false, tenderCard := false, tenderOther := false }
        ∧ exec (.txnResume tag) s = .next ((({ s with txn := txn } : State).answer 0x22 tag (.accept [])).raise .txnState
            txn.bytes).chooseFrame)

/-- R70, R71, R127: TXN_CLOSE ends the verification and leaves the transaction IDLE with cause CLOSED where the closing
condition holds, and CLOSING where it does not; its refusals change nothing. That the exception NONE then has delta 0 and no ref
is the MODEL'S choice (log entry 60). -/
def Obligations.CloseEndsOrWaitsForReceiptAndDrawers : Prop :=
  ∀ (s : State) (tag : Byte), s.ready →
    let refuse := fun r => exec (.txnClose tag) s = .next (s.answer 0x23 tag (.refuse r)).chooseFrame
    let waits := ∃ p, s.txn.fired p = true ∧ (s.drw p).state = .waitSupply
    let done := (s.txn.receipt = .none ∨ s.txn.receipt = .printed ∨ s.txn.receipt = .cancelled)
      ∧ ∀ p, s.txn.fired p = true → (s.drw p).state = .closed ∨ (s.drw p).state = .noOpen;
    (s.txn.state ≠ .tender → refuse .wrongState)
    ∧ (s.txn.state = .tender → waits → refuse .busy)
    ∧ (s.txn.state = .tender → ¬ waits → s.txn.sales ≠ [] → s.txn.receipt = .none → refuse .notAllowed)
    ∧ (s.txn.state = .tender → ¬ waits → (s.txn.sales = [] ∨ s.txn.receipt ≠ .none) →
      ∃ t, exec (.txnClose tag) s = .next t ∧ s.replied t 0x23 tag (.accept [])
        ∧ t = { s with link := t.link, txn := t.txn, bag := t.bag, attn := t.attn }
        ∧ (done → t.txn = { s.txn with state := .idle, endCause := .closed } ∧ t.bag.enabled = s.bag.enableSet)
        ∧ (¬ done → t.txn = { s.txn with state := .closing } ∧ t.bag.enabled = s.bag.enabled)
        ∧ (s.bag.state = .inactive → t.attn = s.attn ∧ t.bag = { s.bag with enabled := t.bag.enabled })
        ∧ (s.bag.state ≠ .inactive →
          t.bag = { s.bag with state := .inactive, entries := [], reserved := 0, kind := .none, delta := 0, ref := none,
                               enabled := t.bag.enabled }
          ∧ t.attn = { s.attn with bagHold := { s.attn.bagHold with active := false, muted := false } }))

/-- R72, R93, R195: TXN_ABORT ends the transaction from any state but IDLE, unless a fired port waits for supply. A receipt that
is open or queued is cancelled, a waiting weighing ends ABORTED, a latched one is detached, and the drawer ports are not
changed. -/
def Obligations.AbortEndsTheTransaction : Prop :=
  ∀ (s : State) (tag : Byte), s.ready →
    let waits := ∃ p, s.txn.fired p = true ∧ (s.drw p).state = .waitSupply;
    (s.txn.state = .idle → exec (.txnAbort tag) s = .next (s.answer 0x24 tag (.refuse .wrongState)).chooseFrame)
    ∧ (s.txn.state ≠ .idle → waits → exec (.txnAbort tag) s = .next (s.answer 0x24 tag (.refuse .busy)).chooseFrame)
    ∧ (s.txn.state ≠ .idle → ¬ waits → ∃ t mid, exec (.txnAbort tag) s = .next t
      ∧ t.link.replies = s.link.replies ++ mid ++ [replyFrame 0x24 tag (.accept [])]
      ∧ t.txn.state = .idle ∧ t.txn.endCause = .aborted ∧ t.txn.number = s.txn.number ∧ t.txn.sales = s.txn.sales
      ∧ t.txn.tenderCash = s.txn.tenderCash ∧ t.txn.fired1 = s.txn.fired1 ∧ t.txn.fired2 = s.txn.fired2
      ∧ t.txn.receipt = (if s.txn.receipt = .opened ∨ s.txn.receipt = .queued then .cancelled else s.txn.receipt)
      ∧ (s.pw.inFlight = s.txn.inFlight → t.txn.inFlight = false)
      ∧ t.bag.state = .inactive ∧ (s.bag.state ≠ .inactive → t.bag.entries = [] ∧ t.bag.reserved = 0)
      ∧ t.drw1 = s.drw1 ∧ t.drw2 = s.drw2 ∧ t.card = s.card ∧ t.flash = s.flash ∧ t.clock = s.clock
      ∧ t.noSale = s.noSale ∧ t.pending = s.pending
      ∧ (s.txn.receipt ≠ .opened ∧ s.txn.receipt ≠ .queued ∨ s.prn.work = none → mid = []
        ∧ t.chP = s.chP ∧ t.chB = s.chB ∧ t.cal = s.cal ∧ t.store = s.store ∧ t.supply = s.supply
        ∧ (s.txn.inFlight = true → s.pw.state = .waitRearm ∨ s.pw.state = .waitStable →
            t.pw.state = .idle ∧ t.pw.result = .aborted ∧ t.pw.reserved = false)
        ∧ (s.txn.inFlight = true → s.pw.state = .storing →
            t.pw = { s.pw with state := .detached, reserved := false })
        ∧ (s.txn.inFlight = false → t.pw = s.pw)
        ∧ t.prn = (if s.txn.receipt = .opened ∨ s.txn.receipt = .queued then { s.prn with
            queue := s.prn.queue.filter fun q => q.receipt != s.txn.number
            openReceipt := s.prn.openReceipt.filter fun o => o.number != s.txn.number } else s.prn)))

/-! ## Priced weighings (chapter 5) -/

/-- R80 to R82, R38: an accepted PRICE_WEIGH sets its preset tare, reserves a place of the expectation queue with BAG while
verification is enabled, starts the settle limit, and waits for the re-arm or for a stable load. Nothing else changes. -/
def Obligations.PriceWeighBeginsToWait : Prop :=
  ∀ (s : State) (tag : Byte) (unitPrice preset : BitVec 32) (flags : Byte) (tolerance : BitVec 16) (mg : Int), s.ready →
    s.pw.state = .idle → s.txn.state = .opened → s.txn.receipt = .none ∨ s.txn.receipt = .opened →
    s.chP.state = .weighing → 1 ≤ unitPrice.toNat → unitPrice.toNat ≤ 999999 →
    (preset.toInt = 0 ∧ mg = s.chP.tare
      ∨ 0 < preset.toInt ∧ preset.toInt ≤ (s.params .p).max
        ∧ mg = 1000 * (s.params .p).e * roundAway (1000 * preset.toInt) (1000 * (s.params .p).e)
        ∧ mg ≠ 0 ∧ mg ≤ 1000 * (s.params .p).max) →
    s.txn.sales.length < 32 → flags.toNat ≤ 1 →
    (flags.toNat = 1 → s.bag.enabled = true → s.bag.entries.length + s.bag.reserved < 16) →
    s.store.condition ≠ .failed → s.store.condition ≠ .storeFull →
    let reserves := flags.toNat == 1 && s.bag.enabled
    let tol := if reserves then max ((s.params .b).e : Int) tolerance.toInt else 0
    let state := if s.pw.rearm then PwState.waitStable else PwState.waitRearm
    ∃ t, exec (.priceWeigh tag unitPrice preset flags tolerance) s = .next t
      ∧ s.replied t 0x25 tag (.accept ([Byte.of state.code] ++ leI32 (mg / 1000) ++ leI16 tol))
      ∧ t = { s with
          link := t.link
          chP := { s.chP with tare := mg, lastReport := t.chP.lastReport }
          bag := if reserves then { s.bag with reserved := s.bag.reserved + 1 } else s.bag
          txn := { s.txn with inFlight := true }
          pw := { s.pw with
            txn := s.txn.number, unitPrice := unitPrice.toNat, preset := decide (preset.toInt ≠ 0), reserved := reserves
            tolerance := tol, settle := some (s.clock + s.pw.settleS * 1000), latch := none, state := state
            result := .none, reason := .none, lastAlibi := 0
            reference := if s.pw.rearm then s.pw.reference else s.pw.reference + s.chP.tare / 1000 - mg / 1000 } }

/-- R83, R85, R86, R88, R89: what a reading of channel P makes of a waiting weighing. `r` is the report of the reading as the
conversion forms it. The latch fixes net, tare, price and counter, clears the re-arm flag and hands over the SALE record; a
price above 9,999,999 ends the request; a reading that does not re-arm or does not latch leaves the request waiting. R89, R91: a
record handed over while the store is STORE_FULL or FAILED is reported failed at once, and the request ends STORE_FAILED with the
re-arm flag set, its reservation freed and PRICE_RESULT raised (that the record takes no place in the queue then is the MODEL'S
reading, log entry 24). That the record waits where the accesses and the blocks that wait make 4 is the MODEL'S reading too (log
entry 18). -/
def Obligations.ReadingLatchesAWaitingWeighing : Prop :=
  ∀ (s : State) (raw : BitVec 24) (r : Report), r = (s.convert .p raw.toInt).report .p →
    (s.convert .p raw.toInt).chP.samples.length = (s.params .p).n → r.state = .weighing → r.condition = .valid →
    let e := ((s.params .p).e : Int)
    let armed := s.pw.rearm = true ∨ (r.gross.natAbs : Int) ≤ 5 * e ∨ 20 * e ≤ ((r.net - s.pw.reference).natAbs : Int)
    let price := roundAway (r.net * s.pw.unitPrice) 1000
    let sale : SaleFields :=
      { presetTare := s.pw.preset, tarePresent := decide (r.tare ≠ 0), counter := s.cal.counterP, txn := s.pw.txn,
        laneTime := s.txn.laneTime, unitPrice := s.pw.unitPrice, tare := r.tare, net := r.net, price := price }
    ∃ t, exec (.conversionComplete .p raw) s = .next t
      ∧ (s.pw.state = .waitRearm → s.pw.rearm = false → ¬ armed →
          t = { s with link := t.link, chP := t.chP } ∧ s.noticed t)
      ∧ (s.pw.state = .waitRearm → s.pw.rearm = false → armed → ¬ (r.stable = true ∧ 20 * e ≤ r.net) →
          t = { s with link := t.link, chP := t.chP, pw := { s.pw with rearm := true, state := .waitStable } } ∧ s.noticed t)
      ∧ (s.pw.state = .waitStable → ¬ (r.stable = true ∧ 20 * e ≤ r.net) →
          t = { s with link := t.link, chP := t.chP, pw := { s.pw with rearm := t.pw.rearm } } ∧ s.noticed t
          ∧ (t.pw.rearm = true ↔ armed))
      ∧ (s.pw.state = .waitStable ∨ s.pw.state = .waitRearm ∧ s.pw.rearm = false ∧ armed →
          r.stable = true → 20 * e ≤ r.net →
          (9999999 < price → t.pw.state = .idle ∧ t.pw.result = .priceOverflow ∧ t.pw.settle = none ∧ t.pw.reserved = false
            ∧ t.txn = { s.txn with inFlight := false } ∧ t.pw.reference = s.pw.reference
            ∧ t = { s with link := t.link, chP := t.chP, pw := t.pw, txn := t.txn, bag := { s.bag with
                reserved := if s.pw.reserved then 0 else s.bag.reserved } })
          ∧ (price ≤ 9999999 →
            let latched := { s.pw with
              latch := some ⟨r.net, r.tare, price, s.cal.counterP⟩, rearm := false, reference := r.net, settle := none
              state := .storing }
            let free := s.store.queue.length + s.store.waiters.length < 4
            let stopped := s.store.condition = .storeFull ∨ s.store.condition = .failed;
            (¬ free → t = { s with
              link := t.link, chP := t.chP, pw := { latched with waiting := some sale }
              store := { s.store with waiters := s.store.waiters ++ [.sale] } })
            ∧ (free → ¬ stopped → ∀ store, s.receives (.write (.sale sale)) store →
              t = { s with link := t.link, chP := t.chP, pw := latched, store := store })
            ∧ (free → stopped → t = { s with
                link := t.link, chP := t.chP
                pw := { latched with
                  state := .idle, rearm := true, reserved := false, result := .storeFailed, reason := .none, lastAlibi := 0 }
                txn := { s.txn with inFlight := false }
                bag := { s.bag with reserved := if s.pw.reserved then 0 else s.bag.reserved } }
              ∧ s.noticed t ∧ s.raised t .priceResult t.priceBytes)))

/-- R87, R92: a request that waits ends CANCELLED by PRICE_CANCEL, and EXPIRED, with its reason, when the settle timer expires;
its reservation is freed, and no record is written. PRICE_CANCEL is refused TOO_LATE once the load has latched, and WRONG_STATE
with no request. -/
def Obligations.WaitingWeighingIsCancelledOrExpires : Prop :=
  ∀ (s : State) (tag : Byte),
    let ended := fun (result : PwResult) (reason : PwReason) => ({ s.pw with
      state := .idle, settle := none, reserved := false, result := result, reason := reason, lastAlibi := 0 } : Pricing)
    let freed := { s.bag with reserved := if s.pw.reserved then 0 else s.bag.reserved };
    (s.ready → s.pw.state = .waitRearm ∨ s.pw.state = .waitStable →
      ∃ t, exec (.priceCancel tag) s = .next t ∧ s.replied t 0x26 tag (.accept [])
        ∧ t = { s with link := t.link, pw := ended .cancelled .none, bag := freed, txn := { s.txn with inFlight := false } })
    ∧ (s.ready → s.pw.state = .storing →
      exec (.priceCancel tag) s = .next (s.answer 0x26 tag (.refuse .tooLate)).chooseFrame)
    ∧ (s.ready → s.pw.state = .idle ∨ s.pw.state = .detached →
      exec (.priceCancel tag) s = .next (s.answer 0x26 tag (.refuse .wrongState)).chooseFrame)
    ∧ (∀ w, s.pw.settle = some w → ∃ t reason, exec .settleTimerExpiry s = .next t ∧ s.noticed t
        ∧ t = { s with clock := max s.clock w, link := t.link, pw := ended .expired reason, bag := freed,
                       txn := { s.txn with inFlight := false } }
        ∧ (s.pw.state = .waitRearm → reason = .notRearmed)
        ∧ (s.pw.state ≠ .waitRearm → s.chP.latest = none → reason = .motion)
        ∧ (s.pw.state ≠ .waitRearm → s.chP.latest ≠ none →
          ((s.report .p).condition = .saturated → reason = .saturated) ∧ ((s.report .p).condition = .over → reason = .over)
          ∧ ((s.report .p).condition = .under → reason = .under)
          ∧ ((s.report .p).condition = .valid → (s.report .p).stable = false → reason = .motion)
          ∧ ((s.report .p).condition = .valid → (s.report .p).stable = true → (s.report .p).net < 20 * ((s.params .p).e : Int) →
              reason = .belowMin)))

/-! ## The alibi store (chapter 6) -/

/-- R89, R91, R93, R100, R186: the block that began to wait first hands its access over as soon as a place is free, in the order
of waiting. A SALE record handed over while the store is STORE_FULL or FAILED is reported failed at once (that it takes no place in
the queue is the MODEL'S reading, log entry 24): a request in STORING ends STORE_FAILED with the re-arm flag set and its
reservation freed, and a detached one ends ABORTED with the re-arm flag set. That a handover which finds no such place, or whose
block is not the first to wait, changes nothing is the MODEL'S CHOICE (log entry 10, over the rows of log entry 18). -/
def Obligations.WaitersAreHandedOverInOrder : Prop :=
  ∀ (s : State) (ws : List Waiter),
    let left := { s with store := { s.store with waiters := ws } }
    let stopped := s.store.condition = .storeFull ∨ s.store.condition = .failed
    let ended := fun result => { s.pw with
      waiting := none, state := .idle, rearm := true, settle := none, reserved := false, result := result, reason := .none
      lastAlibi := 0 }
    let fails := fun (u : State) => ∃ t, exec .saleRecordHandover s = .next t ∧ t = { u with link := t.link } ∧ s.noticed t
      ∧ s.raised t .priceResult t.priceBytes;
    (∀ r, s.pw.waiting = some r → s.store.waiters = .sale :: ws → s.store.queue.length < 4 →
      (¬ stopped → ∀ store, left.receives (.write (.sale r)) store →
        exec .saleRecordHandover s = .next ({ s with
          pw := { s.pw with waiting := none }, store := store } : State).chooseFrame)
      ∧ (stopped → s.pw.state = .storing → fails { left with
          pw := ended .storeFailed, txn := { s.txn with inFlight := false }
          bag := { s.bag with reserved := if s.pw.reserved then 0 else s.bag.reserved } })
      ∧ (stopped → s.pw.state = .detached → fails { left with pw := ended .aborted }))
    ∧ (∀ n, s.prn.work = some (.reading n) → s.store.waiters = .line :: ws → s.store.queue.length < 4 →
      ∀ store, left.receives (.readPrinter n true) store →
        exec .weighedLineReadHandover s = .next ({ s with store := store } : State).chooseFrame)
    ∧ (4 ≤ s.store.queue.length ∨ s.store.waiters.head? ≠ some .sale →
        exec .saleRecordHandover s = .next s.chooseFrame)
    ∧ (4 ≤ s.store.queue.length ∨ s.store.waiters.head? ≠ some .line →
        exec .weighedLineReadHandover s = .next s.chooseFrame)

/-- R98, R102, R111: ALIBI_READ joins the access queue and owes its reply, or is refused BAD_VALUE or BUSY; an idle flash begins
the read at once. R107: under RECORD_FIRST it cuts an erase pulse that is not a re-application, and is served, the pulse to be
applied again. Where it is the only access and every number it asks for lies below or above all that the sectors in use bear, it
ends at once and is answered with as many ABSENT entries; a pulse that it cut is then applied again. That places owed to blocks that
wait count as taken for BUSY is the MODEL'S reading (log entry 18). -/
def Obligations.AlibiReadJoinsTheQueueAndCutsAPulse : Prop :=
  ∀ (s : State) (tag count : Byte) (first : BitVec 32), s.ready →
    let access := Access.readHost tag first.toNat (min count.toNat (4294967296 - first.toNat));
    (count.toNat = 0 ∨ 8 < count.toNat →
      exec (.alibiRead tag first count) s = .next (s.answer 0x28 tag (.refuse .badValue)).chooseFrame)
    ∧ (1 ≤ count.toNat → count.toNat ≤ 8 → 4 ≤ s.store.queue.length + s.store.waiters.length →
      exec (.alibiRead tag first count) s = .next (s.answer 0x28 tag (.refuse .busy)).chooseFrame)
    ∧ (1 ≤ count.toNat → count.toNat ≤ 8 → s.store.queue.length + s.store.waiters.length < 4 →
      (∀ store, s.receives access store →
        exec (.alibiRead tag first count) s = .next ({ s with
          link := { s.link with reserved := s.link.reserved + 1 }, store := store } : State).chooseFrame)
      ∧ (∀ n store, access.numbers.length = n → s.store.damagedFound ≤ 65535 →
        s.store.queue = [] → s.store.rotation = .none → s.store.copies = [] →
        (∀ m ∈ access.numbers, (∀ x ∈ s.store.table, x.inUse = true → 0 < x.used → x.last < m)
          ∨ ∀ x ∈ s.store.table, x.inUse = true → 0 < x.used → m < x.first.getD 0) →
        (s.store.op = .idle ∧ s.store.erase = none ∧ store = s.store
          ∨ s.store.op = .pulse false ∧ s.store.eraseFirst = false ∧ s.store.erase ≠ none
              ∧ store = { s.store with op := .pulse true, erase := s.store.erase.map fun e => { e with next := .reapply } }) →
        exec (.alibiRead tag first count) s = .next (({ s with store := store } : State).answer 0x28 tag
          (.accept (Byte.of n :: (List.replicate n (3 :: List.replicate 32 0)).flatten))).chooseFrame))

/-- R110: the release point never moves back; the FULL sectors that the applied point covers, not yet released and not yet owed
a mark, oldest first, join the queue as one release access, whose first mark an idle flash begins at once; with the queue full it
is answered BUSY, and in FAILED no access is made. That places owed to blocks that wait count as taken for BUSY is the MODEL'S
reading (log entry 18), and so is the last number 0 of a FULL sector without used slots (log entry 48). -/
def Obligations.AlibiReleaseOwesTheMarks : Prop :=
  ∀ (s : State) (tag : Byte) (upTo : BitVec 32), s.ready →
    let point := max (min upTo.toNat (s.store.next - 1)) s.store.releasePoint;
    ∃ marks : List Nat,
      (∀ i, i ∈ marks ↔ ∃ e, s.store.table[i]? = some e ∧ e.state = .full ∧ e.released = false
        ∧ e.first.getD 0 + e.used - 1 ≤ point ∧ ∀ l, Access.release l ∈ s.store.queue → i ∉ l)
      ∧ marks.Nodup ∧ marks.Pairwise (fun i j => (s.store.entry i).seq ≤ (s.store.entry j).seq)
      ∧ (s.store.condition = .failed ∨ marks = [] →
        exec (.alibiRelease tag upTo) s = .next (({ s with store := { s.store with releasePoint := point } } : State).answer 0x29
          tag (.accept (le32 point))).chooseFrame)
      ∧ (s.store.condition ≠ .failed → marks ≠ [] → 4 ≤ s.store.queue.length + s.store.waiters.length →
        exec (.alibiRelease tag upTo) s = .next (s.answer 0x29 tag (.refuse .busy)).chooseFrame)
      ∧ (s.store.condition ≠ .failed → marks ≠ [] → s.store.queue.length + s.store.waiters.length < 4 → ∀ store,
        ({ s with store := { s.store with releasePoint := point } } : State).receives (.release marks) store →
        exec (.alibiRelease tag upTo) s = .next (({ s with store := store } : State).answer 0x29 tag
          (.accept (le32 point))).chooseFrame)

/-- R90, R91, R56, R98, R101, R104, R105: the end of a record program. The attempt uses its slot and its number whether or not
it verifies. A SALE record that verifies is listed with its number and ends its weighing DONE; a CAL record that verifies is
installed and ends the session; one that fails leaves a cleared slot, and the same record is programmed again unless the store
has entered FAILED. With the last slot used and a sector ERASED, the FULL mark follows, with RELEASED where the release point
covers the sector. A CARRIED copy that verifies is the current CAL record of its channel, and with the last one written the
first pulse begins; where the last number was spent on it the store is FAILED, and that the erase is kept then is the MODEL'S
CHOICE (log entry 64); a copy that fails is attempted again, and with no slot left for it the store is FAILED and the erase not
started. A SALE record written while tare_autoclear is 1 clears the tare (R90, R84).
With the third failure in a row, or the last number, the store is FAILED and the write ends failed: a weighing in STORING ends
STORE_FAILED with the re-arm flag set and its reservation freed (R91), and a commit returns to OPEN, or ends where it is marked
(R57). A detached write ends ABORTED, with nothing listed (R93). That the first number, the used slots and the released flag of
a sector in ERASING stay as they were is the MODEL'S reading (log entry 44). -/
def Obligations.RecordProgramTakesItsSlotAndNumber : Prop :=
  ∀ (s : State) (i : Nat) (x : FlashSector), s.store.active = some i → s.flash[i]? = some x →
    (∀ (body : RecordBody) (rest : List Access), s.store.op = .programHead → s.store.queue = .write body :: rest →
      (∃ t, exec (.recordProgramEnd true) s = .next t
        ∧ t.flash = s.flash.set i { x with slots := x.slots ++ [.record s.store.next body] }
        ∧ t.store.next = s.store.next + 1 ∧ (t.store.entry i).used = (s.store.entry i).used + 1
        ∧ t.store.failures = 0 ∧ t.clock = s.clock ∧ t.card = s.card ∧ t.noSale = s.noSale ∧ t.pending = s.pending
        ∧ (s.store.failed = false → s.store.next < 4294967295 → s.link.starting = false → s.store.rotation = .none →
            (s.store.entry i).used = 127 → (∃ e ∈ s.store.table, e.state = .erased) →
            t.store.rotation = .owesFull i ∧ t.store.op =
              .markFull i (decide ((s.store.entry i).first.getD s.store.next + 127 ≤ s.store.releasePoint)))
        ∧ (∀ r l, body = .sale r → s.pw.state = .storing → s.pw.latch = some l →
            t.txn.sales = s.txn.sales ++
              [{ number := s.store.next, net := l.net, price := l.price, queued := false, printed := false }]
            ∧ t.txn.inFlight = false ∧ t.pw.state = .idle ∧ t.pw.result = .done ∧ t.pw.lastAlibi = s.store.next
            ∧ (s.pw.reserved = true → 0 < s.bag.reserved → ∃ e, t.bag.entries = s.bag.entries ++ [e] ∧ e.ref = s.store.next
                ∧ e.dir = .add ∧ e.origin = .sale ∧ e.expected = l.net ∧ e.tolerance = s.pw.tolerance ∧ e.skippable = false
                ∧ e.deadline = some (s.clock + s.bag.placementS * 1000) ∧ t.bag.reserved = 0)
            ∧ ((∀ b, Access.write b ∉ rest) → t.pw.rearm = s.pw.rearm
                ∧ (s.pw.tareAutoclear = false → t.chP.tare = s.chP.tare ∧ t.pw.reference = s.pw.reference)
                ∧ (s.pw.tareAutoclear = true → t.chP.tare = 0
                  ∧ t.pw.reference = s.pw.reference + (if s.pw.rearm = true then 0 else s.chP.tare / 1000))))
        ∧ (∀ r, body = .sale r → s.pw.state = .detached → (∀ b, Access.write b ∉ rest) →
            t.pw = { s.pw with
              state := .idle, settle := none, reserved := false, result := .aborted, reason := .none, lastAlibi := s.store.next }
            ∧ t.txn = s.txn ∧ t.bag = s.bag ∧ t.chP = s.chP)
        ∧ (∀ k y, body = .cal k → s.cal.session = some y →
            t.cal.session = none ∧ t.cal.lastRecord = s.store.next
            ∧ (match k.channel with
                | .p => t.cal.inForceP = some k.cal ∧ t.cal.counterP = k.counter ∧ t.cal.inForceB = s.cal.inForceB
                | .b => t.cal.inForceB = some k.cal ∧ t.cal.counterB = k.counter ∧ t.cal.inForceP = s.cal.inForceP)
            ∧ (t.ch k.channel).zo = 0 ∧ (t.ch k.channel).zoInit = 0
            ∧ ((s.ch k.channel).state ≠ .fault → (t.ch k.channel).state = .noZero)
            ∧ t.store.current k.channel = some { number := s.store.next, fields := k }))
      ∧ (∃ t, exec (.recordProgramEnd false) s = .next t
        ∧ t.flash = s.flash.set i { x with slots := x.slots ++ [.cleared] }
        ∧ t.store.next = s.store.next + 1 ∧ (t.store.entry i).used = (s.store.entry i).used + 1
        ∧ t.store.failures = s.store.failures + 1 ∧ t.txn.sales = s.txn.sales ∧ t.cal.inForceP = s.cal.inForceP
        ∧ t.cal.inForceB = s.cal.inForceB
        ∧ (s.store.failed = false → s.store.failures < 2 → s.store.next < 4294967295 → s.store.copies = [] → s.store.rotation = .none →
            s.link.starting = false → 2 < 128 - ((s.store.entry i).used + 1) →
            t.store.op = .programHead ∧ t.store.queue = s.store.queue ∧ t.store.failed = false
            ∧ t.pw = s.pw ∧ t.cal = s.cal ∧ t.txn = s.txn)
        ∧ (2 ≤ s.store.failures ∨ s.store.next = 4294967295 → s.link.starting = false → (∀ b, Access.write b ∉ rest) →
            let ends := fun result => { s.pw with
              state := .idle, settle := none, reserved := false, result := result, reason := .none, lastAlibi := 0, rearm := true }
            t.store.failed = true ∧ t.store.condition = .failed ∧ (∀ b, Access.write b ∉ t.store.queue)
            ∧ (∀ r, body = .sale r → s.pw.state = .storing → t.pw = ends .storeFailed ∧ t.txn = { s.txn with inFlight := false }
                ∧ t.bag = { s.bag with reserved := if s.pw.reserved = true then 0 else s.bag.reserved } ∧ t.chP = s.chP)
            ∧ (∀ r, body = .sale r → s.pw.state = .detached → t.pw = ends .aborted ∧ t.txn = s.txn ∧ t.bag = s.bag
                ∧ t.chP = s.chP)
            ∧ (∀ k y, body = .cal k → s.cal.session = some y → t.txn = s.txn ∧ t.bag = s.bag
                ∧ (y.endMark = false → t.cal = { s.cal with session := some { y with committing := false } } ∧ t.chP = s.chP
                    ∧ t.chB = s.chB)
                ∧ (y.endMark = true → t.cal = { s.cal with session := none }
                    ∧ (if (s.ch y.channel).state = .fault then
                        (t.ch y.channel).state = .fault ∧ (t.ch y.channel).resume = y.home
                      else (t.ch y.channel).state = y.home))))))
    ∧ (∀ (c : Ch) (k : CurrentCal) (more : List Ch) (e : Erase), s.store.op = .programCopy c → s.store.current c = some k →
      s.store.copies = c :: more → s.store.erase = some e → e.sector ≠ i → s.store.rotation = .none →
      let copy : CalFields := { k.fields with carried := true }
      let working := s.store.failed = false ∧ s.link.starting = false ∧ s.store.next < 4294967295;
      (∃ t, exec (.recordProgramEnd true) s = .next t
        ∧ t.flash = s.flash.set i { x with slots := x.slots ++ [.record s.store.next (.cal copy)] }
        ∧ t.store.next = s.store.next + 1 ∧ (t.store.entry i).used = (s.store.entry i).used + 1 ∧ t.store.failures = 0
        ∧ t.store.current copy.channel = some { number := s.store.next, fields := copy } ∧ t.clock = s.clock ∧ t.card = s.card
        ∧ (working → more = [] → s.store.queue = [] → (s.store.entry i).used < 127 → e.next = .pulse →
            e.sector < s.store.table.length →
            t.store.op = .pulse false ∧ t.store.erase = some e
            ∧ t.store.entry e.sector = { s.store.entry e.sector with state := .erasing, seq := 0, pending := false })
        ∧ (more = [] → s.store.next = 4294967295 → t.store.failed = true ∧ t.store.erase = some e))
      ∧ (∃ t, exec (.recordProgramEnd false) s = .next t
        ∧ t.flash = s.flash.set i { x with slots := x.slots ++ [.cleared] } ∧ t.store.next = s.store.next + 1
        ∧ t.store.failures = s.store.failures + 1 ∧ t.store.current c = some k
        ∧ (working → s.store.failures < 2 → s.store.holdsCurrent e.sector c → (s.store.entry i).used < 127 →
            t.store.op = .programCopy c ∧ t.store.copies = c :: more ∧ t.store.failed = false)
        ∧ (working → s.store.failures < 2 → s.store.holdsCurrent e.sector c → (s.store.entry i).used = 127 →
            (∀ y ∈ s.store.table, y.state ≠ .erased) →
            t.store.failed = true ∧ t.store.erase = none ∧ (t.store.entry e.sector).pending = false)))

/-- R100, R103, R104, R105, R110: what each header mark leaves when it verifies (an erase of the sector left FULL may begin at
once), and that after a FULL mark the first ERASED sector behind it receives the IN_USE mark. A release access whose last mark has
verified leaves the queue, also where a CARRIED copy is then owed and is programmed first; one with a mark left goes on with it,
where the spare check decides nothing. A mark that fails is applied again at once until the third failure in a row, at which the
store enters FAILED, the mark's change is not made, and what is owed is dropped (the array as it was, the MODEL'S CHOICE of log
entry 21). That the used slots and the released flag of a sector stay as they were where its erase has begun at once is the MODEL'S
reading (log entry 44). -/
def Obligations.HeaderMarksTakeEffectWhenVerified : Prop :=
  ∀ (s : State) (i : Nat) (x : FlashSector), s.flash[i]? = some x →
    (∀ released inUse full rel, s.store.op = .markFull i released → x.header = .marked inUse full rel →
      ∃ t, exec (.headerMarkEnd true) s = .next t
        ∧ t.flash = s.flash.set i { x with header := .marked inUse true (rel || released) }
        ∧ t.store.failures = 0 ∧ (∀ j, (t.store.entry j).used = (s.store.entry j).used) ∧ t.clock = s.clock ∧ t.card = s.card
        ∧ (∀ j, s.link.starting = false → s.store.firstErasedAfter i j →
            t.store.table = s.store.table ∧ t.store.rotation = .owesInUse i released
            ∧ t.store.op = .markInUse j (s.store.lastSeq + 1)))
    ∧ (∀ seq from_ released, s.store.op = .markInUse i seq → s.store.rotation = .owesInUse from_ released → i ≠ from_ →
      i < s.store.table.length → from_ < s.store.table.length → (∀ e, s.store.erase = some e → e.sector ≠ i) →
      ∃ t, exec (.headerMarkEnd true) s = .next t
        ∧ t.flash = s.flash.set i { x with header := .marked (some seq) false false }
        ∧ (t.store.entry i).state = .active ∧ (t.store.entry i).seq = seq ∧ (t.store.entry i).used = 0
        ∧ ((t.store.entry from_).state = .full ∨ (t.store.entry from_).state = .erasing)
        ∧ (t.store.entry from_).released = released
        ∧ t.store.rotation = .none ∧ t.store.lastSeq = seq ∧ t.clock = s.clock ∧ t.card = s.card)
    ∧ (∀ inUse full rel, s.store.op = .markReleased i → x.header = .marked inUse full rel → i < s.store.table.length →
      ∃ t, exec (.headerMarkEnd true) s = .next t
        ∧ t.flash = s.flash.set i { x with header := .marked inUse full true }
        ∧ (t.store.entry i).released = true ∧ t.store.failures = 0 ∧ t.clock = s.clock ∧ t.card = s.card
        ∧ (∀ l rest, s.store.queue = .release l :: rest →
          let left := fun j => j ∈ l ∧ j ≠ i ∧ (s.store.entry j).state = .full ∧ (s.store.entry j).released = false
          let working := s.link.starting = false ∧ s.store.rotation = .none;
          ((∀ j, ¬ left j) → rest = [] → t.store.queue = [])
          ∧ (∀ o, (∀ j, ¬ left j) → working → ¬ s.store.spared → s.store.oldestFullIs o →
              o = i ∨ s.store.holdUnexported = false ∨ (s.store.entry o).released = true → (∃ c, s.store.holdsCurrent o c) →
              (∃ a, s.store.active = some a ∧ (s.store.entry a).used < 128) →
              t.store.queue = rest ∧ t.store.erase = some ⟨o, 0, .pulse⟩ ∧ (t.store.entry o).pending = true
              ∧ ∃ c, s.store.holdsCurrent o c ∧ t.store.copies.head? = some c ∧ t.store.op = .programCopy c)
          ∧ (∀ before j after, l = before ++ j :: after → left j → (∀ k ∈ before, ¬ left k) → working → s.store.copies = [] →
              s.store.spared → s.store.failed = false →
              t.store.op = .markReleased j ∧ ∃ more, t.store.queue = .release (j :: more) :: rest)))
    ∧ (s.store.op = .markReleased i ∨ (∃ released, s.store.op = .markFull i released) ∨ (∃ seq, s.store.op = .markInUse i seq) →
      s.store.failed = false →
      (s.store.failures < 2 → exec (.headerMarkEnd false) s = .next ({ s with store := { s.store with
        failures := s.store.failures + 1 } } : State).chooseFrame)
      ∧ (2 ≤ s.store.failures → ∃ t, exec (.headerMarkEnd false) s = .next t ∧ t.store.failed = true
          ∧ t.store.condition = .failed ∧ t.flash = s.flash ∧ t.store.rotation = .none ∧ t.store.copies = []
          ∧ ((∀ e, s.store.erase = some e → e.sector ≠ i) → t.store.entry i = s.store.entry i)))

/-- R96, R102, R111: the end of a read access for the host gives one entry for each number, in order: the record of a slot that
reads clean or corrected and bears the number of its position, DAMAGED for any other used slot and for a number between two
sectors in use that no sector bears, ABSENT for a number below or above every one that a sector in use bears. The entries of a
longer list are those of its numbers one after another, and each slot that is read takes the next word on how it reads. The
flash array, the first numbers of the sectors and the next number do not change. -/
def Obligations.ReadAccessReportsEachNumber : Prop :=
  ∀ (s : State) (tag : Byte) (first count : Nat) (rest : List Access) (slots : List Health),
    s.store.op = .read → s.store.queue = .readHost tag first count :: rest →
    (∃ t mid entries, exec (.recordReadEnd slots) s = .next t
      ∧ t.link.replies = s.link.replies ++
          replyFrame 0x28 tag (.accept (Byte.of count :: (entries.map readEntryBytes).flatten)) :: mid
      ∧ entries = readNumbers s.store s.flash ((List.range count).map (first + ·)) slots
      ∧ entries.length = count ∧ t.flash = s.flash ∧ t.store.table.map (·.first) = s.store.table.map (·.first)
      ∧ t.store.next = s.store.next ∧ t.clock = s.clock ∧ t.txn.sales = s.txn.sales ∧ t.card = s.card)
    ∧ (∀ n ns hs, readNumbers s.store s.flash (n :: ns) hs = readNumbers s.store s.flash [n] hs
        ++ readNumbers s.store s.flash ns (if ∃ e ∈ s.store.table, e.bears n = true then hs.tail else hs))
    ∧ (∀ n h hs, (∀ e ∈ s.store.table, e.bears n = false) → (∀ e ∈ s.store.table, e.inUse = true → 0 < e.used → n < e.first.getD 0) →
        readNumbers s.store s.flash [n] (h :: hs) = [⟨.absent, none⟩])
    ∧ (∀ n h hs, (∀ e ∈ s.store.table, e.bears n = false) →
        (∀ e ∈ s.store.table, e.inUse = true → 0 < e.used → e.first.getD 0 + e.used - 1 < n) →
        readNumbers s.store s.flash [n] (h :: hs) = [⟨.absent, none⟩])
    ∧ (∀ n h hs e e', (∀ y ∈ s.store.table, y.bears n = false) → e ∈ s.store.table → e' ∈ s.store.table → e.inUse = true →
        e'.inUse = true → 0 < e.used → 0 < e'.used → e.first.getD 0 + e.used - 1 < n → n < e'.first.getD 0 →
        readNumbers s.store s.flash [n] (h :: hs) = [⟨.damaged, none⟩])
    ∧ (∀ i e f x u n h hs, s.store.table.findIdx? (fun y => y.bears n) = some i → s.store.table[i]? = some e → e.first = some f →
        s.flash[i]? = some x → x.slots[n - f]? = some u →
        readNumbers s.store s.flash [n] (h :: hs) = [match u, h with
          | .record m r, .clean => if m = n then ⟨.ok, some (n, r)⟩ else ⟨.damaged, none⟩
          | .record m r, .corrected => if m = n then ⟨.corrected, some (n, r)⟩ else ⟨.damaged, none⟩
          | _, _ => ⟨.damaged, none⟩])

/-- R106, R109: an erase pulse that completes is counted and blanks the sector (in the array, the MODEL'S CHOICE of log entry
20), and its verify follows; a verify that passes leaves the sector ERASED; one that fails before the sixth pulse leads to the
next pulse, and one that fails after it retires the sector, with fewer than three sectors left the store FAILED. A sector that is
not in use has sequence number 0 (R97). -/
def Obligations.EraseGoesByPulseAndVerify : Prop :=
  ∀ (s : State) (e : Erase), s.store.erase = some e → e.sector < s.flash.length → e.sector < s.store.table.length →
    (∀ re, s.store.op = .pulse re → s.store.queue = [] → s.store.rotation = .none → s.store.copies = [] → s.link.starting = false →
      ∃ t, exec .erasePulseEnd s = .next t
        ∧ t.flash = s.flash.set e.sector { header := .blank, slots := [] }
        ∧ t.store.erase = some { e with pulses := e.pulses + 1, next := .verify } ∧ t.store.op = .verify
        ∧ t.store.table = s.store.table ∧ t.clock = s.clock ∧ t.txn = s.txn ∧ t.card = s.card)
    ∧ (s.store.op = .verify → ∃ t, exec (.blankVerifyEnd true) s = .next t
        ∧ (t.store.entry e.sector) = { state := .erased, seq := 0, first := none, used := 0, released := false, pending := false }
        ∧ t.flash = s.flash ∧ t.clock = s.clock ∧ t.card = s.card)
    ∧ (s.store.op = .verify → e.pulses < 6 → s.store.queue = [] → s.store.rotation = .none → s.store.copies = [] →
        s.link.starting = false → ∃ t, exec (.blankVerifyEnd false) s = .next t
        ∧ t.store.op = .pulse false ∧ t.store.erase = some { e with next := .pulse }
        ∧ (t.store.entry e.sector).state = .erasing ∧ (t.store.entry e.sector).seq = 0 ∧ t.store.retired = s.store.retired)
    ∧ (s.store.op = .verify → 6 ≤ e.pulses → ∃ t, exec (.blankVerifyEnd false) s = .next t
        ∧ (t.store.entry e.sector).state = .retired ∧ (t.store.entry e.sector).seq = 0 ∧ t.store.retired = s.store.retired + 1
        ∧ ((s.store.entry e.sector).state ≠ .retired → s.store.table.countP (fun y => y.state != .retired) ≤ 3 →
            t.store.failed = true ∧ t.store.condition = .failed)
        ∧ t.clock = s.clock ∧ t.card = s.card)

/-! ## Bagging verification (chapter 7) -/

/-- R119, R120, R122, R123: an accepted EXPECT_ADD joins the end of the queue with its tolerance clamped up to e of channel B;
EXPECT_REMOVE withdraws the oldest ADD entry that bears the ref, by which the hold of a held entry clears (R135), or queues a
REMOVE entry, its weight taken from the newest bagged item where the request gives 0. That an exception which clears leaves
delta 0 and no ref (Bag.watches) is the MODEL'S choice (log entry 60). -/
def Obligations.ExpectationsJoinAndAreWithdrawn : Prop :=
  ∀ (s : State) (tag flags : Byte) (ref weight : BitVec 32) (tolerance : BitVec 16), s.ready → s.bag.state ≠ .inactive →
    let tol := max ((s.params .b).e : Int) tolerance.toInt
    let room := s.bag.entries.length + s.bag.reserved < 16;
    (s.txn.state = .opened → 1 ≤ weight.toInt → weight.toInt ≤ (s.params .b).max → flags.toNat ≤ 1 →
      (room → ∃ t, exec (.expectAdd tag ref weight tolerance flags) s = .next t ∧ s.replied t 0x2C tag (.accept (leI16 tol))
        ∧ t = { s with link := t.link, bag := { s.bag with entries := s.bag.entries ++ [{
            dir := .add, ref := ref.toNat, origin := .host, expected := weight.toInt, tolerance := tol
            skippable := flags.toNat == 1, deadline := some (s.clock + s.bag.placementS * 1000), overdue := false
            held := false }] } })
      ∧ (¬ room → exec (.expectAdd tag ref weight tolerance flags) s = .next (s.answer 0x2C tag (.refuse .full)).chooseFrame))
    ∧ (s.txn.state = .opened ∨ s.txn.state = .tender → 0 ≤ weight.toInt → weight.toInt ≤ (s.params .b).max →
      (∀ before e after, s.bag.entries = before ++ e :: after → e.dir = .add → e.ref = ref.toNat → e.held = false →
        (∀ y ∈ before, ¬ (y.dir = .add ∧ y.ref = ref.toNat)) →
        ∃ t, exec (.expectRemove tag ref weight tolerance) s = .next t
          ∧ s.replied t 0x2D tag (.accept ([0] ++ leI32 e.expected ++ leI16 e.tolerance))
          ∧ t = { s with link := t.link, bag := { s.bag with entries := before ++ after } })
      ∧ (∀ before e after, s.bag.entries = before ++ e :: after → e.dir = .add → e.ref = ref.toNat → e.held = true →
        (∀ y ∈ before, ¬ (y.dir = .add ∧ y.ref = ref.toNat)) →
        ∃ t, exec (.expectRemove tag ref weight tolerance) s = .next t
          ∧ s.replied t 0x2D tag (.accept ([0] ++ leI32 e.expected ++ leI16 e.tolerance))
          ∧ t = { s with link := t.link, bag := t.bag, attn := t.attn }
          ∧ ({ s.bag with entries := before ++ after } : Bag).clears t.bag s.attn t.attn s.clock)
      ∧ ((∀ y ∈ s.bag.entries, ¬ (y.dir = .add ∧ y.ref = ref.toNat)) →
        (weight.toInt = 0 → (∀ y ∈ s.bag.bagged, y.ref ≠ ref.toNat) →
          exec (.expectRemove tag ref weight tolerance) s = .next (s.answer 0x2D tag (.refuse .notFound)).chooseFrame)
        ∧ (∀ expected, (weight.toInt ≠ 0 ∧ expected = weight.toInt
              ∨ weight.toInt = 0 ∧ ∃ before y after, s.bag.bagged = before ++ y :: after ∧ y.ref = ref.toNat
                ∧ expected = y.expected ∧ ∀ z ∈ before, z.ref ≠ ref.toNat) → room →
          ∃ t, exec (.expectRemove tag ref weight tolerance) s = .next t
            ∧ s.replied t 0x2D tag (.accept ([1] ++ leI32 expected ++ leI16 tol))
            ∧ t = { s with link := t.link, bag := { s.bag with entries := s.bag.entries ++ [{
                dir := .remove, ref := ref.toNat, origin := .host, expected := expected, tolerance := tol, skippable := false
                deadline := none, overdue := false, held := false }] } })))

/-- R135 to R137: BAG_CLEAR takes the present gross weight as the baseline and ends the hold, a held entry leaving and being
counted; BAG_SKIP removes the oldest ADD entry that bears the ref, or else the oldest REMOVE entry, and counts it, and the hold of a
held entry clears. An overdue entry that is left is held in its turn; with none left, no new hold follows. That an exception
which clears leaves delta 0 and no ref (Bag.watches) is the MODEL'S choice (log entry 60). -/
def Obligations.ClearAndSkipEndTheException : Prop :=
  ∀ (s : State) (tag : Byte), s.ready →
    (s.bag.state = .hold → s.bag.kind ≠ .bagOverload → s.bag.kind ≠ .scaleFault → s.chB.isStable = true →
      (s.report .b).condition = .valid → (∀ e ∈ s.bag.entries, e.overdue = true → e.held = true) →
      (s.bag.kind ≠ .notPlaced → ∀ e ∈ s.bag.entries, e.overdue = false) →
      ∃ t, exec (.bagClear tag) s = .next t ∧ s.replied t 0x2E tag (.accept (leI32 (s.report .b).gross))
        ∧ t.bag.state = .watching ∧ t.bag.kind = .none ∧ t.bag.baseline = (s.report .b).gross
        ∧ (∀ e ∈ t.bag.entries, e.held = false) ∧ t.bag.bagged = s.bag.bagged
        ∧ (if s.bag.kind = .notPlaced then t.bag.entries.length = s.bag.entries.countP (fun e => !e.held)
              ∧ t.txn.bagSkip = min 65535 (s.txn.bagSkip + 1)
            else t.bag.entries.length = s.bag.entries.length ∧ t.txn = s.txn)
        ∧ t.attn = { s.attn with bagHold := { s.attn.bagHold with active := false, muted := false } }
        ∧ t = { s with link := t.link, bag := t.bag, attn := t.attn, txn := { s.txn with bagSkip := t.txn.bagSkip } })
    ∧ (s.bag.state = .hold → s.bag.kind ≠ .bagOverload → s.bag.kind ≠ .scaleFault → s.chB.isStable = true →
      (s.report .b).condition = .valid →
      ∃ t, exec (.bagClear tag) s = .next t ∧ s.replied t 0x2E tag (.accept (leI32 (s.report .b).gross))
        ∧ t = { s with link := t.link, bag := t.bag, attn := t.attn, txn := { s.txn with
            bagSkip := if s.bag.kind = .notPlaced then min 65535 (s.txn.bagSkip + 1) else s.txn.bagSkip } }
        ∧ ({ s.bag with
              baseline := (s.report .b).gross
              entries := if s.bag.kind = .notPlaced then s.bag.entries.filter (fun e => !e.held) else s.bag.entries } : Bag).clears
            t.bag s.attn t.attn s.clock)
    ∧ (s.bag.state = .hold → s.bag.kind = .bagOverload ∨ s.bag.kind = .scaleFault →
      exec (.bagClear tag) s = .next (s.answer 0x2E tag (.refuse .notAllowed)).chooseFrame)
    ∧ (∀ (ref : BitVec 32) before e after, s.txn.state = .opened ∨ s.txn.state = .tender → s.bag.state ≠ .inactive →
      s.bag.entries = before ++ e :: after → e.ref = ref.toNat → e.held = false →
      (e.dir = .add ∧ (∀ y ∈ before, ¬ (y.dir = .add ∧ y.ref = ref.toNat))
        ∨ e.dir = .remove ∧ (∀ y ∈ s.bag.entries, ¬ (y.dir = .add ∧ y.ref = ref.toNat)) ∧ ∀ y ∈ before, y.ref ≠ ref.toNat) →
      ∃ t, exec (.bagSkip tag ref) s = .next t
        ∧ s.replied t 0x2F tag (.accept [if e.dir = .add then 0 else 1])
        ∧ t = { s with link := t.link, bag := { s.bag with entries := before ++ after }
                       txn := { s.txn with bagSkip := min 65535 (s.txn.bagSkip + 1) } })
    ∧ (∀ (ref : BitVec 32) before e after, s.txn.state = .opened ∨ s.txn.state = .tender → s.bag.state ≠ .inactive →
      s.bag.entries = before ++ e :: after → e.ref = ref.toNat → e.held = true → e.dir = .add →
      (∀ y ∈ before, ¬ (y.dir = .add ∧ y.ref = ref.toNat)) →
      ∃ t, exec (.bagSkip tag ref) s = .next t ∧ s.replied t 0x2F tag (.accept [0])
        ∧ t = { s with link := t.link, bag := t.bag, attn := t.attn
                       txn := { s.txn with bagSkip := min 65535 (s.txn.bagSkip + 1) } }
        ∧ ({ s.bag with entries := before ++ after } : Bag).clears t.bag s.attn t.attn s.clock)

/-- R125, R132: when a deadline expires, a skippable entry leaves and is counted; any other is marked overdue without a
deadline, and a verifier that watches holds it as NOT_PLACED, with the attention source asserted. That an expiry finds nothing to
do while the verifier is INACTIVE is the MODEL'S CHOICE (log entry 10). -/
def Obligations.DeadlineDropsOrHoldsItsEntry : Prop :=
  ∀ (s : State) (before : List Expect) (e : Expect) (after : List Expect) (w : Nat),
    s.bag.entries = before ++ e :: after → e.dir = .add → e.deadline = some w →
    (e.skippable = true → s.bag.state ≠ .inactive → ∃ t, exec (.deadlineExpiry before.length) s = .next t ∧ s.noticed t
      ∧ t = { s with clock := max s.clock w, link := t.link, bag := { s.bag with entries := before ++ after }
                     txn := { s.txn with bagSkip := min 65535 (s.txn.bagSkip + 1) } })
    ∧ (e.skippable = false → s.bag.state = .hold → ∃ t, exec (.deadlineExpiry before.length) s = .next t ∧ s.noticed t
      ∧ t = { s with clock := max s.clock w, link := t.link
                     bag := { s.bag with entries := before ++ { e with deadline := none, overdue := true } :: after } })
    ∧ (e.skippable = false → s.bag.state = .watching → ∃ t, exec (.deadlineExpiry before.length) s = .next t ∧ s.noticed t
      ∧ t.bag.state = .hold ∧ t.bag.kind = .notPlaced ∧ t.bag.ref = some e.ref ∧ t.bag.delta = 0
      ∧ t.bag.entries[before.length]? = some { e with deadline := none, overdue := true, held := true }
      ∧ (∀ (j : Nat) (y : Expect), j ≠ before.length → t.bag.entries[j]? = some y → y.held = false)
      ∧ t.bag.baseline = s.bag.baseline ∧ t.bag.bagged = s.bag.bagged
      ∧ t = { s with clock := max s.clock w, link := t.link, bag := t.bag, attn := { s.attn with
          bagHold := { active := true, muted := false, start := max s.clock w } } })
    ∧ (s.bag.state = .inactive → exec (.deadlineExpiry before.length) s = .next s.chooseFrame)

/-- R129 to R131, R133 to R135: what a reading of channel B makes of the verifier. `r` is the report of the reading as the
conversion forms it. WATCHING: a load within the noise band is no settle; an increase is matched with the oldest ADD entry whose
window holds it, or else with the first pair of the four oldest while pair matching is on, and is held as UNEXPECTED_ADD without
a match; a decrease is matched with the oldest REMOVE entry, or held as UNEXPECTED_REMOVE; an overload is held whatever else it
is. HOLD: an overload ends with the first reading that is not over, which a verifier then watching examines; an unexpected
change ends when the load is back within the band; a NOT_PLACED hold goes on matching increases and ends with the match of its
entry; a scale condition takes the place of any other exception, and a fault of the scale ends with its return to WEIGHING. That
a scale condition which takes the place of a held exception leaves the attention sources as they are is the MODEL'S reading of
R132, R133 and R199 (log entry 38), and that an exception which clears leaves delta 0 and no ref (Bag.watches) is its choice (log
entry 60). -/
def Obligations.SettleIsMatchedOrHeld : Prop :=
  ∀ (s : State) (raw : BitVec 24) (r : Report), r = (s.convert .b raw.toInt).report .b →
    let d := r.gross - s.bag.baseline
    let band := s.bag.band * ((s.params .b).e : Int)
    let settles := r.condition = .valid ∧ r.stable = true ∧ band < (d.natAbs : Int)
    let becomes := fun (P : Bag → Attention → Prop) => ∃ t, exec (.conversionComplete .b raw) s = .next t ∧ s.noticed t
      ∧ t = { s with link := t.link, chB := t.chB, bag := t.bag, attn := t.attn } ∧ P t.bag t.attn
    let stays := becomes fun b a => b = s.bag ∧ a = s.attn
    let hold := fun kind delta ref => becomes fun b a => b = s.bag.holds kind delta ref ∧ a = s.attn.bagHoldAt s.clock
    let overload := becomes fun b a => b = s.bag.holds .bagOverload 0 none ∧ a = s.attn
    let clears := fun (bag : Bag) (attn : Attention) => becomes fun b a => bag.clears b attn a s.clock;
    (s.chB.state ≠ .fault → (s.convert .b raw.toInt).chB.samples.length = (s.params .b).n →
      (s.bag.state = .watching →
        (r.condition = .over → hold .bagOverload 0 none)
        ∧ (r.condition ≠ .over → ¬ settles → stays)
        ∧ (∀ got rest, settles → 0 < d → s.bag.matched d got rest →
            becomes fun b a => b = s.bag.accepts got rest r.gross ∧ a = s.chirped)
        ∧ (settles → 0 < d → s.bag.unmatched d → hold .unexpectedAdd d none)
        ∧ (∀ before e after, settles → d < 0 → s.bag.entries = before ++ e :: after → e.fits .remove (-d) →
            (∀ y ∈ before, ¬ y.fits .remove (-d)) →
            becomes fun b a => b = { s.bag with
                entries := before ++ after, bagged := s.bag.bagged.eraseP (fun y => y.ref == e.ref), baseline := r.gross }
              ∧ a = s.chirped)
        ∧ (settles → d < 0 → (∀ y ∈ s.bag.entries, ¬ y.fits .remove (-d)) →
            hold .unexpectedRemove d ((s.bag.bagged.find? fun y =>
              decide (y.expected - y.tolerance ≤ -d ∧ -d ≤ y.expected + y.tolerance)).map (·.ref))))
      ∧ (s.bag.state = .hold →
        (s.bag.kind = .bagOverload → r.condition = .over → stays)
        ∧ (s.bag.kind = .bagOverload → r.condition ≠ .over → (∃ e ∈ s.bag.entries, e.waits) → clears s.bag s.attn)
        ∧ (s.bag.kind = .bagOverload → r.condition ≠ .over → (∀ e ∈ s.bag.entries, ¬ e.waits) →
            ∃ u, exec (.conversionComplete .b raw) { s with bag := s.bag.watches, attn := s.attn.bagHoldOff } = .next u
              ∧ becomes fun b a => b = u.bag ∧ a = u.attn)
        ∧ (s.bag.kind = .unexpectedAdd ∨ s.bag.kind = .unexpectedRemove →
            let back := r.condition = .valid ∧ r.stable = true ∧ (d.natAbs : Int) ≤ band
            (r.condition = .over → overload) ∧ (back → clears s.bag s.attn) ∧ (r.condition ≠ .over → ¬ back → stays))
        ∧ (s.bag.kind = .notPlaced →
            (r.condition = .over → overload)
            ∧ (r.condition ≠ .over → ¬ (settles ∧ 0 < d ∧ ¬ s.bag.unmatched d) → stays)
            ∧ (∀ got rest, settles → 0 < d → s.bag.matched d got rest →
                ((∃ e ∈ got, e.held = true) → clears (s.bag.accepts got rest r.gross) s.chirped)
                ∧ ((∀ e ∈ got, e.held = false) → becomes fun b a => b = s.bag.accepts got rest r.gross ∧ a = s.chirped)))))
    ∧ (s.chB.state = .fault → 1 < (s.params .b).n →
      (s.bag.state = .hold → s.bag.kind = .scaleFault → s.chB.resume = .weighing → clears s.bag s.attn)
      ∧ (s.bag.state ≠ .hold ∨ s.bag.kind ≠ .scaleFault ∨ s.chB.resume ≠ .weighing → stays))
    ∧ (∀ w, s.chB.watchdog = some w → s.bag.state = .hold → s.bag.kind ≠ .scaleFault →
      ∃ t, exec (.conversionWatchdogExpiry .b) s = .next t ∧ t.bag = s.bag.holds .scaleFault 0 none ∧ t.attn = s.attn)

/-! ## The card reader (chapter 8) -/

/-- R140 to R144, R147, R148: the slot moves by the table of R142. A pass that begins opens a fresh stream for each armed track
while the decoder is idle; a card withdrawn hands its streams to the decoder; a card seated starts the card-left timer; an
impossible change is a READER_FAULT that discards what was captured, and that stays through every change until both switches are
open, when the slot is EMPTY; the opening of the front switch releases CARD_LEFT. A flux transition adds its interval to the
stream that captures, and 65,535 µs without one add a GAP. The MODEL'S own are: a switch at the level it has changes nothing
(log entry 10), CARD_STATE is raised at every change of the seat (log entry 31), an interval of more than 65,535 µs is stored
as 65,535 (log entry 34), and a lone transition between two such lapses leaves two GAP markers in a row (log entry 62). -/
def Obligations.CardSlotMovesAndCaptures : Prop :=
  ∀ s : State,
    let opened := fun (switch : CardSwitch) (closed : Bool) => switch == .front && !closed
    let moves := fun (switch : CardSwitch) (closed : Bool) (c : Card) (ev : CardEvent) =>
      exec (.cardSwitchChange switch closed) s = .next (({ s with
        card := { c with
          frontClosed := if switch = .front then closed else s.card.frontClosed
          rearClosed := if switch = .rear then closed else s.card.rearClosed
          cardLeft := s.card.cardLeft && !opened switch closed }
        attn := if s.card.cardLeft && opened switch closed then
          { s.attn with cardLeft := { s.attn.cardLeft with active := false, muted := false } } else s.attn }
            : State).raiseCard ev).chooseFrame
    let fresh := fun (armed : Bool) =>
      if armed && s.card.decoder.isNone then some ({ entries := [], overflow := false, phase := .waitFirst } : Stream) else none
    let none4 : Streams := ⟨none, none, none, none⟩
    let left := some (s.clock + s.card.leftS * 1000)
    let front := s.card.frontClosed
    let rear := s.card.rearClosed;
    (∀ switch, exec (.cardSwitchChange switch (s.card.level switch)) s = .next s.chooseFrame)
    ∧ (s.card.seat = .empty → front = false → moves .front true { s.card with
        seat := .entering, pass := some .insertion
        streams := { s.card.streams with insertA := fresh s.card.armedA, insertB := fresh s.card.armedB } } .none)
    ∧ (s.card.seat = .entering → front = true → moves .front false { s.card with
        seat := .empty, pass := none, streams := none4 } .misinsert)
    ∧ (s.card.seat = .entering → rear = false → moves .rear true { s.card with
        seat := .seated, pass := none, leftTimer := left } .none)
    ∧ (s.card.seat = .seated → rear = true → moves .rear false { s.card with
        seat := .withdrawing, pass := some .withdrawal, leftTimer := none
        streams := { s.card.streams with withdrawA := fresh s.card.armedA, withdrawB := fresh s.card.armedB } } .none)
    ∧ (s.card.seat = .withdrawing → rear = false → moves .rear true { s.card with
        seat := .seated, pass := none, leftTimer := left
        streams := { s.card.streams with withdrawA := none, withdrawB := none } } .none)
    ∧ (s.card.seat = .withdrawing → front = true → moves .front false { s.card with
        seat := .empty, pass := none
        decoder := if s.card.streams = none4 then s.card.decoder else some s.card.streams
        streams := none4 } .none)
    ∧ (s.card.seat = .empty → rear = false → moves .rear true { s.card with
        seat := .readerFault, pass := none, leftTimer := none, streams := none4 } .fault)
    ∧ (s.card.seat = .seated → front = true → moves .front false { s.card with
        seat := .readerFault, pass := none, leftTimer := none, streams := none4 } .fault)
    ∧ (∀ switch closed, s.card.seat = .readerFault → s.card.level switch ≠ closed →
      let other := if switch = .front then rear else front;
      (closed = true ∨ other = true → exec (.cardSwitchChange switch closed) s = .next ({ s with card := { s.card with
          frontClosed := if switch = .front then closed else s.card.frontClosed
          rearClosed := if switch = .rear then closed else s.card.rearClosed } } : State).chooseFrame)
      ∧ (closed = false → other = false → moves switch false { s.card with seat := .empty } .none))
    ∧ (∀ k x elapsed, s.card.capturing k = some x →
      let timed := if x.overflow then x
        else if x.entries.length < 2048 then { x with entries := x.entries ++ [some (max 1 (min 65535 elapsed))] }
        else { x with overflow := true }
      let gap := if x.overflow then x
        else if x.entries.length < 2048 then { x with entries := x.entries ++ [none] } else { x with overflow := true }
      let x1 := if x.phase = .timing then timed else { x with phase := .timing }
      let x2 := if x.phase = .timing then { gap with phase := .inGap } else x;
      exec (.fluxTransition k elapsed) s = .next ({ s with card := s.card.setCapturing k x1 } : State).chooseFrame
      ∧ exec (.fluxGap k) s = .next ({ s with card := s.card.setCapturing k x2 } : State).chooseFrame)

/-- R144 to R146, R148, R154 to R156, R159: a decode fills the held read, in place of one still held, and starts the hold timer;
the read leaves the part at its expiry or at CARD_FETCH; the card-left timer asserts CARD_LEFT (that with CARD_LEFT asserted
already its expiry raises nothing is the MODEL'S CHOICE, log entry 32); CARD_ARM and CARD_DISARM. R149 to R153: what a track's
entries read as, by the longest segment between GAP markers, the running reference, the start and end characters, the parities and
the LRC, and which of the four candidates the track takes (that a character beyond the last place adds no parity error is the
MODEL'S CHOICE, log entry 30). -/
def Obligations.CardReadIsHeldFetchedOrExpires : Prop :=
  (∀ (s : State) (tag tracks : Byte),
    let off : Streams := ⟨none, none, none, none⟩
    let armedA := tracks.toNat != 1
    let armedB := tracks.toNat != 0
    let lost := fun x : Option Stream => (x.map (·.overflow)).getD false;
    (∀ x, s.card.decoder = some x → exec .decodeEnd s = .next (({ s with card := { s.card with
        decoder := none, counter := (s.card.counter + 1) % 256, holdTimer := some (s.clock + s.card.holdS * 1000)
        held := some {
          number := (s.card.counter + 1) % 256, txn := if s.txn.state = .idle then 0 else s.txn.number
          trackA := decodeTrack .a x.insertA x.withdrawA, trackB := decodeTrack .b x.insertB x.withdrawB
          replaced := s.card.held.isSome
          overflow := lost x.insertA || lost x.insertB || lost x.withdrawA || lost x.withdrawB } } } : State).raiseCard
            .ready).chooseFrame
      ∧ (decodeTrack .a x.insertA x.withdrawA = none ↔ x.insertA = none ∧ x.withdrawA = none))
    ∧ (∀ w, s.card.holdTimer = some w → exec .holdTimerExpiry s = .next (({ s with
        clock := max s.clock w, card := { s.card with held := none, holdTimer := none } } : State).raiseCard .expired).chooseFrame)
    ∧ (∀ w, s.card.leftTimer = some w → exec .cardLeftTimerExpiry s = .next (if s.card.cardLeft then
          { s with clock := max s.clock w, card := { s.card with leftTimer := none } }
        else ({ s with
          clock := max s.clock w, card := { s.card with leftTimer := none, cardLeft := true }
          attn := { s.attn with cardLeft := { active := true, muted := false, start := max s.clock w } } }
            : State).raiseCard .none).chooseFrame)
    ∧ (s.ready → s.card.held = none → exec (.cardFetch tag) s = .next (s.answer 0x33 tag (.refuse .notFound)).chooseFrame)
    ∧ (∀ r, s.ready → s.card.held = some r → exec (.cardFetch tag) s = .next ((({ s with card := { s.card with
        held := none, holdTimer := none } } : State).raiseCard .fetched).answer 0x33 tag (.accept r.bytes)).chooseFrame)
    ∧ (s.ready → tracks.toNat ≤ 2 → s.card.armedA = armedA ∧ s.card.armedB = armedB →
      exec (.cardArm tag tracks) s = .next (s.answer 0x31 tag (.accept [])).chooseFrame)
    ∧ (s.ready → tracks.toNat ≤ 2 → ¬ (s.card.armedA = armedA ∧ s.card.armedB = armedB) →
      exec (.cardArm tag tracks) s = .next ((({ s with card := { s.card with
        armedA := armedA, armedB := armedB } } : State).raiseCard .none).answer 0x31 tag (.accept [])).chooseFrame)
    ∧ (s.ready → s.card.streams ≠ off → exec (.cardDisarm tag) s = .next ((({ s with card := { s.card with
        armedA := false, armedB := false, streams := off } } : State).raiseCard .discarded).answer 0x32 tag (.accept [])).chooseFrame)
    ∧ (s.ready → s.card.streams = off → exec (.cardDisarm tag) s = .next ((if s.card.armedA || s.card.armedB then
          ({ s with card := { s.card with armedA := false, armedB := false } } : State).raiseCard .none
        else s).answer 0x32 tag (.accept [])).chooseFrame))
  ∧ (∀ (k : Track) (w start finish most : Nat),
    (k, w, start, finish, most) ∈ [(Track.a, 7, 5, 31, 79), (Track.b, 5, 11, 15, 40)] →
    let read := readCandidate (trackFormat k)
    let block := fun (pass : Pass) (reversed : Bool) (x : Option Stream) =>
      let e := (x.map (·.entries)).getD []
      let r := read (if reversed then e.reverse else e)
      ({ status := r.status, pass := pass, reversed := reversed, parityErrors := r.parityErrors, chars := r.chars } : TrackBlock);
    (∀ first t l bits, carries t (t :: l) bits →
      let e := (first :: t :: l).map some;
      ((∀ before behind, bits ≠ before ++ charBits w start true ++ behind) → read e = ⟨.noStart, 0, []⟩)
      ∧ (∀ lead chars, chars.length ≤ most → (∀ c ∈ chars, c.1 < 2 ^ (w - 1) ∧ c.1 ≠ finish) →
        let head := trackBits w start lead chars
        let bad := chars.countP (fun c => !c.2)
        let x := chars.foldl (fun x c => x ^^^ c.1) start ^^^ finish;
        (∀ good tail, bits = head ++ charBits w finish good ++ tail →
          let errors := bad + (if good then 0 else 1);
          read e = ⟨if tail.take w ≠ charBits w x true then .lrcErr else if errors = 0 then .ok else .parityErr, errors,
            chars.map Prod.fst⟩)
        ∧ (∀ v good tail, chars.length = most → v < 2 ^ (w - 1) → v ≠ finish → bits = head ++ charBits w v good ++ tail →
          read e = ⟨.noEnd, bad, []⟩)
        ∧ (∀ part, part.length < w → bits = head ++ part → read e = ⟨.noEnd, bad, []⟩)))
    ∧ (∀ e, (∀ y ∈ e, y = none) → read e = ⟨.empty, 0, []⟩)
    ∧ (∀ first, read [some first] = ⟨.noStart, 0, []⟩)
    ∧ (∀ (before after : List (List Nat)) seg, (∀ y ∈ before, y.length < seg.length) → (∀ y ∈ after, y.length ≤ seg.length) →
        read (List.intercalate [none] ((before ++ seg :: after).map fun y => y.map some)) = read (seg.map some))
    ∧ decodeTrack k none none = none
    ∧ (∀ ins wd, ins ≠ none ∨ wd ≠ none →
      let cs := [block .withdrawal false wd, block .withdrawal true wd, block .insertion false ins, block .insertion true ins]
      let readable := fun b : TrackBlock => b.status = .parityErr ∨ b.status = .lrcErr;
      (∀ before b after, cs = before ++ b :: after → b.status = .ok → (∀ y ∈ before, y.status ≠ .ok) → decodeTrack k ins wd = some b)
      ∧ (∀ before b after, cs = before ++ b :: after → (∀ y ∈ cs, y.status ≠ .ok) → readable b →
          (∀ y ∈ before, readable y → b.parityErrors < y.parityErrors) →
          (∀ y ∈ after, readable y → b.parityErrors ≤ y.parityErrors) → decodeTrack k ins wd = some b)
      ∧ ((∀ y ∈ cs, y.status ≠ .ok ∧ ¬ readable y) → decodeTrack k ins wd = some (block .withdrawal false wd))))

/-! ## Supply budget and cash drawers (chapter 9) -/

/-- R161, R162, R165, R168, R169: DRAWER_OPEN's refusals change nothing. An accepted one counts a NO_SALE or joins the
drawers-fired set, and kicks at once where its load fits beside every grant with no other port in KICK; under KICK_FIRST it cuts
the strobe phase that alone keeps it from fitting, which then owes a whole re-application; or else it waits for supply. R164:
one that comes together with the end of a phase finds the printer between phases, and is served before the next phase is planned
(what comes together is the MODEL'S reading, log entry 56; what V reads at that planning is the MODEL'S CHOICE, log entry 39). A
phase that is itself a re-application is not cut, nor one without which the kick would still not fit. Where the other port waits
too, port 1 is considered first, and the first that can be granted kicks; that the cut of a phase for port 1 comes before port 2 is
considered, also where port 2 would fit beside the phase, is the MODEL'S CHOICE (log entry 63). -/
def Obligations.DrawerOpenKicksOrWaits : Prop :=
  ∀ (s : State) (tag reason : Byte) (p q : Port), s.ready → p ≠ q → reason.toNat ≤ 1 →
    let d := s.drw p
    let run := fun outcome => exec (.drawerOpen tag (Byte.of p.code) reason) s = outcome
    let refuse := fun r => run (.next (s.answer 0x34 tag (.refuse r)).chooseFrame)
    let allowed := if reason.toNat = 0 then s.txn.state = .tender ∧ s.txn.tenderCash = true else s.txn.state = .idle
    let kickLoad := fun x => min (s.drw x).kickLoad s.supply.budget
    let load := kickLoad p
    let stays := fun x => s.supply.budget < kickLoad x + s.granted ∧ ∀ ph, s.supply.phase = some ph →
      s.supply.kickFirst = false ∨ ph.reapplied = true ∨ s.supply.budget < kickLoad x + s.drw1.grant + s.drw2.grant
    let yields := (s.drw q).state ≠ .waitSupply ∨ p = .one ∨ stays q
    let asked := { d with reason := if reason.toNat = 0 then .sale else .noSale, state := .waitSupply }
    let kicked := { asked with state := .kick, grant := load, holdLoad := (load * d.holdDuty + 99) / 100
                               kickTimer := some (s.clock + d.kickMs) }
    let opened := fun (d' : Drawer) (supply : Supply) (prn : Printer) (code : Byte) => ∃ t, run (.next t)
      ∧ s.replied t 0x34 tag (.accept [code])
      ∧ t = { s.setDrw p d' with
          link := t.link, supply := supply, prn := prn
          txn := if reason.toNat = 0 then s.txn.fire p else s.txn
          noSale := if reason.toNat = 0 then s.noSale else min 65535 (s.noSale + 1) }
    let otherKicks := fun (supply : Supply) (prn : Printer) => ∃ t, run (.next t) ∧ s.replied t 0x34 tag (.accept [1])
      ∧ t = { (s.setDrw p asked).setDrw q { s.drw q with
            state := .kick, grant := kickLoad q, holdLoad := (kickLoad q * (s.drw q).holdDuty + 99) / 100
            kickTimer := some (s.clock + (s.drw q).kickMs) } with
          link := t.link, supply := supply, prn := prn
          txn := if reason.toNat = 0 then s.txn.fire p else s.txn
          noSale := if reason.toNat = 0 then s.noSale else min 65535 (s.noSale + 1) };
    (d.fitted = false → refuse .notAllowed)
    ∧ (d.fitted = true → d.state ≠ .closed → d.state ≠ .noOpen → refuse .busy)
    ∧ (d.fitted = true → d.state = .closed ∨ d.state = .noOpen →
      (¬ allowed → refuse .wrongState)
      ∧ (allowed → s.betweenPhases = false → yields → (s.drw q).state ≠ .kick →
          load + s.granted ≤ s.supply.budget → opened kicked s.supply s.prn 2)
      ∧ (allowed → s.betweenPhases = false → (s.drw q).state = .kick → opened asked s.supply s.prn 1)
      ∧ (allowed → s.betweenPhases = false → (s.drw q).state ≠ .waitSupply ∨ stays q → stays p → opened asked s.supply s.prn 1)
      ∧ (allowed → s.betweenPhases = false → (s.drw q).state = .waitSupply → q = .one ∨ stays p →
          kickLoad q + s.granted ≤ s.supply.budget → otherKicks s.supply s.prn)
      ∧ (∀ l d' code, allowed → s.prn.engine = .printing → s.supply.phase = none → s.supply.owed = none → s.prn.line = some l →
          l.advancing = false → l.unprinted ≠ [] → s.prn.reasons.lowSupply = false →
          (d' = kicked ∧ code = 2 ∧ yields ∧ (s.drw q).state ≠ .kick ∧ load + s.granted ≤ s.supply.budget
            ∨ d' = asked ∧ code = 1 ∧ ((s.drw q).state = .kick ∨ ((s.drw q).state ≠ .waitSupply ∨ stays q) ∧ stays p)) →
          let u := { s.setDrw p d' with
            link := { s.link with reserved := s.link.reserved + 1 }, txn := if reason.toNat = 0 then s.txn.fire p else s.txn };
          (u.kickWaits → opened d' s.supply s.prn code)
          ∧ (¬ u.kickWaits → ∃ t, opened d' t.supply t.prn code ∧ s.plansPhase t l (s.supply.budget - (d'.grant + (s.drw q).grant))))
      ∧ (∀ ph, allowed → s.supply.phase = some ph → s.supply.kickFirst = true → ph.reapplied = false →
          let supply := { s.supply with phase := none, owed := some { ph with reapplied := true } }
          let prn := { s.prn with engine := if s.prn.reasons.lowSupply then .suspended else .waitSupply }
          let cuts := fun x => s.supply.budget < kickLoad x + s.granted ∧ kickLoad x + s.drw1.grant + s.drw2.grant ≤ s.supply.budget;
          (yields → (s.drw q).state ≠ .kick → cuts p → opened kicked supply prn 2)
          ∧ ((s.drw q).state = .waitSupply → q = .one ∨ stays p → cuts q → otherKicks supply prn)))

/-- R160, R167, R170 to R172: what a sensor change and the three timers make of a port, where nothing else waits for supply and
no fitted value is held. A kick that ends with the drawer open or shut releases load; a drawer that opens unasked is forced; one
left open is overdue; one that shuts releases what it asserted. A staged budget takes effect once no grant is held, and a port in
HOLD holds one even with a hold load of 0, which is the MODEL'S reading (log entry 7). -/
def Obligations.DrawerFollowsItsSensorAndTimers : Prop :=
  ∀ (s : State) (p q : Port), p ≠ q → (s.drw p).fitted = true → (s.drw p).fittedSet = true → (s.drw q).state ≠ .waitSupply →
    s.prn.engine ≠ .waitSupply → s.txn.state ≠ .closing →
    let d := s.drw p
    let at_ := fun w => max s.clock w
    let still := { d with kickTimer := none, holdTimer := none, overdueTimer := none, grant := 0 }
    let released := fun (holds : Bool) => ({ s.supply with budget :=
      if s.supply.phase = none ∧ s.supply.owed = none ∧ holds = false ∧ (s.drw q).state ≠ .kick ∧ (s.drw q).state ≠ .hold then
        s.supply.staged else s.supply.budget } : Supply)
    let becomes := fun (c : Instr) (clock : Nat) (d' : Drawer) (supply : Supply) => ∃ t, exec c s = .next t ∧ s.noticed t
      ∧ t = { s.setDrw p d' with clock := clock, link := t.link, supply := supply, attn := t.attn };
    (∀ w, d.state = .kick → d.kickTimer = some w →
      (d.sensorOpen = true → becomes (.kickTimerExpiry p) (at_ w) { still with
          state := .opened, forced := false, overdueTimer := some (at_ w + d.overdueS * 1000) } (released false))
      ∧ (d.sensorOpen = false → becomes (.kickTimerExpiry p) (at_ w) { d with
          state := .hold, kickTimer := none, grant := d.holdLoad, holdTimer := some (at_ w + d.holdMs) } (released true)))
    ∧ (∀ w, d.state = .hold → d.holdTimer = some w →
        becomes (.holdLimitExpiry p) (at_ w) { still with state := .noOpen } (released false))
    ∧ (∀ w, d.state = .opened → d.overdueTimer = some w → ∃ t, exec (.overdueTimerExpiry p) s = .next t ∧ s.noticed t
        ∧ t = { s.setDrw p { d with state := .overdue, overdueTimer := none } with
            clock := at_ w, link := t.link
            attn := { s.attn with drawerOverdue := { active := true, muted := false, start := at_ w } } })
    ∧ (∀ high, d.levelHigh ≠ high → d.sensorOpen = false → (high != d.polarity) = true →
      let seen := { still with levelHigh := high, sensorOpen := true, state := .opened
                               overdueTimer := some (s.clock + d.overdueS * 1000) };
      (d.state = .closed → becomes (.drawerSensorChange p high) s.clock { seen with forced := true } s.supply
          ∧ ∀ t, exec (.drawerSensorChange p high) s = .next t →
              t.attn = { s.attn with drawerForced := { active := true, muted := false, start := s.clock } })
      ∧ (d.state = .waitSupply ∨ d.state = .noOpen →
          becomes (.drawerSensorChange p high) s.clock { seen with forced := false } s.supply)
      ∧ (d.state = .hold → becomes (.drawerSensorChange p high) s.clock { seen with forced := false } (released false))
      ∧ (d.state = .kick → becomes (.drawerSensorChange p high) s.clock { d with levelHigh := high, sensorOpen := true } s.supply))
    ∧ (∀ high, d.levelHigh ≠ high → d.sensorOpen = true → (high != d.polarity) = false → d.state = .opened ∨ d.state = .overdue →
        becomes (.drawerSensorChange p high) s.clock { still with
          levelHigh := high, sensorOpen := false, state := .closed, forced := false } s.supply
        ∧ ((s.drw q).forced = false → (s.drw q).state ≠ .overdue → ∀ t, exec (.drawerSensorChange p high) s = .next t →
            t.attn.drawerForced.active = false ∧ t.attn.drawerOverdue.active = false))

/-! ## The receipt printer (chapter 10) -/

/-- R161, R163 to R165, R182 to R188, R190, R191, R193: the end of a strobe phase marks its blocks printed and plans the next
phase, from a new sample of V, as the longest run of unprinted blocks that the available load bears, with the width of R184, or
waits for supply, or stops for LOW_SUPPLY where V is below 180, or where that reason is set already; with every block printed the
paper advances. A port that waits is served first, port 1 before port 2, and kicks where its load then fits. A DRAWER_OPEN that has
come together with the end of the phase finds the printer between phases (what comes together is the MODEL'S reading, log entry
56). The end of an advance completes a record whose last line it was, or one that is ending (R194), or begins its next line, with
a new sample of the head temperature; a weighed line's last line sets the sale's printed flag, the next record is taken up, and a
RECEIPT_END that is reached ends its receipt; with a reason set the engine stops there. The record read back for a weighed line
is laid out as R187 has it, or as a damaged line (R188), and is printed at once, or kept while the engine stands SUSPENDED. What
the inputs read at these samples is the MODEL'S CHOICE of log entry 39, and that the loads of a raster line count its 1 bits
(rasterLoads) is what the MODEL presumes (log entry 59). -/
def Obligations.LinesPrintByPhasesWithinTheBudget : Prop :=
  (∀ (s : State) (l : Line) (w : Work), s.prn.line = some l → s.prn.work = some w →
    (∀ ph, s.supply.phase = some ph → (ph.reapplied = true ∨ s.supply.owed = none) →
      let v := s.prn.supplyInput.headD s.prn.headSupply
      let l' := l.markPrinted ph.blocks
      let kickLoad := fun p => min (s.drw p).kickLoad s.supply.budget
      let kicks := fun p => (s.drw p).state = .waitSupply ∧ s.drw1.state ≠ .kick ∧ s.drw2.state ≠ .kick
        ∧ kickLoad p + s.drw1.grant + s.drw2.grant ≤ s.supply.budget
      let served := fun p => if kicks p ∧ (p = .one ∨ ¬ kicks .one) then { s.drw p with
          state := .kick, grant := kickLoad p, holdLoad := (kickLoad p * (s.drw p).holdDuty + 99) / 100
          kickTimer := some (s.clock + (s.drw p).kickMs) } else s.drw p
      let free := s.supply.budget - ((served .one).grant + (served .two).grant)
      ∃ t, exec .strobePhaseEnd s = .next t ∧ t.txn = s.txn ∧ t.drw1 = served .one ∧ t.drw2 = served .two ∧ t.flash = s.flash
        ∧ t.supply.owed = none ∧ t.prn.queue = s.prn.queue ∧ t.prn.work = some w
        ∧ (s.prn.reasons.lowSupply = true →
            t.supply.phase = none ∧ t.prn = { s.prn with line := some l', engine := .suspended })
        ∧ (s.prn.reasons.lowSupply = false → l'.unprinted = [] →
            t.supply.phase = none ∧ t.prn = { s.prn with line := some { l' with advancing := true }, engine := .printing })
        ∧ (s.prn.reasons.lowSupply = false → l'.unprinted ≠ [] → ¬ s.kickWaits →
            s.plansPhase t l' free ∧ (v < 180 → t.prn = { s.prn with
              headSupply := v, supplyInput := s.prn.supplyInput.tail, line := some l', engine := .suspended
              reasons := { s.prn.reasons with lowSupply := true } }))
        ∧ (s.prn.reasons.lowSupply = false → l'.unprinted ≠ [] → s.kickWaits → t = { s with
            link := t.link, supply := { s.supply with phase := none, owed := none }
            drw1 := served .one, drw2 := served .two, prn := { s.prn with line := some l', engine := .printing } }))
    ∧ (l.advancing = true → s.prn.cutter = none →
      let becomes := fun (u : State) => ∃ t, exec .paperAdvanceEnd s = .next t ∧ s.noticed t ∧ t = { u with link := t.link };
      (∀ q rest u, s.prn.queue = q :: rest →
        (w.afterLine = none ∧ u = s.recordDone w
          ∨ (∃ w', w.afterLine = some w') ∧ s.prn.ending = true ∧ u = { s with prn := { s.prn with
              queue := rest, work := none, ending := false, line := none } }) →
        (s.prn.reasons.any = true → becomes { u with prn := { u.prn with engine := .suspended } })
        ∧ (s.prn.reasons.any = false → rest = [] → becomes { u with prn := { u.prn with engine := .idle } })
        ∧ (∀ e more, s.prn.reasons.any = false → rest = e :: more →
            ∃ t, exec .paperAdvanceEnd s = .next t ∧ u.takesUp t e.record))
      ∧ (∀ w', w.afterLine = some w' → s.prn.ending = false → s.prn.reasons.any = true →
        becomes { s with prn := { s.prn with work := some w', line := none, engine := .suspended } }))
    ∧ (l.advancing = true → s.prn.cutter = none → s.prn.ending = false → s.prn.reasons.any = false →
      (∀ j, w = .text j → j.row + 1 < 24 * j.lines.length → ∃ t, exec .paperAdvanceEnd s = .next t
        ∧ t.prn.work = some (.text { j with row := j.row + 1 }) ∧ t.prn.queue = s.prn.queue
        ∧ s.startsLine t (textLoads (j.lines.getD ((j.row + 1) / 24) []) ((j.row + 1) % 24)))
      ∧ (∀ left dots, w = .raster left dots → 1 < left → ∃ t l', exec .paperAdvanceEnd s = .next t
        ∧ t.prn.work = some (.raster (left - 1) dots) ∧ t.prn.queue = s.prn.queue ∧ t.prn.darkness = s.prn.darknessSet
        ∧ t.prn.line = some l' ∧ l'.loads = rasterLoads dots ∧ l'.temp = s.prn.tempInput.headD s.prn.headTemp
        ∧ t.prn.headTemp = l'.temp ∧ t.prn.tempInput = s.prn.tempInput.tail
        ∧ t.prn.reasons.headHot = decide (65 ≤ l'.temp)
        ∧ l'.printed = (rasterLoads dots).map (· == 0))
      ∧ (∀ left, w = .feed left → 1 < left → ∃ t, exec .paperAdvanceEnd s = .next t ∧ s.noticed t
        ∧ t = { s with link := t.link, prn := { s.prn with
            work := some (.feed (left - 1)), engine := .printing
            line := some { loads := [], printed := [], advancing := true, temp := s.prn.headTemp } } })
      ∧ (∀ q e, w.afterLine = none → (∀ j, w ≠ .text j) → s.prn.queue = [q, e] → e.record = .receiptEnd →
        let mine := s.txn.state ≠ .idle ∧ e.receipt = s.txn.number ∧ s.txn.receipt = .queued;
        ∃ t, exec .paperAdvanceEnd s = .next t ∧ s.noticed t
          ∧ t = { s with link := t.link, txn := t.txn, bag := t.bag, prn := { s.prn with
              queue := [], work := none, line := none, engine := .idle
              lastDone := e.receipt, doneCount := (s.prn.doneCount + 1) % 256 } }
          ∧ (s.txn.state ≠ .closing → t.txn = (if mine then { s.txn with receipt := .printed } else s.txn) ∧ t.bag = s.bag)
          ∧ (mine → t.txn.receipt = .printed)
          ∧ (mine → s.txn.state = .closing → (∀ p, s.txn.fired p = false) →
              t.txn = { s.txn with receipt := .printed, state := .idle, endCause := .closed }))))
  ∧ (∀ (s : State) (n : Nat) (rest : List Access) (health : List Health) (x : ReadEntry) (q : Queued) (more : List Queued),
    s.store.op = .read → s.store.queue = .readPrinter n true :: rest → s.prn.work = some (.reading n) → s.prn.queue = q :: more →
    readNumbers s.store s.flash [n] health = [x] → s.prn.decimals ≤ 3 →
    ∃ t j, exec (.recordReadEnd health) s = .next t ∧ t.prn.work = some (.text j) ∧ t.prn.queue = s.prn.queue
      ∧ j.number = n ∧ j.row = 0
      ∧ (∀ r, s.printsSale q.receipt n x r → 0 ≤ r.net → r.net ≤ 60450 → r.unitPrice ≤ 999999 → 0 ≤ r.price → r.price ≤ 9999999 →
          0 ≤ r.tare → r.tare ≤ 60000 → j.damaged = false ∧ ∃ first, first.length = 40
          ∧ laidOut s.prn.decimals n r.net.toNat r.unitPrice r.price.toNat first
          ∧ (r.tare = 0 → j.lines = [first])
          ∧ (r.tare ≠ 0 → ∃ second, second.length = 40 ∧ tareLaidOut r.tare.toNat second ∧ j.lines = [first, second]))
      ∧ ((∀ r, ¬ s.printsSale q.receipt n x r) → j.damaged = true ∧ ∃ zeros, laidOut s.prn.decimals 0 0 0 0 zeros
          ∧ j.lines = [zeros.map fun cell => match cell with | .digit _ => .minus | other => other])
      ∧ (s.prn.engine = .suspended → t.prn = { s.prn with work := some (.text j) })
      ∧ (s.prn.engine ≠ .suspended → ∃ l, t.prn.line = some l ∧ l.loads = textLoads (j.lines.headD []) 0
          ∧ l.printed = l.loads.map (· == 0) ∧ l.temp = s.prn.tempInput.headD s.prn.headTemp ∧ t.prn.darkness = s.prn.darknessSet))

/-- R177 to R181, R183 to R185, R189, R192, R194, R74: a print message is taken whole or not at all; its records are tried one
after another, the first that fails decides, and they join the queue behind what stands there; an idle engine starts the first
of them at once. PRINT_CANCEL empties the queue, closes the open receipt and cancels it; of the record in progress a cut
finishes its cycle and a line in progress its line, and any other ends at once, its read and its owed re-application withdrawn.
PRINT_RESUME clears each of three reasons whose condition has gone, and after the last one the engine takes up its work in the
order of R192: a line to be reprinted, a cut to be repeated, an owed phase, a partly printed line, a weighed line's read, the
next record. A receipt that is cancelled, or printed at once, may complete a CLOSING transaction (R71, R74). The MODEL'S own are:
with no receipt open WRONG_STATE comes before a record's other tests (log entry 53), places owed to blocks that wait count as
taken when a weighed line asks for its read (log entry 18), what the head inputs read at a line start and a planning (log entry
39), that the loads of a raster line count its 1 bits (rasterLoads; PRESUMED, log entry 59), the free byte of a count of records
above 255 (log entry 4), that PRINT_CANCEL does not count the record in progress (log entry 29), and that a port in HOLD holds a
grant, a load of 0 included, for which a staged budget waits (log entry 7). -/
def Obligations.PrintRequestsQueueCancelAndResume : Prop :=
  ∀ (s : State) (tag : Byte), s.ready →
    (∀ body, parseRecords body = none → exec (.printRecords tag body) s = .next (s.answer 0x36 tag (.refuse .badFrame)).chooseFrame)
    ∧ (∀ body rs tr, parseRecords body = some rs → rs.all (·.2) = true →
        Trial.run s.txn (rs.map (·.1)) { opened := s.prn.openReceipt, receipt := s.txn.receipt, records := [] } = .ok tr →
        let records := s.prn.queue.length + tr.records.length
        let bytes := 80 * (s.prn.queue.countP (fun q => q.record.isRaster) + tr.records.countP (fun q => q.record.isRaster))
        let answer := countField tr.records.length ++ le16 (256 - records) ++ le16 (16384 - bytes)
        let txn := { s.txn with receipt := tr.receipt, sales := s.txn.sales.map fun x =>
          if (tr.records.any fun q => q.record == .weighedLine x.number) = true then { x with queued := true } else x }
        let queued := { s.prn with queue := tr.records, openReceipt := tr.opened }
        let becomes := fun (txn : Txn) (store : Store) (prn : Printer) => ∃ t, exec (.printRecords tag body) s = .next t
          ∧ s.replied t 0x36 tag (.accept answer) ∧ t = { s with link := t.link, txn := txn, store := store, prn := prn };
        (s.printQueueKept → 256 < records ∨ 16384 < bytes →
          exec (.printRecords tag body) s = .next (s.answer 0x36 tag (.refuse .full)).chooseFrame)
        ∧ (records ≤ 256 → bytes ≤ 16384 → s.prn.engine ≠ .idle →
          becomes txn s.store { s.prn with queue := s.prn.queue ++ tr.records, openReceipt := tr.opened })
        ∧ (records ≤ 256 → bytes ≤ 16384 → s.engineIdle → s.prn.line = none → s.prn.ending = false →
          ∀ first prn,
            (first = tr.records ∧ prn = queued
              ∨ (∃ q k, tr.records = q :: first ∧ q.record = .receiptBegin k)
                ∧ prn = { queued with queue := first, damagedLine := false, damagedNumber := 0 }) →
            (first = [] → becomes txn s.store prn)
            ∧ (∀ q more, first = q :: more → s.takesAlone q.record → ∃ t, exec (.printRecords tag body) s = .next t
                ∧ s.replied t 0x36 tag (.accept answer) ∧ ({ s with txn := txn, prn := prn } : State).takesUp t q.record)
            ∧ (∀ q, first = [q] → q.record = .receiptEnd → ∃ t, exec (.printRecords tag body) s = .next t
                ∧ s.replied t 0x36 tag (.accept answer)
                ∧ t = { s with link := t.link, txn := t.txn, bag := t.bag, prn := { prn with
                    queue := [], lastDone := q.receipt, doneCount := (s.prn.doneCount + 1) % 256 } }
                ∧ (if s.txn.state ≠ .idle ∧ q.receipt = s.txn.number ∧ tr.receipt = .queued then
                    s.receiptBecomes t { txn with receipt := .printed } else t.txn = txn ∧ t.bag = s.bag))))
    ∧ (∀ (x : Txn) (tr : Trial),
      let with_ := fun receipt r => tr.records ++ [({ record := r, receipt := receipt } : Queued)];
      (∀ rs, Trial.run x [] tr = .ok tr ∧ (∀ r tr', tr.record x r = .ok tr' → Trial.run x (r :: rs) tr = Trial.run x rs tr')
        ∧ ∀ r e, tr.record x r = .error e → Trial.run x (r :: rs) tr = .error e)
      ∧ (∀ r, tr.opened = none → (∀ k, r ≠ .receiptBegin k) → tr.record x r = .error .wrongState)
      ∧ (∀ k, let mayBegin := tr.opened = none ∧ (k = 0 ∨ k = x.number ∧ x.state ≠ .idle ∧ tr.receipt = .none);
        (¬ mayBegin → tr.record x (.receiptBegin k) = .error .wrongState)
        ∧ (mayBegin → tr.record x (.receiptBegin k) = .ok {
            opened := some ⟨k, []⟩, receipt := if k = 0 then tr.receipt else .opened, records := with_ k (.receiptBegin k) }))
      ∧ (∀ o, tr.opened = some o →
        (∀ repeats dots, tr.record x (.raster repeats dots) =
          if 1 ≤ repeats ∧ repeats ≤ 255 then .ok { tr with records := with_ o.number (.raster repeats dots) } else .error .badValue)
        ∧ (∀ lines, tr.record x (.feed lines) =
          if 1 ≤ lines ∧ lines ≤ 1000 then .ok { tr with records := with_ o.number (.feed lines) } else .error .badValue)
        ∧ (∀ kind, tr.record x (.cut kind) = .ok { tr with records := with_ o.number (.cut kind) })
        ∧ (∀ n, let listed := o.number ≠ 0 ∧ ∃ e ∈ x.sales, e.number = n;
          (¬ listed → tr.record x (.weighedLine n) = .error .notFound)
          ∧ (listed → n ∈ o.queued → tr.record x (.weighedLine n) = .error .badValue)
          ∧ (listed → n ∉ o.queued → tr.record x (.weighedLine n) = .ok { tr with
              opened := some ⟨o.number, o.queued ++ [n]⟩, records := with_ o.number (.weighedLine n) }))
        ∧ (o.number ≠ 0 → x.inFlight = true → tr.record x .receiptEnd = .error .busy)
        ∧ (o.number ≠ 0 → x.inFlight = false → tr.record x .receiptEnd = .ok {
            opened := none, receipt := .queued
            records := tr.records ++ ((x.sales.filter fun e => !o.queued.contains e.number).map fun e =>
              { record := .weighedLine e.number, receipt := o.number }) ++ [{ record := .receiptEnd, receipt := o.number }] })
        ∧ (o.number = 0 → tr.record x .receiptEnd = .ok {
            opened := none, receipt := tr.receipt, records := with_ 0 .receiptEnd })))
    ∧ (∀ body rs e, parseRecords body = some rs → rs.all (·.2) = true →
        Trial.run s.txn (rs.map (·.1)) { opened := s.prn.openReceipt, receipt := s.txn.receipt, records := [] } = .error e →
        exec (.printRecords tag body) s = .next (s.answer 0x36 tag (.refuse e)).chooseFrame)
    ∧ (let cancels := fun (count : Nat) (store : Store) (supply : Supply) (prn : Printer) =>
        ∃ t, exec (.printCancel tag) s = .next t ∧ s.replied t 0x37 tag (.accept (le16 count))
          ∧ t = { s with link := t.link, store := store, supply := supply, prn := prn, txn := t.txn, bag := t.bag }
          ∧ (if s.txn.receipt = .opened ∨ s.txn.receipt = .queued then
              s.receiptBecomes t { s.txn with receipt := .cancelled } else t.txn = s.txn ∧ t.bag = s.bag);
      (s.prn.work = none →
        cancels s.prn.queue.length s.store s.supply { s.prn with queue := [], openReceipt := none, restart := .none })
      ∧ (∀ w q more, s.prn.work = some w → s.prn.queue = q :: more →
        let cancels := cancels more.length
        let left := { s.prn with queue := [q], openReceipt := none, restart := .none }
        let holds := fun p => (s.drw p).state = .kick ∨ (s.drw p).state = .hold;
        (s.prn.cutter ≠ none → cancels s.store s.supply left)
        ∧ (s.prn.cutter = none → s.prn.line ≠ none → s.prn.engine ≠ .suspended → cancels s.store s.supply { left with ending := true })
        ∧ (s.prn.cutter = none → s.prn.line = none ∨ s.prn.engine = .suspended →
          cancels { s.store with
              waiters := s.store.waiters.filter (· != .line)
              queue := s.store.queue.map fun a => match a with | .readPrinter n _ => .readPrinter n false | a => a }
            { s.supply with
              owed := none
              budget := if s.supply.phase = none ∧ ¬ holds .one ∧ ¬ holds .two then s.supply.staged else s.supply.budget }
            { left with
              queue := [], work := none, ending := false, line := none
              engine := if s.prn.engine = .suspended ∨ s.prn.reasons.any = true then .suspended else .idle })))
    ∧ (let r := s.prn.reasons
       let r' : Reasons := { r with
         paperOut := r.paperOut && !s.prn.paperPresent, coverOpen := r.coverOpen && s.prn.coverOpen
         cutterJam := r.cutterJam && !s.prn.cutterHome };
       (r.paperOut = false → r.coverOpen = false → r.cutterJam = false →
          exec (.printResume tag) s = .next (s.answer 0x38 tag (.refuse .wrongState)).chooseFrame)
       ∧ ((r.paperOut = true ∨ r.coverOpen = true ∨ r.cutterJam = true) → r' = r →
          exec (.printResume tag) s = .next (s.answer 0x38 tag (.refuse .notAllowed)).chooseFrame)
       ∧ (r' ≠ r → (s.prn.engine ≠ .suspended ∨ r'.any = true) → ∃ t, exec (.printResume tag) s = .next t
          ∧ s.replied t 0x38 tag (.accept [Byte.of (reasonBits r')])
          ∧ t = { s with link := t.link, prn := { s.prn with reasons := r' } })
       ∧ (r' ≠ r → s.prn.engine = .suspended → r'.any = false → s.prn.queue = [] → s.prn.work = none → s.prn.cutter = none →
          s.prn.restart = .none → ∃ t, exec (.printResume tag) s = .next t
          ∧ t.prn = { s.prn with reasons := r', engine := .idle })
       ∧ (∀ kind, r' ≠ r → s.prn.engine = .suspended → r'.any = false → s.prn.restart = .repeatCut kind →
          ∃ t, exec (.printResume tag) s = .next t ∧ s.replied t 0x38 tag (.accept [Byte.of (reasonBits r')])
          ∧ t = { s with link := t.link, prn := { s.prn with
              reasons := r', restart := .none, engine := .cutting, cutter := some ⟨kind, true⟩, jamTimer := some (s.clock + 500) } })
       ∧ (r' ≠ r → s.prn.engine = .suspended → r'.any = false →
          let awake := { s.prn with reasons := r', restart := .none }
          let takesUp := fun (P : State → Prop) => ∃ t, exec (.printResume tag) s = .next t
            ∧ s.replied t 0x38 tag (.accept [Byte.of (reasonBits r')])
            ∧ t = { s with link := t.link, supply := t.supply, prn := t.prn }
            ∧ t.prn.queue = s.prn.queue ∧ t.prn.restart = .none ∧ P t
          let becomes := fun (supply : Supply) (prn : Printer) => takesUp fun t => t.supply = supply ∧ t.prn = prn
          let anew := s.prn.restart = .reprintLine ∨ s.prn.restart = .none ∧ s.prn.line = none
          let free := s.supply.budget - (s.drw1.grant + s.drw2.grant)
          let feeds := { awake with
            engine := .printing, line := some { loads := [], printed := [], advancing := true, temp := s.prn.headTemp } };
          (∀ left dots, s.prn.work = some (.raster left dots) → anew →
            takesUp fun t => s.startsLine t (rasterLoads dots) ∧ t.prn.work = s.prn.work)
          ∧ (∀ j, s.prn.work = some (.text j) → anew → takesUp fun t => s.startsLine t j.loads ∧ t.prn.work = s.prn.work)
          ∧ (∀ left, s.prn.work = some (.feed left) → anew → becomes s.supply feeds)
          ∧ (∀ w l, s.prn.work = some w → (∀ n, w ≠ .reading n) → s.prn.restart = .none → s.prn.line = some l →
            (∀ ph, s.supply.owed = some ph →
              (ph.load ≤ free → becomes { s.supply with phase := some ph } { awake with engine := .printing })
              ∧ (free < ph.load → becomes s.supply { awake with engine := .waitSupply }))
            ∧ (s.supply.owed = none → l.unprinted ≠ [] → s.supply.phase = none →
              takesUp fun t => ({ s with prn := awake } : State).plansPhase t l free)
            ∧ (s.supply.owed = none → l.unprinted = [] →
              becomes s.supply { awake with line := some { l with advancing := true }, engine := .printing }))
          ∧ (∀ n, s.prn.work = some (.reading n) → s.prn.restart = .none → becomes s.supply { awake with engine := .waitStore })
          ∧ (∀ q more, s.prn.work = none → s.prn.restart = .none → s.prn.cutter = none → s.prn.queue = q :: more →
            s.takesAlone q.record → ∃ t, exec (.printResume tag) s = .next t ∧ s.replied t 0x38 tag (.accept [Byte.of (reasonBits r')])
              ∧ ({ s with prn := awake } : State).takesUp t q.record)))

/-- R189 to R192, R198: the cutter's cycle ends at its home sensor after the drive, or with CUTTER_JAM at the jam timer; a
lifted cover stops the engine at once, ends the phase in progress, and a line in progress, or a cut of the kind that was
running, is owed again; paper out and the head monitor set their reasons, and a reason that clears on its own lets the engine
resume. A reason that the monitor sets or clears raises PRINT_STATE, also where a sample of the resumption undoes it. What the
inputs read at the extra samples until the monitor's next one comes with HEAD_MONITOR_SAMPLE, the MODEL'S CHOICE of log entry
39. -/
def Obligations.CutterAndSensorsDriveTheEngine : Prop :=
  ∀ s : State,
    (∀ w kind cut, s.prn.cutter = some ⟨kind, true⟩ → s.prn.jamTimer = some w → s.prn.work = some (.cut cut) →
      (s.prn.cutterHome = false → exec .cutterDriveEnd s = .next ({ s with
        clock := max s.clock (w - 200), prn := { s.prn with cutter := some ⟨kind, false⟩ } } : State).chooseFrame)
      ∧ (∀ q, s.prn.cutterHome = true → s.prn.queue = [q] → s.prn.reasons.any = false → ∃ t, exec .cutterDriveEnd s = .next t
        ∧ s.noticed t ∧ t = { s with clock := max s.clock (w - 200), link := t.link, prn := { s.prn with
            cutter := none, jamTimer := none, work := none, ending := false, line := none, queue := [], engine := .idle } }))
    ∧ (∀ w kind cut q, s.prn.cutter = some ⟨kind, false⟩ → s.prn.jamTimer = some w → s.prn.work = some (.cut cut) → s.prn.queue = [q] →
      (∃ t, exec .jamTimerExpiry s = .next t ∧ s.noticed t
        ∧ t = { s with clock := max s.clock w, link := t.link, prn := { s.prn with
            cutter := none, jamTimer := none, work := none, ending := false, line := none, queue := [], engine := .suspended
            reasons := { s.prn.reasons with cutterJam := true } } })
      ∧ (s.prn.reasons.any = false → ∃ t, exec (.cutterHomeChange true) s = .next t ∧ s.noticed t
        ∧ t = { s with link := t.link, prn := { s.prn with
            cutter := none, jamTimer := none, work := none, ending := false, line := none, queue := [], engine := .idle
            cutterHome := true } }))
    ∧ (∀ home, home = false ∨ (∀ kind, s.prn.cutter ≠ some ⟨kind, false⟩) → exec (.cutterHomeChange home) s =
        .next ({ s with prn := { s.prn with cutterHome := home } } : State).chooseFrame)
    ∧ (s.prn.coverOpen = false → s.prn.reasons.coverOpen = false → s.prn.engine ≠ .suspended →
        (∀ p, (s.drw p).state ≠ .waitSupply) → ∃ t, exec (.coverSensorChange true) s = .next t ∧ s.noticed t
        ∧ t.supply.phase = none ∧ t.supply.owed = none
        ∧ t = { s with link := t.link, supply := t.supply, prn := { s.prn with
            coverOpen := true, reasons := { s.prn.reasons with coverOpen := true }, engine := .suspended, line := none
            cutter := none, jamTimer := none
            restart := if s.prn.line.isSome then .reprintLine else match s.prn.cutter with
              | some cut => .repeatCut cut.partialCut
              | none => s.prn.restart } })
    ∧ (exec (.coverSensorChange false) s = .next ({ s with prn := { s.prn with coverOpen := false } } : State).chooseFrame)
    ∧ (s.prn.paperPresent = true → s.prn.engine ≠ .suspended → s.prn.cutter = none → s.prn.line = none →
        ∃ t, exec (.paperSensorChange false) s = .next t ∧ s.noticed t
        ∧ t = { s with link := t.link, prn := { s.prn with
            paperPresent := false, reasons := { s.prn.reasons with paperOut := true }, engine := .suspended } })
    ∧ (exec (.paperSensorChange true) s = .next ({ s with prn := { s.prn with paperPresent := true } } : State).chooseFrame)
    ∧ (∀ low, ∃ t, exec (.paperLowChange low) s = .next t ∧ s.noticed t
        ∧ t = { s with link := t.link, prn := { s.prn with paperLow := low } })
    ∧ (∀ (supply : SupplySamples) (head : TempSamples),
      let v := supply.monitor
      let temp := head.monitor
      let reasons := { s.prn.reasons with
        lowSupply := if v < 180 then true else if 190 ≤ v then false else s.prn.reasons.lowSupply
        headHot := if 65 ≤ temp then true else if temp ≤ 55 then false else s.prn.reasons.headHot }
      let sampled := { s.prn with
        headSupply := v, headTemp := temp, supplyInput := supply.plannings, tempInput := head.lineStarts, reasons := reasons };
      (reasons.any = false → s.prn.engine = .suspended → s.prn.restart = .none → s.prn.work = none → s.prn.queue = [] →
        s.prn.cutter = none → ∃ t, exec (.headMonitorSample supply head) s = .next t ∧ s.noticed t
          ∧ t = { s with link := t.link, prn := { sampled with engine := .idle } })
      ∧ (reasons.any = true → s.prn.line = none → s.supply.phase = none → s.prn.cutter = none →
          ∃ t, exec (.headMonitorSample supply head) s = .next t ∧ s.noticed t
          ∧ t = { s with link := t.link, prn := { sampled with
              engine := if reasons.lowSupply ∨ reasons.paperOut ∨ reasons.headHot then .suspended else s.prn.engine } })
      ∧ (reasons.any = false → s.prn.engine ≠ .suspended →
          ∃ t, exec (.headMonitorSample supply head) s = .next t ∧ s.noticed t
          ∧ t = { s with link := t.link, prn := sampled })
      ∧ (reasons ≠ s.prn.reasons →
          ∃ t, exec (.headMonitorSample supply head) s = .next t ∧ s.raised t .printState t.prn.bytes))

/-! ## The whole part -/

/-- R8: a request that is answered with a result other than OK changes nothing of the part but the reply queue and, with it, the
transmitter's choice. -/
def Obligations.RefusedRequestChangesNothing : Prop :=
  ∀ (s t : State) (c : Instr) (tag : Byte) (r : Request) (res : Result), c.request? = some (tag, r) → res ≠ .ok →
    exec c s = .next t → t.link.replies = s.link.replies ++ [replyFrame r.kind tag (.refuse res)] →
    t = (s.answer r.kind tag (.refuse res)).chooseFrame

/-- R161, R162: every step keeps the granted loads within the budget in effect and at most one port in KICK, with load held only
in KICK and HOLD. -/
def Obligations.EveryStepKeepsTheSupplyBudget : Prop :=
  ∀ s t : State, s.supplyKept → step s = .next t → t.supplyKept

/-- R168, R175, R66, R69, R70, R72: no step leaves a port waiting for a kick that the sale no longer allows: a SALE kick waits
only in TENDER with cash tendered, a NO_SALE kick only in IDLE. -/
def Obligations.EveryStepKeepsKicksInsideTheirSale : Prop :=
  ∀ s t : State, s.kicksKept → step s = .next t → t.kicksKept

/-- R9, R8: every step keeps at most eight places of the reply queue in use, and the reserved ones are exactly those that a read
access or a lane reset still owes. -/
def Obligations.EveryStepKeepsTheReplyPlaces : Prop :=
  ∀ s t : State, s.replyPlacesKept → step s = .next t → t.replyPlacesKept

/-- R88, R89, R101, R13, R115: every step keeps each SALE record of the flash array, of the access queue and of the pricing unit
priced at net × unit price / 1,000, nearest and ties away from zero, at most 9,999,999. -/
def Obligations.EveryStepKeepsSalesPriced : Prop :=
  ∀ s t : State, s.salesPriced → step s = .next t → t.salesPriced

/-- R2, R30, R73, R100, R118, R120, R124, R147, R155, R177: every step keeps the buffers, lists and queues within their places,
the zero of each channel within 2% of Max of its initial zero, an exception exactly in HOLD, and a hold timer exactly with a
held read. -/
def Obligations.EveryStepKeepsTheBounds : Prop :=
  ∀ s t : State, step s = .next t →
    (s.buffersKept → t.buffersKept) ∧ (s.captureKept → t.captureKept) ∧ (s.saleListsKept → t.saleListsKept)
    ∧ (s.printQueueKept → t.printQueueKept) ∧ (s.holdKept → t.holdKept) ∧ (s.readKept → t.readKept)
    ∧ (s.zeroKept .p → t.zeroKept .p) ∧ (s.zeroKept .b → t.zeroKept .b)

/-- The conditions that every step keeps hold right after reset, in State.reset (whose pins and unstated registers are the
MODEL'S CHOICE, log entries 5 and 43). -/
def Obligations.KeptConditionsHoldAtReset : Prop :=
  State.reset.supplyKept ∧ State.reset.kicksKept ∧ State.reset.replyPlacesKept ∧ State.reset.salesPriced
  ∧ State.reset.buffersKept ∧ State.reset.captureKept ∧ State.reset.saleListsKept ∧ State.reset.printQueueKept
  ∧ State.reset.holdKept ∧ State.reset.readKept ∧ State.reset.zeroKept .p ∧ State.reset.zeroKept .b
end

