-- ==== Sys2Proof/Laws/State.lean ====
section
/-! SUPPORT. Each setter of the state against each field: what was set is read back, and every other field is as before. -/

namespace Sys2Proof.Machine

variable (s : State)

@[simp] theorem State.setClock_clock (v : Nat) : (s.setClock v).clock = v := rfl
@[simp] theorem State.setClock_link (v : Nat) : (s.setClock v).link = s.link := rfl
@[simp] theorem State.setClock_chP (v : Nat) : (s.setClock v).chP = s.chP := rfl
@[simp] theorem State.setClock_chB (v : Nat) : (s.setClock v).chB = s.chB := rfl
@[simp] theorem State.setClock_cal (v : Nat) : (s.setClock v).cal = s.cal := rfl
@[simp] theorem State.setClock_txn (v : Nat) : (s.setClock v).txn = s.txn := rfl
@[simp] theorem State.setClock_pw (v : Nat) : (s.setClock v).pw = s.pw := rfl
@[simp] theorem State.setClock_store (v : Nat) : (s.setClock v).store = s.store := rfl
@[simp] theorem State.setClock_flash (v : Nat) : (s.setClock v).flash = s.flash := rfl
@[simp] theorem State.setClock_bag (v : Nat) : (s.setClock v).bag = s.bag := rfl
@[simp] theorem State.setClock_card (v : Nat) : (s.setClock v).card = s.card := rfl
@[simp] theorem State.setClock_supply (v : Nat) : (s.setClock v).supply = s.supply := rfl
@[simp] theorem State.setClock_drw1 (v : Nat) : (s.setClock v).drw1 = s.drw1 := rfl
@[simp] theorem State.setClock_drw2 (v : Nat) : (s.setClock v).drw2 = s.drw2 := rfl
@[simp] theorem State.setClock_noSale (v : Nat) : (s.setClock v).noSale = s.noSale := rfl
@[simp] theorem State.setClock_prn (v : Nat) : (s.setClock v).prn = s.prn := rfl
@[simp] theorem State.setClock_attn (v : Nat) : (s.setClock v).attn = s.attn := rfl
@[simp] theorem State.setClock_pending (v : Nat) : (s.setClock v).pending = s.pending := rfl

@[simp] theorem State.setLink_clock (v : Link) : (s.setLink v).clock = s.clock := rfl
@[simp] theorem State.setLink_link (v : Link) : (s.setLink v).link = v := rfl
@[simp] theorem State.setLink_chP (v : Link) : (s.setLink v).chP = s.chP := rfl
@[simp] theorem State.setLink_chB (v : Link) : (s.setLink v).chB = s.chB := rfl
@[simp] theorem State.setLink_cal (v : Link) : (s.setLink v).cal = s.cal := rfl
@[simp] theorem State.setLink_txn (v : Link) : (s.setLink v).txn = s.txn := rfl
@[simp] theorem State.setLink_pw (v : Link) : (s.setLink v).pw = s.pw := rfl
@[simp] theorem State.setLink_store (v : Link) : (s.setLink v).store = s.store := rfl
@[simp] theorem State.setLink_flash (v : Link) : (s.setLink v).flash = s.flash := rfl
@[simp] theorem State.setLink_bag (v : Link) : (s.setLink v).bag = s.bag := rfl
@[simp] theorem State.setLink_card (v : Link) : (s.setLink v).card = s.card := rfl
@[simp] theorem State.setLink_supply (v : Link) : (s.setLink v).supply = s.supply := rfl
@[simp] theorem State.setLink_drw1 (v : Link) : (s.setLink v).drw1 = s.drw1 := rfl
@[simp] theorem State.setLink_drw2 (v : Link) : (s.setLink v).drw2 = s.drw2 := rfl
@[simp] theorem State.setLink_noSale (v : Link) : (s.setLink v).noSale = s.noSale := rfl
@[simp] theorem State.setLink_prn (v : Link) : (s.setLink v).prn = s.prn := rfl
@[simp] theorem State.setLink_attn (v : Link) : (s.setLink v).attn = s.attn := rfl
@[simp] theorem State.setLink_pending (v : Link) : (s.setLink v).pending = s.pending := rfl

@[simp] theorem State.setChP_clock (v : Channel) : (s.setChP v).clock = s.clock := rfl
@[simp] theorem State.setChP_link (v : Channel) : (s.setChP v).link = s.link := rfl
@[simp] theorem State.setChP_chP (v : Channel) : (s.setChP v).chP = v := rfl
@[simp] theorem State.setChP_chB (v : Channel) : (s.setChP v).chB = s.chB := rfl
@[simp] theorem State.setChP_cal (v : Channel) : (s.setChP v).cal = s.cal := rfl
@[simp] theorem State.setChP_txn (v : Channel) : (s.setChP v).txn = s.txn := rfl
@[simp] theorem State.setChP_pw (v : Channel) : (s.setChP v).pw = s.pw := rfl
@[simp] theorem State.setChP_store (v : Channel) : (s.setChP v).store = s.store := rfl
@[simp] theorem State.setChP_flash (v : Channel) : (s.setChP v).flash = s.flash := rfl
@[simp] theorem State.setChP_bag (v : Channel) : (s.setChP v).bag = s.bag := rfl
@[simp] theorem State.setChP_card (v : Channel) : (s.setChP v).card = s.card := rfl
@[simp] theorem State.setChP_supply (v : Channel) : (s.setChP v).supply = s.supply := rfl
@[simp] theorem State.setChP_drw1 (v : Channel) : (s.setChP v).drw1 = s.drw1 := rfl
@[simp] theorem State.setChP_drw2 (v : Channel) : (s.setChP v).drw2 = s.drw2 := rfl
@[simp] theorem State.setChP_noSale (v : Channel) : (s.setChP v).noSale = s.noSale := rfl
@[simp] theorem State.setChP_prn (v : Channel) : (s.setChP v).prn = s.prn := rfl
@[simp] theorem State.setChP_attn (v : Channel) : (s.setChP v).attn = s.attn := rfl
@[simp] theorem State.setChP_pending (v : Channel) : (s.setChP v).pending = s.pending := rfl

@[simp] theorem State.setChB_clock (v : Channel) : (s.setChB v).clock = s.clock := rfl
@[simp] theorem State.setChB_link (v : Channel) : (s.setChB v).link = s.link := rfl
@[simp] theorem State.setChB_chP (v : Channel) : (s.setChB v).chP = s.chP := rfl
@[simp] theorem State.setChB_chB (v : Channel) : (s.setChB v).chB = v := rfl
@[simp] theorem State.setChB_cal (v : Channel) : (s.setChB v).cal = s.cal := rfl
@[simp] theorem State.setChB_txn (v : Channel) : (s.setChB v).txn = s.txn := rfl
@[simp] theorem State.setChB_pw (v : Channel) : (s.setChB v).pw = s.pw := rfl
@[simp] theorem State.setChB_store (v : Channel) : (s.setChB v).store = s.store := rfl
@[simp] theorem State.setChB_flash (v : Channel) : (s.setChB v).flash = s.flash := rfl
@[simp] theorem State.setChB_bag (v : Channel) : (s.setChB v).bag = s.bag := rfl
@[simp] theorem State.setChB_card (v : Channel) : (s.setChB v).card = s.card := rfl
@[simp] theorem State.setChB_supply (v : Channel) : (s.setChB v).supply = s.supply := rfl
@[simp] theorem State.setChB_drw1 (v : Channel) : (s.setChB v).drw1 = s.drw1 := rfl
@[simp] theorem State.setChB_drw2 (v : Channel) : (s.setChB v).drw2 = s.drw2 := rfl
@[simp] theorem State.setChB_noSale (v : Channel) : (s.setChB v).noSale = s.noSale := rfl
@[simp] theorem State.setChB_prn (v : Channel) : (s.setChB v).prn = s.prn := rfl
@[simp] theorem State.setChB_attn (v : Channel) : (s.setChB v).attn = s.attn := rfl
@[simp] theorem State.setChB_pending (v : Channel) : (s.setChB v).pending = s.pending := rfl

@[simp] theorem State.setCal_clock (v : Calib) : (s.setCal v).clock = s.clock := rfl
@[simp] theorem State.setCal_link (v : Calib) : (s.setCal v).link = s.link := rfl
@[simp] theorem State.setCal_chP (v : Calib) : (s.setCal v).chP = s.chP := rfl
@[simp] theorem State.setCal_chB (v : Calib) : (s.setCal v).chB = s.chB := rfl
@[simp] theorem State.setCal_cal (v : Calib) : (s.setCal v).cal = v := rfl
@[simp] theorem State.setCal_txn (v : Calib) : (s.setCal v).txn = s.txn := rfl
@[simp] theorem State.setCal_pw (v : Calib) : (s.setCal v).pw = s.pw := rfl
@[simp] theorem State.setCal_store (v : Calib) : (s.setCal v).store = s.store := rfl
@[simp] theorem State.setCal_flash (v : Calib) : (s.setCal v).flash = s.flash := rfl
@[simp] theorem State.setCal_bag (v : Calib) : (s.setCal v).bag = s.bag := rfl
@[simp] theorem State.setCal_card (v : Calib) : (s.setCal v).card = s.card := rfl
@[simp] theorem State.setCal_supply (v : Calib) : (s.setCal v).supply = s.supply := rfl
@[simp] theorem State.setCal_drw1 (v : Calib) : (s.setCal v).drw1 = s.drw1 := rfl
@[simp] theorem State.setCal_drw2 (v : Calib) : (s.setCal v).drw2 = s.drw2 := rfl
@[simp] theorem State.setCal_noSale (v : Calib) : (s.setCal v).noSale = s.noSale := rfl
@[simp] theorem State.setCal_prn (v : Calib) : (s.setCal v).prn = s.prn := rfl
@[simp] theorem State.setCal_attn (v : Calib) : (s.setCal v).attn = s.attn := rfl
@[simp] theorem State.setCal_pending (v : Calib) : (s.setCal v).pending = s.pending := rfl

@[simp] theorem State.setTxn_clock (v : Txn) : (s.setTxn v).clock = s.clock := rfl
@[simp] theorem State.setTxn_link (v : Txn) : (s.setTxn v).link = s.link := rfl
@[simp] theorem State.setTxn_chP (v : Txn) : (s.setTxn v).chP = s.chP := rfl
@[simp] theorem State.setTxn_chB (v : Txn) : (s.setTxn v).chB = s.chB := rfl
@[simp] theorem State.setTxn_cal (v : Txn) : (s.setTxn v).cal = s.cal := rfl
@[simp] theorem State.setTxn_txn (v : Txn) : (s.setTxn v).txn = v := rfl
@[simp] theorem State.setTxn_pw (v : Txn) : (s.setTxn v).pw = s.pw := rfl
@[simp] theorem State.setTxn_store (v : Txn) : (s.setTxn v).store = s.store := rfl
@[simp] theorem State.setTxn_flash (v : Txn) : (s.setTxn v).flash = s.flash := rfl
@[simp] theorem State.setTxn_bag (v : Txn) : (s.setTxn v).bag = s.bag := rfl
@[simp] theorem State.setTxn_card (v : Txn) : (s.setTxn v).card = s.card := rfl
@[simp] theorem State.setTxn_supply (v : Txn) : (s.setTxn v).supply = s.supply := rfl
@[simp] theorem State.setTxn_drw1 (v : Txn) : (s.setTxn v).drw1 = s.drw1 := rfl
@[simp] theorem State.setTxn_drw2 (v : Txn) : (s.setTxn v).drw2 = s.drw2 := rfl
@[simp] theorem State.setTxn_noSale (v : Txn) : (s.setTxn v).noSale = s.noSale := rfl
@[simp] theorem State.setTxn_prn (v : Txn) : (s.setTxn v).prn = s.prn := rfl
@[simp] theorem State.setTxn_attn (v : Txn) : (s.setTxn v).attn = s.attn := rfl
@[simp] theorem State.setTxn_pending (v : Txn) : (s.setTxn v).pending = s.pending := rfl

@[simp] theorem State.setPw_clock (v : Pricing) : (s.setPw v).clock = s.clock := rfl
@[simp] theorem State.setPw_link (v : Pricing) : (s.setPw v).link = s.link := rfl
@[simp] theorem State.setPw_chP (v : Pricing) : (s.setPw v).chP = s.chP := rfl
@[simp] theorem State.setPw_chB (v : Pricing) : (s.setPw v).chB = s.chB := rfl
@[simp] theorem State.setPw_cal (v : Pricing) : (s.setPw v).cal = s.cal := rfl
@[simp] theorem State.setPw_txn (v : Pricing) : (s.setPw v).txn = s.txn := rfl
@[simp] theorem State.setPw_pw (v : Pricing) : (s.setPw v).pw = v := rfl
@[simp] theorem State.setPw_store (v : Pricing) : (s.setPw v).store = s.store := rfl
@[simp] theorem State.setPw_flash (v : Pricing) : (s.setPw v).flash = s.flash := rfl
@[simp] theorem State.setPw_bag (v : Pricing) : (s.setPw v).bag = s.bag := rfl
@[simp] theorem State.setPw_card (v : Pricing) : (s.setPw v).card = s.card := rfl
@[simp] theorem State.setPw_supply (v : Pricing) : (s.setPw v).supply = s.supply := rfl
@[simp] theorem State.setPw_drw1 (v : Pricing) : (s.setPw v).drw1 = s.drw1 := rfl
@[simp] theorem State.setPw_drw2 (v : Pricing) : (s.setPw v).drw2 = s.drw2 := rfl
@[simp] theorem State.setPw_noSale (v : Pricing) : (s.setPw v).noSale = s.noSale := rfl
@[simp] theorem State.setPw_prn (v : Pricing) : (s.setPw v).prn = s.prn := rfl
@[simp] theorem State.setPw_attn (v : Pricing) : (s.setPw v).attn = s.attn := rfl
@[simp] theorem State.setPw_pending (v : Pricing) : (s.setPw v).pending = s.pending := rfl

@[simp] theorem State.setStore_clock (v : Store) : (s.setStore v).clock = s.clock := rfl
@[simp] theorem State.setStore_link (v : Store) : (s.setStore v).link = s.link := rfl
@[simp] theorem State.setStore_chP (v : Store) : (s.setStore v).chP = s.chP := rfl
@[simp] theorem State.setStore_chB (v : Store) : (s.setStore v).chB = s.chB := rfl
@[simp] theorem State.setStore_cal (v : Store) : (s.setStore v).cal = s.cal := rfl
@[simp] theorem State.setStore_txn (v : Store) : (s.setStore v).txn = s.txn := rfl
@[simp] theorem State.setStore_pw (v : Store) : (s.setStore v).pw = s.pw := rfl
@[simp] theorem State.setStore_store (v : Store) : (s.setStore v).store = v := rfl
@[simp] theorem State.setStore_flash (v : Store) : (s.setStore v).flash = s.flash := rfl
@[simp] theorem State.setStore_bag (v : Store) : (s.setStore v).bag = s.bag := rfl
@[simp] theorem State.setStore_card (v : Store) : (s.setStore v).card = s.card := rfl
@[simp] theorem State.setStore_supply (v : Store) : (s.setStore v).supply = s.supply := rfl
@[simp] theorem State.setStore_drw1 (v : Store) : (s.setStore v).drw1 = s.drw1 := rfl
@[simp] theorem State.setStore_drw2 (v : Store) : (s.setStore v).drw2 = s.drw2 := rfl
@[simp] theorem State.setStore_noSale (v : Store) : (s.setStore v).noSale = s.noSale := rfl
@[simp] theorem State.setStore_prn (v : Store) : (s.setStore v).prn = s.prn := rfl
@[simp] theorem State.setStore_attn (v : Store) : (s.setStore v).attn = s.attn := rfl
@[simp] theorem State.setStore_pending (v : Store) : (s.setStore v).pending = s.pending := rfl

@[simp] theorem State.setFlash_clock (v : List FlashSector) : (s.setFlash v).clock = s.clock := rfl
@[simp] theorem State.setFlash_link (v : List FlashSector) : (s.setFlash v).link = s.link := rfl
@[simp] theorem State.setFlash_chP (v : List FlashSector) : (s.setFlash v).chP = s.chP := rfl
@[simp] theorem State.setFlash_chB (v : List FlashSector) : (s.setFlash v).chB = s.chB := rfl
@[simp] theorem State.setFlash_cal (v : List FlashSector) : (s.setFlash v).cal = s.cal := rfl
@[simp] theorem State.setFlash_txn (v : List FlashSector) : (s.setFlash v).txn = s.txn := rfl
@[simp] theorem State.setFlash_pw (v : List FlashSector) : (s.setFlash v).pw = s.pw := rfl
@[simp] theorem State.setFlash_store (v : List FlashSector) : (s.setFlash v).store = s.store := rfl
@[simp] theorem State.setFlash_flash (v : List FlashSector) : (s.setFlash v).flash = v := rfl
@[simp] theorem State.setFlash_bag (v : List FlashSector) : (s.setFlash v).bag = s.bag := rfl
@[simp] theorem State.setFlash_card (v : List FlashSector) : (s.setFlash v).card = s.card := rfl
@[simp] theorem State.setFlash_supply (v : List FlashSector) : (s.setFlash v).supply = s.supply := rfl
@[simp] theorem State.setFlash_drw1 (v : List FlashSector) : (s.setFlash v).drw1 = s.drw1 := rfl
@[simp] theorem State.setFlash_drw2 (v : List FlashSector) : (s.setFlash v).drw2 = s.drw2 := rfl
@[simp] theorem State.setFlash_noSale (v : List FlashSector) : (s.setFlash v).noSale = s.noSale := rfl
@[simp] theorem State.setFlash_prn (v : List FlashSector) : (s.setFlash v).prn = s.prn := rfl
@[simp] theorem State.setFlash_attn (v : List FlashSector) : (s.setFlash v).attn = s.attn := rfl
@[simp] theorem State.setFlash_pending (v : List FlashSector) : (s.setFlash v).pending = s.pending := rfl

@[simp] theorem State.setBag_clock (v : Bag) : (s.setBag v).clock = s.clock := rfl
@[simp] theorem State.setBag_link (v : Bag) : (s.setBag v).link = s.link := rfl
@[simp] theorem State.setBag_chP (v : Bag) : (s.setBag v).chP = s.chP := rfl
@[simp] theorem State.setBag_chB (v : Bag) : (s.setBag v).chB = s.chB := rfl
@[simp] theorem State.setBag_cal (v : Bag) : (s.setBag v).cal = s.cal := rfl
@[simp] theorem State.setBag_txn (v : Bag) : (s.setBag v).txn = s.txn := rfl
@[simp] theorem State.setBag_pw (v : Bag) : (s.setBag v).pw = s.pw := rfl
@[simp] theorem State.setBag_store (v : Bag) : (s.setBag v).store = s.store := rfl
@[simp] theorem State.setBag_flash (v : Bag) : (s.setBag v).flash = s.flash := rfl
@[simp] theorem State.setBag_bag (v : Bag) : (s.setBag v).bag = v := rfl
@[simp] theorem State.setBag_card (v : Bag) : (s.setBag v).card = s.card := rfl
@[simp] theorem State.setBag_supply (v : Bag) : (s.setBag v).supply = s.supply := rfl
@[simp] theorem State.setBag_drw1 (v : Bag) : (s.setBag v).drw1 = s.drw1 := rfl
@[simp] theorem State.setBag_drw2 (v : Bag) : (s.setBag v).drw2 = s.drw2 := rfl
@[simp] theorem State.setBag_noSale (v : Bag) : (s.setBag v).noSale = s.noSale := rfl
@[simp] theorem State.setBag_prn (v : Bag) : (s.setBag v).prn = s.prn := rfl
@[simp] theorem State.setBag_attn (v : Bag) : (s.setBag v).attn = s.attn := rfl
@[simp] theorem State.setBag_pending (v : Bag) : (s.setBag v).pending = s.pending := rfl

@[simp] theorem State.setCard_clock (v : Card) : (s.setCard v).clock = s.clock := rfl
@[simp] theorem State.setCard_link (v : Card) : (s.setCard v).link = s.link := rfl
@[simp] theorem State.setCard_chP (v : Card) : (s.setCard v).chP = s.chP := rfl
@[simp] theorem State.setCard_chB (v : Card) : (s.setCard v).chB = s.chB := rfl
@[simp] theorem State.setCard_cal (v : Card) : (s.setCard v).cal = s.cal := rfl
@[simp] theorem State.setCard_txn (v : Card) : (s.setCard v).txn = s.txn := rfl
@[simp] theorem State.setCard_pw (v : Card) : (s.setCard v).pw = s.pw := rfl
@[simp] theorem State.setCard_store (v : Card) : (s.setCard v).store = s.store := rfl
@[simp] theorem State.setCard_flash (v : Card) : (s.setCard v).flash = s.flash := rfl
@[simp] theorem State.setCard_bag (v : Card) : (s.setCard v).bag = s.bag := rfl
@[simp] theorem State.setCard_card (v : Card) : (s.setCard v).card = v := rfl
@[simp] theorem State.setCard_supply (v : Card) : (s.setCard v).supply = s.supply := rfl
@[simp] theorem State.setCard_drw1 (v : Card) : (s.setCard v).drw1 = s.drw1 := rfl
@[simp] theorem State.setCard_drw2 (v : Card) : (s.setCard v).drw2 = s.drw2 := rfl
@[simp] theorem State.setCard_noSale (v : Card) : (s.setCard v).noSale = s.noSale := rfl
@[simp] theorem State.setCard_prn (v : Card) : (s.setCard v).prn = s.prn := rfl
@[simp] theorem State.setCard_attn (v : Card) : (s.setCard v).attn = s.attn := rfl
@[simp] theorem State.setCard_pending (v : Card) : (s.setCard v).pending = s.pending := rfl

@[simp] theorem State.setSupply_clock (v : Supply) : (s.setSupply v).clock = s.clock := rfl
@[simp] theorem State.setSupply_link (v : Supply) : (s.setSupply v).link = s.link := rfl
@[simp] theorem State.setSupply_chP (v : Supply) : (s.setSupply v).chP = s.chP := rfl
@[simp] theorem State.setSupply_chB (v : Supply) : (s.setSupply v).chB = s.chB := rfl
@[simp] theorem State.setSupply_cal (v : Supply) : (s.setSupply v).cal = s.cal := rfl
@[simp] theorem State.setSupply_txn (v : Supply) : (s.setSupply v).txn = s.txn := rfl
@[simp] theorem State.setSupply_pw (v : Supply) : (s.setSupply v).pw = s.pw := rfl
@[simp] theorem State.setSupply_store (v : Supply) : (s.setSupply v).store = s.store := rfl
@[simp] theorem State.setSupply_flash (v : Supply) : (s.setSupply v).flash = s.flash := rfl
@[simp] theorem State.setSupply_bag (v : Supply) : (s.setSupply v).bag = s.bag := rfl
@[simp] theorem State.setSupply_card (v : Supply) : (s.setSupply v).card = s.card := rfl
@[simp] theorem State.setSupply_supply (v : Supply) : (s.setSupply v).supply = v := rfl
@[simp] theorem State.setSupply_drw1 (v : Supply) : (s.setSupply v).drw1 = s.drw1 := rfl
@[simp] theorem State.setSupply_drw2 (v : Supply) : (s.setSupply v).drw2 = s.drw2 := rfl
@[simp] theorem State.setSupply_noSale (v : Supply) : (s.setSupply v).noSale = s.noSale := rfl
@[simp] theorem State.setSupply_prn (v : Supply) : (s.setSupply v).prn = s.prn := rfl
@[simp] theorem State.setSupply_attn (v : Supply) : (s.setSupply v).attn = s.attn := rfl
@[simp] theorem State.setSupply_pending (v : Supply) : (s.setSupply v).pending = s.pending := rfl

@[simp] theorem State.setDrw1_clock (v : Drawer) : (s.setDrw1 v).clock = s.clock := rfl
@[simp] theorem State.setDrw1_link (v : Drawer) : (s.setDrw1 v).link = s.link := rfl
@[simp] theorem State.setDrw1_chP (v : Drawer) : (s.setDrw1 v).chP = s.chP := rfl
@[simp] theorem State.setDrw1_chB (v : Drawer) : (s.setDrw1 v).chB = s.chB := rfl
@[simp] theorem State.setDrw1_cal (v : Drawer) : (s.setDrw1 v).cal = s.cal := rfl
@[simp] theorem State.setDrw1_txn (v : Drawer) : (s.setDrw1 v).txn = s.txn := rfl
@[simp] theorem State.setDrw1_pw (v : Drawer) : (s.setDrw1 v).pw = s.pw := rfl
@[simp] theorem State.setDrw1_store (v : Drawer) : (s.setDrw1 v).store = s.store := rfl
@[simp] theorem State.setDrw1_flash (v : Drawer) : (s.setDrw1 v).flash = s.flash := rfl
@[simp] theorem State.setDrw1_bag (v : Drawer) : (s.setDrw1 v).bag = s.bag := rfl
@[simp] theorem State.setDrw1_card (v : Drawer) : (s.setDrw1 v).card = s.card := rfl
@[simp] theorem State.setDrw1_supply (v : Drawer) : (s.setDrw1 v).supply = s.supply := rfl
@[simp] theorem State.setDrw1_drw1 (v : Drawer) : (s.setDrw1 v).drw1 = v := rfl
@[simp] theorem State.setDrw1_drw2 (v : Drawer) : (s.setDrw1 v).drw2 = s.drw2 := rfl
@[simp] theorem State.setDrw1_noSale (v : Drawer) : (s.setDrw1 v).noSale = s.noSale := rfl
@[simp] theorem State.setDrw1_prn (v : Drawer) : (s.setDrw1 v).prn = s.prn := rfl
@[simp] theorem State.setDrw1_attn (v : Drawer) : (s.setDrw1 v).attn = s.attn := rfl
@[simp] theorem State.setDrw1_pending (v : Drawer) : (s.setDrw1 v).pending = s.pending := rfl

@[simp] theorem State.setDrw2_clock (v : Drawer) : (s.setDrw2 v).clock = s.clock := rfl
@[simp] theorem State.setDrw2_link (v : Drawer) : (s.setDrw2 v).link = s.link := rfl
@[simp] theorem State.setDrw2_chP (v : Drawer) : (s.setDrw2 v).chP = s.chP := rfl
@[simp] theorem State.setDrw2_chB (v : Drawer) : (s.setDrw2 v).chB = s.chB := rfl
@[simp] theorem State.setDrw2_cal (v : Drawer) : (s.setDrw2 v).cal = s.cal := rfl
@[simp] theorem State.setDrw2_txn (v : Drawer) : (s.setDrw2 v).txn = s.txn := rfl
@[simp] theorem State.setDrw2_pw (v : Drawer) : (s.setDrw2 v).pw = s.pw := rfl
@[simp] theorem State.setDrw2_store (v : Drawer) : (s.setDrw2 v).store = s.store := rfl
@[simp] theorem State.setDrw2_flash (v : Drawer) : (s.setDrw2 v).flash = s.flash := rfl
@[simp] theorem State.setDrw2_bag (v : Drawer) : (s.setDrw2 v).bag = s.bag := rfl
@[simp] theorem State.setDrw2_card (v : Drawer) : (s.setDrw2 v).card = s.card := rfl
@[simp] theorem State.setDrw2_supply (v : Drawer) : (s.setDrw2 v).supply = s.supply := rfl
@[simp] theorem State.setDrw2_drw1 (v : Drawer) : (s.setDrw2 v).drw1 = s.drw1 := rfl
@[simp] theorem State.setDrw2_drw2 (v : Drawer) : (s.setDrw2 v).drw2 = v := rfl
@[simp] theorem State.setDrw2_noSale (v : Drawer) : (s.setDrw2 v).noSale = s.noSale := rfl
@[simp] theorem State.setDrw2_prn (v : Drawer) : (s.setDrw2 v).prn = s.prn := rfl
@[simp] theorem State.setDrw2_attn (v : Drawer) : (s.setDrw2 v).attn = s.attn := rfl
@[simp] theorem State.setDrw2_pending (v : Drawer) : (s.setDrw2 v).pending = s.pending := rfl

@[simp] theorem State.setNoSale_clock (v : Nat) : (s.setNoSale v).clock = s.clock := rfl
@[simp] theorem State.setNoSale_link (v : Nat) : (s.setNoSale v).link = s.link := rfl
@[simp] theorem State.setNoSale_chP (v : Nat) : (s.setNoSale v).chP = s.chP := rfl
@[simp] theorem State.setNoSale_chB (v : Nat) : (s.setNoSale v).chB = s.chB := rfl
@[simp] theorem State.setNoSale_cal (v : Nat) : (s.setNoSale v).cal = s.cal := rfl
@[simp] theorem State.setNoSale_txn (v : Nat) : (s.setNoSale v).txn = s.txn := rfl
@[simp] theorem State.setNoSale_pw (v : Nat) : (s.setNoSale v).pw = s.pw := rfl
@[simp] theorem State.setNoSale_store (v : Nat) : (s.setNoSale v).store = s.store := rfl
@[simp] theorem State.setNoSale_flash (v : Nat) : (s.setNoSale v).flash = s.flash := rfl
@[simp] theorem State.setNoSale_bag (v : Nat) : (s.setNoSale v).bag = s.bag := rfl
@[simp] theorem State.setNoSale_card (v : Nat) : (s.setNoSale v).card = s.card := rfl
@[simp] theorem State.setNoSale_supply (v : Nat) : (s.setNoSale v).supply = s.supply := rfl
@[simp] theorem State.setNoSale_drw1 (v : Nat) : (s.setNoSale v).drw1 = s.drw1 := rfl
@[simp] theorem State.setNoSale_drw2 (v : Nat) : (s.setNoSale v).drw2 = s.drw2 := rfl
@[simp] theorem State.setNoSale_noSale (v : Nat) : (s.setNoSale v).noSale = v := rfl
@[simp] theorem State.setNoSale_prn (v : Nat) : (s.setNoSale v).prn = s.prn := rfl
@[simp] theorem State.setNoSale_attn (v : Nat) : (s.setNoSale v).attn = s.attn := rfl
@[simp] theorem State.setNoSale_pending (v : Nat) : (s.setNoSale v).pending = s.pending := rfl

@[simp] theorem State.setPrn_clock (v : Printer) : (s.setPrn v).clock = s.clock := rfl
@[simp] theorem State.setPrn_link (v : Printer) : (s.setPrn v).link = s.link := rfl
@[simp] theorem State.setPrn_chP (v : Printer) : (s.setPrn v).chP = s.chP := rfl
@[simp] theorem State.setPrn_chB (v : Printer) : (s.setPrn v).chB = s.chB := rfl
@[simp] theorem State.setPrn_cal (v : Printer) : (s.setPrn v).cal = s.cal := rfl
@[simp] theorem State.setPrn_txn (v : Printer) : (s.setPrn v).txn = s.txn := rfl
@[simp] theorem State.setPrn_pw (v : Printer) : (s.setPrn v).pw = s.pw := rfl
@[simp] theorem State.setPrn_store (v : Printer) : (s.setPrn v).store = s.store := rfl
@[simp] theorem State.setPrn_flash (v : Printer) : (s.setPrn v).flash = s.flash := rfl
@[simp] theorem State.setPrn_bag (v : Printer) : (s.setPrn v).bag = s.bag := rfl
@[simp] theorem State.setPrn_card (v : Printer) : (s.setPrn v).card = s.card := rfl
@[simp] theorem State.setPrn_supply (v : Printer) : (s.setPrn v).supply = s.supply := rfl
@[simp] theorem State.setPrn_drw1 (v : Printer) : (s.setPrn v).drw1 = s.drw1 := rfl
@[simp] theorem State.setPrn_drw2 (v : Printer) : (s.setPrn v).drw2 = s.drw2 := rfl
@[simp] theorem State.setPrn_noSale (v : Printer) : (s.setPrn v).noSale = s.noSale := rfl
@[simp] theorem State.setPrn_prn (v : Printer) : (s.setPrn v).prn = v := rfl
@[simp] theorem State.setPrn_attn (v : Printer) : (s.setPrn v).attn = s.attn := rfl
@[simp] theorem State.setPrn_pending (v : Printer) : (s.setPrn v).pending = s.pending := rfl

@[simp] theorem State.setAttn_clock (v : Attention) : (s.setAttn v).clock = s.clock := rfl
@[simp] theorem State.setAttn_link (v : Attention) : (s.setAttn v).link = s.link := rfl
@[simp] theorem State.setAttn_chP (v : Attention) : (s.setAttn v).chP = s.chP := rfl
@[simp] theorem State.setAttn_chB (v : Attention) : (s.setAttn v).chB = s.chB := rfl
@[simp] theorem State.setAttn_cal (v : Attention) : (s.setAttn v).cal = s.cal := rfl
@[simp] theorem State.setAttn_txn (v : Attention) : (s.setAttn v).txn = s.txn := rfl
@[simp] theorem State.setAttn_pw (v : Attention) : (s.setAttn v).pw = s.pw := rfl
@[simp] theorem State.setAttn_store (v : Attention) : (s.setAttn v).store = s.store := rfl
@[simp] theorem State.setAttn_flash (v : Attention) : (s.setAttn v).flash = s.flash := rfl
@[simp] theorem State.setAttn_bag (v : Attention) : (s.setAttn v).bag = s.bag := rfl
@[simp] theorem State.setAttn_card (v : Attention) : (s.setAttn v).card = s.card := rfl
@[simp] theorem State.setAttn_supply (v : Attention) : (s.setAttn v).supply = s.supply := rfl
@[simp] theorem State.setAttn_drw1 (v : Attention) : (s.setAttn v).drw1 = s.drw1 := rfl
@[simp] theorem State.setAttn_drw2 (v : Attention) : (s.setAttn v).drw2 = s.drw2 := rfl
@[simp] theorem State.setAttn_noSale (v : Attention) : (s.setAttn v).noSale = s.noSale := rfl
@[simp] theorem State.setAttn_prn (v : Attention) : (s.setAttn v).prn = s.prn := rfl
@[simp] theorem State.setAttn_attn (v : Attention) : (s.setAttn v).attn = v := rfl
@[simp] theorem State.setAttn_pending (v : Attention) : (s.setAttn v).pending = s.pending := rfl

/-- Setting one channel keeps everything else. -/
@[simp] theorem State.setCh_keeps (c : Ch) (v : Channel) :
    (s.setCh c v).clock = s.clock ∧ (s.setCh c v).link = s.link ∧ (s.setCh c v).cal = s.cal ∧
    (s.setCh c v).txn = s.txn ∧ (s.setCh c v).pw = s.pw ∧ (s.setCh c v).store = s.store ∧
    (s.setCh c v).flash = s.flash ∧ (s.setCh c v).bag = s.bag ∧ (s.setCh c v).card = s.card ∧
    (s.setCh c v).supply = s.supply ∧ (s.setCh c v).drw1 = s.drw1 ∧ (s.setCh c v).drw2 = s.drw2 ∧
    (s.setCh c v).noSale = s.noSale ∧ (s.setCh c v).prn = s.prn ∧ (s.setCh c v).attn = s.attn ∧
    (s.setCh c v).pending = s.pending := by
  cases c <;> simp [State.setCh]

/-- Setting one drawer port keeps everything else. -/
@[simp] theorem State.setDrw_keeps (p : Port) (v : Drawer) :
    (s.setDrw p v).clock = s.clock ∧ (s.setDrw p v).link = s.link ∧ (s.setDrw p v).chP = s.chP ∧
    (s.setDrw p v).chB = s.chB ∧ (s.setDrw p v).cal = s.cal ∧ (s.setDrw p v).txn = s.txn ∧
    (s.setDrw p v).pw = s.pw ∧ (s.setDrw p v).store = s.store ∧ (s.setDrw p v).flash = s.flash ∧
    (s.setDrw p v).bag = s.bag ∧ (s.setDrw p v).card = s.card ∧ (s.setDrw p v).supply = s.supply ∧
    (s.setDrw p v).noSale = s.noSale ∧ (s.setDrw p v).prn = s.prn ∧ (s.setDrw p v).attn = s.attn ∧
    (s.setDrw p v).pending = s.pending := by
  cases p <;> simp [State.setDrw]

@[simp] theorem State.setCh_ch (c : Ch) (v : Channel) : (s.setCh c v).ch c = v := by cases c <;> rfl
@[simp] theorem State.setCh_ch_other (v : Channel) :
    (s.setCh .p v).ch .b = s.ch .b ∧ (s.setCh .b v).ch .p = s.ch .p := ⟨rfl, rfl⟩
@[simp] theorem State.setDrw_drw (p : Port) (v : Drawer) : (s.setDrw p v).drw p = v := by cases p <;> rfl
@[simp] theorem State.setDrw_drw_other (v : Drawer) :
    (s.setDrw .one v).drw .two = s.drw .two ∧ (s.setDrw .two v).drw .one = s.drw .one := ⟨rfl, rfl⟩

/-- A field of a choice between two states is the choice between the fields. -/
theorem State.ite_fields (p : Prop) [Decidable p] (a b : State) :
    (if p then a else b).clock = (if p then a.clock else b.clock) ∧
    (if p then a else b).link = (if p then a.link else b.link) ∧
    (if p then a else b).chP = (if p then a.chP else b.chP) ∧
    (if p then a else b).chB = (if p then a.chB else b.chB) ∧
    (if p then a else b).cal = (if p then a.cal else b.cal) ∧
    (if p then a else b).txn = (if p then a.txn else b.txn) ∧
    (if p then a else b).pw = (if p then a.pw else b.pw) ∧
    (if p then a else b).store = (if p then a.store else b.store) ∧
    (if p then a else b).flash = (if p then a.flash else b.flash) ∧
    (if p then a else b).bag = (if p then a.bag else b.bag) ∧
    (if p then a else b).card = (if p then a.card else b.card) ∧
    (if p then a else b).supply = (if p then a.supply else b.supply) ∧
    (if p then a else b).drw1 = (if p then a.drw1 else b.drw1) ∧
    (if p then a else b).drw2 = (if p then a.drw2 else b.drw2) ∧
    (if p then a else b).noSale = (if p then a.noSale else b.noSale) ∧
    (if p then a else b).prn = (if p then a.prn else b.prn) ∧
    (if p then a else b).attn = (if p then a.attn else b.attn) ∧
    (if p then a else b).pending = (if p then a.pending else b.pending) := by
  split <;> simp

end Sys2Proof.Machine
end

