-- ==== Sys2Proof/Laws/WeighFrames.lean ====
section
/-! SUPPORT. What the operations of the link, the attention outputs, the channels, the verifier and the transaction context leave as it was: every block of the state that an operation does not name. -/

namespace Sys2Proof.Machine

@[simp] theorem State.atExpiry_keeps (t : Timer) (s : State) :
    (State.atExpiry t s).link = s.link ∧ (State.atExpiry t s).chP = s.chP ∧ (State.atExpiry t s).chB = s.chB ∧
    (State.atExpiry t s).cal = s.cal ∧ (State.atExpiry t s).txn = s.txn ∧ (State.atExpiry t s).pw = s.pw ∧
    (State.atExpiry t s).store = s.store ∧ (State.atExpiry t s).flash = s.flash ∧ (State.atExpiry t s).bag = s.bag ∧
    (State.atExpiry t s).card = s.card ∧ (State.atExpiry t s).supply = s.supply ∧
    (State.atExpiry t s).drw1 = s.drw1 ∧ (State.atExpiry t s).drw2 = s.drw2 ∧
    (State.atExpiry t s).noSale = s.noSale ∧ (State.atExpiry t s).prn = s.prn ∧ (State.atExpiry t s).attn = s.attn ∧
    (State.atExpiry t s).pending = s.pending := by
  simp [State.atExpiry]

@[simp] theorem State.raise_keeps (k : Slot) (body : List Byte) (s : State) :
    (State.raise k body s).clock = s.clock ∧ (State.raise k body s).chP = s.chP ∧
    (State.raise k body s).chB = s.chB ∧ (State.raise k body s).cal = s.cal ∧ (State.raise k body s).txn = s.txn ∧
    (State.raise k body s).pw = s.pw ∧ (State.raise k body s).store = s.store ∧
    (State.raise k body s).flash = s.flash ∧ (State.raise k body s).bag = s.bag ∧
    (State.raise k body s).card = s.card ∧ (State.raise k body s).supply = s.supply ∧
    (State.raise k body s).drw1 = s.drw1 ∧ (State.raise k body s).drw2 = s.drw2 ∧
    (State.raise k body s).noSale = s.noSale ∧ (State.raise k body s).prn = s.prn ∧
    (State.raise k body s).attn = s.attn ∧ (State.raise k body s).pending = s.pending := by
  unfold State.raise
  split <;> simp

@[simp] theorem State.setNotices_keeps (mask : BitVec 10) (weightB : Bool) (s : State) :
    (State.setNotices mask weightB s).clock = s.clock ∧ (State.setNotices mask weightB s).chP = s.chP ∧
    (State.setNotices mask weightB s).chB = s.chB ∧ (State.setNotices mask weightB s).cal = s.cal ∧
    (State.setNotices mask weightB s).txn = s.txn ∧ (State.setNotices mask weightB s).pw = s.pw ∧
    (State.setNotices mask weightB s).store = s.store ∧ (State.setNotices mask weightB s).flash = s.flash ∧
    (State.setNotices mask weightB s).bag = s.bag ∧ (State.setNotices mask weightB s).card = s.card ∧
    (State.setNotices mask weightB s).supply = s.supply ∧ (State.setNotices mask weightB s).drw1 = s.drw1 ∧
    (State.setNotices mask weightB s).drw2 = s.drw2 ∧ (State.setNotices mask weightB s).noSale = s.noSale ∧
    (State.setNotices mask weightB s).prn = s.prn ∧ (State.setNotices mask weightB s).attn = s.attn ∧
    (State.setNotices mask weightB s).pending = s.pending := by
  simp [State.setNotices]

@[simp] theorem State.reservePlace_keeps (s : State) :
    (State.reservePlace s).clock = s.clock ∧ (State.reservePlace s).chP = s.chP ∧
    (State.reservePlace s).chB = s.chB ∧ (State.reservePlace s).cal = s.cal ∧ (State.reservePlace s).txn = s.txn ∧
    (State.reservePlace s).pw = s.pw ∧ (State.reservePlace s).store = s.store ∧
    (State.reservePlace s).flash = s.flash ∧ (State.reservePlace s).bag = s.bag ∧
    (State.reservePlace s).card = s.card ∧ (State.reservePlace s).supply = s.supply ∧
    (State.reservePlace s).drw1 = s.drw1 ∧ (State.reservePlace s).drw2 = s.drw2 ∧
    (State.reservePlace s).noSale = s.noSale ∧ (State.reservePlace s).prn = s.prn ∧
    (State.reservePlace s).attn = s.attn ∧ (State.reservePlace s).pending = s.pending := by
  simp [State.reservePlace]

@[simp] theorem State.pushReply_keeps (f : Frame) (s : State) :
    (State.pushReply f s).clock = s.clock ∧ (State.pushReply f s).chP = s.chP ∧ (State.pushReply f s).chB = s.chB ∧
    (State.pushReply f s).cal = s.cal ∧ (State.pushReply f s).txn = s.txn ∧ (State.pushReply f s).pw = s.pw ∧
    (State.pushReply f s).store = s.store ∧ (State.pushReply f s).flash = s.flash ∧
    (State.pushReply f s).bag = s.bag ∧ (State.pushReply f s).card = s.card ∧
    (State.pushReply f s).supply = s.supply ∧ (State.pushReply f s).drw1 = s.drw1 ∧
    (State.pushReply f s).drw2 = s.drw2 ∧ (State.pushReply f s).noSale = s.noSale ∧
    (State.pushReply f s).prn = s.prn ∧ (State.pushReply f s).attn = s.attn ∧
    (State.pushReply f s).pending = s.pending := by
  simp [State.pushReply]

@[simp] theorem State.reply_keeps (kind : Nat) (tag : Byte) (a : Answer) (s : State) :
    (State.reply kind tag a s).clock = s.clock ∧ (State.reply kind tag a s).chP = s.chP ∧
    (State.reply kind tag a s).chB = s.chB ∧ (State.reply kind tag a s).cal = s.cal ∧
    (State.reply kind tag a s).txn = s.txn ∧ (State.reply kind tag a s).pw = s.pw ∧
    (State.reply kind tag a s).store = s.store ∧ (State.reply kind tag a s).flash = s.flash ∧
    (State.reply kind tag a s).bag = s.bag ∧ (State.reply kind tag a s).card = s.card ∧
    (State.reply kind tag a s).supply = s.supply ∧ (State.reply kind tag a s).drw1 = s.drw1 ∧
    (State.reply kind tag a s).drw2 = s.drw2 ∧ (State.reply kind tag a s).noSale = s.noSale ∧
    (State.reply kind tag a s).prn = s.prn ∧ (State.reply kind tag a s).attn = s.attn ∧
    (State.reply kind tag a s).pending = s.pending := by
  simp [State.reply]

@[simp] theorem State.chooseFrame_keeps (s : State) :
    (State.chooseFrame s).clock = s.clock ∧ (State.chooseFrame s).chP = s.chP ∧ (State.chooseFrame s).chB = s.chB ∧
    (State.chooseFrame s).cal = s.cal ∧ (State.chooseFrame s).txn = s.txn ∧ (State.chooseFrame s).pw = s.pw ∧
    (State.chooseFrame s).store = s.store ∧ (State.chooseFrame s).flash = s.flash ∧
    (State.chooseFrame s).bag = s.bag ∧ (State.chooseFrame s).card = s.card ∧
    (State.chooseFrame s).supply = s.supply ∧ (State.chooseFrame s).drw1 = s.drw1 ∧
    (State.chooseFrame s).drw2 = s.drw2 ∧ (State.chooseFrame s).noSale = s.noSale ∧
    (State.chooseFrame s).prn = s.prn ∧ (State.chooseFrame s).attn = s.attn ∧
    (State.chooseFrame s).pending = s.pending := by
  simp [State.chooseFrame]

@[simp] theorem State.assertSource_keeps (k : SourceName) (s : State) :
    (State.assertSource k s).clock = s.clock ∧ (State.assertSource k s).link = s.link ∧
    (State.assertSource k s).chP = s.chP ∧ (State.assertSource k s).chB = s.chB ∧
    (State.assertSource k s).cal = s.cal ∧ (State.assertSource k s).txn = s.txn ∧
    (State.assertSource k s).pw = s.pw ∧ (State.assertSource k s).store = s.store ∧
    (State.assertSource k s).flash = s.flash ∧ (State.assertSource k s).bag = s.bag ∧
    (State.assertSource k s).card = s.card ∧ (State.assertSource k s).supply = s.supply ∧
    (State.assertSource k s).drw1 = s.drw1 ∧ (State.assertSource k s).drw2 = s.drw2 ∧
    (State.assertSource k s).noSale = s.noSale ∧ (State.assertSource k s).prn = s.prn ∧
    (State.assertSource k s).pending = s.pending := by
  simp [State.assertSource]

@[simp] theorem State.endSource_keeps (k : SourceName) (s : State) :
    (State.endSource k s).clock = s.clock ∧ (State.endSource k s).link = s.link ∧
    (State.endSource k s).chP = s.chP ∧ (State.endSource k s).chB = s.chB ∧ (State.endSource k s).cal = s.cal ∧
    (State.endSource k s).txn = s.txn ∧ (State.endSource k s).pw = s.pw ∧ (State.endSource k s).store = s.store ∧
    (State.endSource k s).flash = s.flash ∧ (State.endSource k s).bag = s.bag ∧
    (State.endSource k s).card = s.card ∧ (State.endSource k s).supply = s.supply ∧
    (State.endSource k s).drw1 = s.drw1 ∧ (State.endSource k s).drw2 = s.drw2 ∧
    (State.endSource k s).noSale = s.noSale ∧ (State.endSource k s).prn = s.prn ∧
    (State.endSource k s).pending = s.pending := by
  simp [State.endSource]

@[simp] theorem State.releaseSource_keeps (k : SourceName) (stillAsserted : Bool) (s : State) :
    (State.releaseSource k stillAsserted s).clock = s.clock ∧
    (State.releaseSource k stillAsserted s).link = s.link ∧ (State.releaseSource k stillAsserted s).chP = s.chP ∧
    (State.releaseSource k stillAsserted s).chB = s.chB ∧ (State.releaseSource k stillAsserted s).cal = s.cal ∧
    (State.releaseSource k stillAsserted s).txn = s.txn ∧ (State.releaseSource k stillAsserted s).pw = s.pw ∧
    (State.releaseSource k stillAsserted s).store = s.store ∧
    (State.releaseSource k stillAsserted s).flash = s.flash ∧ (State.releaseSource k stillAsserted s).bag = s.bag ∧
    (State.releaseSource k stillAsserted s).card = s.card ∧
    (State.releaseSource k stillAsserted s).supply = s.supply ∧
    (State.releaseSource k stillAsserted s).drw1 = s.drw1 ∧ (State.releaseSource k stillAsserted s).drw2 = s.drw2 ∧
    (State.releaseSource k stillAsserted s).noSale = s.noSale ∧
    (State.releaseSource k stillAsserted s).prn = s.prn ∧
    (State.releaseSource k stillAsserted s).pending = s.pending := by
  unfold State.releaseSource
  split <;> simp

@[simp] theorem reqAttnSilence_keeps (s : State) :
    (reqAttnSilence s).1.clock = s.clock ∧ (reqAttnSilence s).1.link = s.link ∧ (reqAttnSilence s).1.chP = s.chP ∧
    (reqAttnSilence s).1.chB = s.chB ∧ (reqAttnSilence s).1.cal = s.cal ∧ (reqAttnSilence s).1.txn = s.txn ∧
    (reqAttnSilence s).1.pw = s.pw ∧ (reqAttnSilence s).1.store = s.store ∧ (reqAttnSilence s).1.flash = s.flash ∧
    (reqAttnSilence s).1.bag = s.bag ∧ (reqAttnSilence s).1.card = s.card ∧ (reqAttnSilence s).1.supply = s.supply ∧
    (reqAttnSilence s).1.drw1 = s.drw1 ∧ (reqAttnSilence s).1.drw2 = s.drw2 ∧
    (reqAttnSilence s).1.noSale = s.noSale ∧ (reqAttnSilence s).1.prn = s.prn ∧
    (reqAttnSilence s).1.pending = s.pending := by
  simp [reqAttnSilence]

@[simp] theorem reqAttnBeep_keeps (count pitch : Nat) (s : State) :
    (reqAttnBeep count pitch s).1.clock = s.clock ∧ (reqAttnBeep count pitch s).1.link = s.link ∧
    (reqAttnBeep count pitch s).1.chP = s.chP ∧ (reqAttnBeep count pitch s).1.chB = s.chB ∧
    (reqAttnBeep count pitch s).1.cal = s.cal ∧ (reqAttnBeep count pitch s).1.txn = s.txn ∧
    (reqAttnBeep count pitch s).1.pw = s.pw ∧ (reqAttnBeep count pitch s).1.store = s.store ∧
    (reqAttnBeep count pitch s).1.flash = s.flash ∧ (reqAttnBeep count pitch s).1.bag = s.bag ∧
    (reqAttnBeep count pitch s).1.card = s.card ∧ (reqAttnBeep count pitch s).1.supply = s.supply ∧
    (reqAttnBeep count pitch s).1.drw1 = s.drw1 ∧ (reqAttnBeep count pitch s).1.drw2 = s.drw2 ∧
    (reqAttnBeep count pitch s).1.noSale = s.noSale ∧ (reqAttnBeep count pitch s).1.prn = s.prn ∧
    (reqAttnBeep count pitch s).1.pending = s.pending := by
  unfold reqAttnBeep
  split <;> simp

@[simp] theorem State.endBeep_keeps (s : State) :
    (State.endBeep s).clock = s.clock ∧ (State.endBeep s).link = s.link ∧ (State.endBeep s).chP = s.chP ∧
    (State.endBeep s).chB = s.chB ∧ (State.endBeep s).cal = s.cal ∧ (State.endBeep s).txn = s.txn ∧
    (State.endBeep s).pw = s.pw ∧ (State.endBeep s).store = s.store ∧ (State.endBeep s).flash = s.flash ∧
    (State.endBeep s).bag = s.bag ∧ (State.endBeep s).card = s.card ∧ (State.endBeep s).supply = s.supply ∧
    (State.endBeep s).drw1 = s.drw1 ∧ (State.endBeep s).drw2 = s.drw2 ∧ (State.endBeep s).noSale = s.noSale ∧
    (State.endBeep s).prn = s.prn ∧ (State.endBeep s).pending = s.pending := by
  simp [State.endBeep]

@[simp] theorem State.pulseAccept_keeps (s : State) :
    (State.pulseAccept s).clock = s.clock ∧ (State.pulseAccept s).link = s.link ∧
    (State.pulseAccept s).chP = s.chP ∧ (State.pulseAccept s).chB = s.chB ∧ (State.pulseAccept s).cal = s.cal ∧
    (State.pulseAccept s).txn = s.txn ∧ (State.pulseAccept s).pw = s.pw ∧ (State.pulseAccept s).store = s.store ∧
    (State.pulseAccept s).flash = s.flash ∧ (State.pulseAccept s).bag = s.bag ∧
    (State.pulseAccept s).card = s.card ∧ (State.pulseAccept s).supply = s.supply ∧
    (State.pulseAccept s).drw1 = s.drw1 ∧ (State.pulseAccept s).drw2 = s.drw2 ∧
    (State.pulseAccept s).noSale = s.noSale ∧ (State.pulseAccept s).prn = s.prn ∧
    (State.pulseAccept s).pending = s.pending := by
  simp [State.pulseAccept]

@[simp] theorem evHostBeepEnd_keeps (s : State) :
    (evHostBeepEnd s).link = s.link ∧ (evHostBeepEnd s).chP = s.chP ∧ (evHostBeepEnd s).chB = s.chB ∧
    (evHostBeepEnd s).cal = s.cal ∧ (evHostBeepEnd s).txn = s.txn ∧ (evHostBeepEnd s).pw = s.pw ∧
    (evHostBeepEnd s).store = s.store ∧ (evHostBeepEnd s).flash = s.flash ∧ (evHostBeepEnd s).bag = s.bag ∧
    (evHostBeepEnd s).card = s.card ∧ (evHostBeepEnd s).supply = s.supply ∧ (evHostBeepEnd s).drw1 = s.drw1 ∧
    (evHostBeepEnd s).drw2 = s.drw2 ∧ (evHostBeepEnd s).noSale = s.noSale ∧ (evHostBeepEnd s).prn = s.prn ∧
    (evHostBeepEnd s).pending = s.pending := by
  unfold evHostBeepEnd
  split <;> simp

@[simp] theorem evAcceptEnd_keeps (s : State) :
    (evAcceptEnd s).link = s.link ∧ (evAcceptEnd s).chP = s.chP ∧ (evAcceptEnd s).chB = s.chB ∧
    (evAcceptEnd s).cal = s.cal ∧ (evAcceptEnd s).txn = s.txn ∧ (evAcceptEnd s).pw = s.pw ∧
    (evAcceptEnd s).store = s.store ∧ (evAcceptEnd s).flash = s.flash ∧ (evAcceptEnd s).bag = s.bag ∧
    (evAcceptEnd s).card = s.card ∧ (evAcceptEnd s).supply = s.supply ∧ (evAcceptEnd s).drw1 = s.drw1 ∧
    (evAcceptEnd s).drw2 = s.drw2 ∧ (evAcceptEnd s).noSale = s.noSale ∧ (evAcceptEnd s).prn = s.prn ∧
    (evAcceptEnd s).pending = s.pending := by
  unfold evAcceptEnd
  split <;> simp

@[simp] theorem State.raiseWeight_keeps (c : Ch) (s : State) :
    (State.raiseWeight c s).clock = s.clock ∧ (State.raiseWeight c s).cal = s.cal ∧
    (State.raiseWeight c s).txn = s.txn ∧ (State.raiseWeight c s).pw = s.pw ∧
    (State.raiseWeight c s).store = s.store ∧ (State.raiseWeight c s).flash = s.flash ∧
    (State.raiseWeight c s).bag = s.bag ∧ (State.raiseWeight c s).card = s.card ∧
    (State.raiseWeight c s).supply = s.supply ∧ (State.raiseWeight c s).drw1 = s.drw1 ∧
    (State.raiseWeight c s).drw2 = s.drw2 ∧ (State.raiseWeight c s).noSale = s.noSale ∧
    (State.raiseWeight c s).prn = s.prn ∧ (State.raiseWeight c s).attn = s.attn ∧
    (State.raiseWeight c s).pending = s.pending := by
  simp [State.raiseWeight, State.ite_fields]

@[simp] theorem State.setTare_keeps (mg : Int) (s : State) :
    (State.setTare mg s).clock = s.clock ∧ (State.setTare mg s).cal = s.cal ∧ (State.setTare mg s).txn = s.txn ∧
    (State.setTare mg s).store = s.store ∧ (State.setTare mg s).flash = s.flash ∧ (State.setTare mg s).bag = s.bag ∧
    (State.setTare mg s).card = s.card ∧ (State.setTare mg s).supply = s.supply ∧
    (State.setTare mg s).drw1 = s.drw1 ∧ (State.setTare mg s).drw2 = s.drw2 ∧
    (State.setTare mg s).noSale = s.noSale ∧ (State.setTare mg s).prn = s.prn ∧ (State.setTare mg s).attn = s.attn ∧
    (State.setTare mg s).pending = s.pending := by
  unfold State.setTare; split <;> simp

@[simp] theorem State.moveChannel_keeps (c : Ch) (target : ChState) (nChanged : Bool) (s : State) :
    (State.moveChannel c target nChanged s).clock = s.clock ∧ (State.moveChannel c target nChanged s).cal = s.cal ∧
    (State.moveChannel c target nChanged s).txn = s.txn ∧ (State.moveChannel c target nChanged s).store = s.store ∧
    (State.moveChannel c target nChanged s).flash = s.flash ∧ (State.moveChannel c target nChanged s).bag = s.bag ∧
    (State.moveChannel c target nChanged s).card = s.card ∧
    (State.moveChannel c target nChanged s).supply = s.supply ∧
    (State.moveChannel c target nChanged s).drw1 = s.drw1 ∧ (State.moveChannel c target nChanged s).drw2 = s.drw2 ∧
    (State.moveChannel c target nChanged s).noSale = s.noSale ∧
    (State.moveChannel c target nChanged s).prn = s.prn ∧ (State.moveChannel c target nChanged s).attn = s.attn ∧
    (State.moveChannel c target nChanged s).pending = s.pending := by
  unfold State.moveChannel
  split <;> dsimp only <;> split <;> simp

@[simp] theorem reqWeightGet_keeps (c : Ch) (s : State) :
    (reqWeightGet c s).1.clock = s.clock ∧ (reqWeightGet c s).1.link = s.link ∧ (reqWeightGet c s).1.chP = s.chP ∧
    (reqWeightGet c s).1.chB = s.chB ∧ (reqWeightGet c s).1.cal = s.cal ∧ (reqWeightGet c s).1.txn = s.txn ∧
    (reqWeightGet c s).1.pw = s.pw ∧ (reqWeightGet c s).1.store = s.store ∧ (reqWeightGet c s).1.flash = s.flash ∧
    (reqWeightGet c s).1.bag = s.bag ∧ (reqWeightGet c s).1.card = s.card ∧ (reqWeightGet c s).1.supply = s.supply ∧
    (reqWeightGet c s).1.drw1 = s.drw1 ∧ (reqWeightGet c s).1.drw2 = s.drw2 ∧
    (reqWeightGet c s).1.noSale = s.noSale ∧ (reqWeightGet c s).1.prn = s.prn ∧ (reqWeightGet c s).1.attn = s.attn ∧
    (reqWeightGet c s).1.pending = s.pending := by
  simp [reqWeightGet]

@[simp] theorem reqZero_keeps (c : Ch) (s : State) :
    (reqZero c s).1.clock = s.clock ∧ (reqZero c s).1.cal = s.cal ∧ (reqZero c s).1.txn = s.txn ∧
    (reqZero c s).1.pw = s.pw ∧ (reqZero c s).1.store = s.store ∧ (reqZero c s).1.flash = s.flash ∧
    (reqZero c s).1.bag = s.bag ∧ (reqZero c s).1.card = s.card ∧ (reqZero c s).1.supply = s.supply ∧
    (reqZero c s).1.drw1 = s.drw1 ∧ (reqZero c s).1.drw2 = s.drw2 ∧ (reqZero c s).1.noSale = s.noSale ∧
    (reqZero c s).1.prn = s.prn ∧ (reqZero c s).1.attn = s.attn ∧ (reqZero c s).1.pending = s.pending := by
  simp only [reqZero]
  (repeat' split) <;> simp

@[simp] theorem tareSemi_keeps (s : State) :
    (tareSemi s).1.clock = s.clock ∧ (tareSemi s).1.cal = s.cal ∧ (tareSemi s).1.txn = s.txn ∧
    (tareSemi s).1.store = s.store ∧ (tareSemi s).1.flash = s.flash ∧ (tareSemi s).1.bag = s.bag ∧
    (tareSemi s).1.card = s.card ∧ (tareSemi s).1.supply = s.supply ∧ (tareSemi s).1.drw1 = s.drw1 ∧
    (tareSemi s).1.drw2 = s.drw2 ∧ (tareSemi s).1.noSale = s.noSale ∧ (tareSemi s).1.prn = s.prn ∧
    (tareSemi s).1.attn = s.attn ∧ (tareSemi s).1.pending = s.pending := by
  simp only [tareSemi]
  (repeat' split) <;> simp

@[simp] theorem tarePreset_keeps (value : Int) (s : State) :
    (tarePreset value s).1.clock = s.clock ∧ (tarePreset value s).1.cal = s.cal ∧
    (tarePreset value s).1.txn = s.txn ∧ (tarePreset value s).1.store = s.store ∧
    (tarePreset value s).1.flash = s.flash ∧ (tarePreset value s).1.bag = s.bag ∧
    (tarePreset value s).1.card = s.card ∧ (tarePreset value s).1.supply = s.supply ∧
    (tarePreset value s).1.drw1 = s.drw1 ∧ (tarePreset value s).1.drw2 = s.drw2 ∧
    (tarePreset value s).1.noSale = s.noSale ∧ (tarePreset value s).1.prn = s.prn ∧
    (tarePreset value s).1.attn = s.attn ∧ (tarePreset value s).1.pending = s.pending := by
  unfold tarePreset
  (repeat' split) <;> simp

@[simp] theorem tareClear_keeps (s : State) :
    (tareClear s).1.clock = s.clock ∧ (tareClear s).1.cal = s.cal ∧ (tareClear s).1.txn = s.txn ∧
    (tareClear s).1.store = s.store ∧ (tareClear s).1.flash = s.flash ∧ (tareClear s).1.bag = s.bag ∧
    (tareClear s).1.card = s.card ∧ (tareClear s).1.supply = s.supply ∧ (tareClear s).1.drw1 = s.drw1 ∧
    (tareClear s).1.drw2 = s.drw2 ∧ (tareClear s).1.noSale = s.noSale ∧ (tareClear s).1.prn = s.prn ∧
    (tareClear s).1.attn = s.attn ∧ (tareClear s).1.pending = s.pending := by
  unfold tareClear
  split <;> simp

@[simp] theorem reqTare_keeps (action : Nat) (value : Int) (s : State) :
    (reqTare action value s).1.clock = s.clock ∧ (reqTare action value s).1.cal = s.cal ∧
    (reqTare action value s).1.txn = s.txn ∧ (reqTare action value s).1.store = s.store ∧
    (reqTare action value s).1.flash = s.flash ∧ (reqTare action value s).1.bag = s.bag ∧
    (reqTare action value s).1.card = s.card ∧ (reqTare action value s).1.supply = s.supply ∧
    (reqTare action value s).1.drw1 = s.drw1 ∧ (reqTare action value s).1.drw2 = s.drw2 ∧
    (reqTare action value s).1.noSale = s.noSale ∧ (reqTare action value s).1.prn = s.prn ∧
    (reqTare action value s).1.attn = s.attn ∧ (reqTare action value s).1.pending = s.pending := by
  unfold reqTare
  split <;> simp

@[simp] theorem State.convert_keeps (c : Ch) (r : Int) (s : State) :
    (State.convert c r s).clock = s.clock ∧ (State.convert c r s).link = s.link ∧
    (State.convert c r s).cal = s.cal ∧ (State.convert c r s).txn = s.txn ∧ (State.convert c r s).pw = s.pw ∧
    (State.convert c r s).store = s.store ∧ (State.convert c r s).flash = s.flash ∧
    (State.convert c r s).bag = s.bag ∧ (State.convert c r s).card = s.card ∧
    (State.convert c r s).supply = s.supply ∧ (State.convert c r s).drw1 = s.drw1 ∧
    (State.convert c r s).drw2 = s.drw2 ∧ (State.convert c r s).noSale = s.noSale ∧
    (State.convert c r s).prn = s.prn ∧ (State.convert c r s).attn = s.attn ∧
    (State.convert c r s).pending = s.pending := by
  simp [State.convert]

@[simp] theorem State.enterFault_keeps (c : Ch) (s : State) :
    (State.enterFault c s).clock = s.clock ∧ (State.enterFault c s).cal = s.cal ∧
    (State.enterFault c s).txn = s.txn ∧ (State.enterFault c s).pw = s.pw ∧ (State.enterFault c s).store = s.store ∧
    (State.enterFault c s).flash = s.flash ∧ (State.enterFault c s).bag = s.bag ∧
    (State.enterFault c s).card = s.card ∧ (State.enterFault c s).supply = s.supply ∧
    (State.enterFault c s).drw1 = s.drw1 ∧ (State.enterFault c s).drw2 = s.drw2 ∧
    (State.enterFault c s).noSale = s.noSale ∧ (State.enterFault c s).prn = s.prn ∧
    (State.enterFault c s).attn = s.attn ∧ (State.enterFault c s).pending = s.pending := by
  simp [State.enterFault]

@[simp] theorem State.trackZero_keeps (c : Ch) (s : State) :
    (State.trackZero c s).clock = s.clock ∧ (State.trackZero c s).cal = s.cal ∧ (State.trackZero c s).txn = s.txn ∧
    (State.trackZero c s).pw = s.pw ∧ (State.trackZero c s).store = s.store ∧
    (State.trackZero c s).flash = s.flash ∧ (State.trackZero c s).bag = s.bag ∧
    (State.trackZero c s).card = s.card ∧ (State.trackZero c s).supply = s.supply ∧
    (State.trackZero c s).drw1 = s.drw1 ∧ (State.trackZero c s).drw2 = s.drw2 ∧
    (State.trackZero c s).noSale = s.noSale ∧ (State.trackZero c s).prn = s.prn ∧
    (State.trackZero c s).attn = s.attn ∧ (State.trackZero c s).pending = s.pending := by
  simp [State.trackZero]

@[simp] theorem evTrackingStep_keeps (c : Ch) (s : State) :
    (evTrackingStep c s).cal = s.cal ∧ (evTrackingStep c s).txn = s.txn ∧ (evTrackingStep c s).pw = s.pw ∧
    (evTrackingStep c s).store = s.store ∧ (evTrackingStep c s).flash = s.flash ∧ (evTrackingStep c s).bag = s.bag ∧
    (evTrackingStep c s).card = s.card ∧ (evTrackingStep c s).supply = s.supply ∧
    (evTrackingStep c s).drw1 = s.drw1 ∧ (evTrackingStep c s).drw2 = s.drw2 ∧
    (evTrackingStep c s).noSale = s.noSale ∧ (evTrackingStep c s).prn = s.prn ∧ (evTrackingStep c s).attn = s.attn ∧
    (evTrackingStep c s).pending = s.pending := by
  unfold evTrackingStep
  split <;> simp

@[simp] theorem State.addBagSkip_keeps (n : Nat) (s : State) :
    (State.addBagSkip n s).clock = s.clock ∧ (State.addBagSkip n s).link = s.link ∧
    (State.addBagSkip n s).chP = s.chP ∧ (State.addBagSkip n s).chB = s.chB ∧ (State.addBagSkip n s).cal = s.cal ∧
    (State.addBagSkip n s).pw = s.pw ∧ (State.addBagSkip n s).store = s.store ∧
    (State.addBagSkip n s).flash = s.flash ∧ (State.addBagSkip n s).bag = s.bag ∧
    (State.addBagSkip n s).card = s.card ∧ (State.addBagSkip n s).supply = s.supply ∧
    (State.addBagSkip n s).drw1 = s.drw1 ∧ (State.addBagSkip n s).drw2 = s.drw2 ∧
    (State.addBagSkip n s).noSale = s.noSale ∧ (State.addBagSkip n s).prn = s.prn ∧
    (State.addBagSkip n s).attn = s.attn ∧ (State.addBagSkip n s).pending = s.pending := by
  simp [State.addBagSkip]

@[simp] theorem State.raiseBag_keeps (s : State) :
    (State.raiseBag s).clock = s.clock ∧ (State.raiseBag s).chP = s.chP ∧ (State.raiseBag s).chB = s.chB ∧
    (State.raiseBag s).cal = s.cal ∧ (State.raiseBag s).txn = s.txn ∧ (State.raiseBag s).pw = s.pw ∧
    (State.raiseBag s).store = s.store ∧ (State.raiseBag s).flash = s.flash ∧ (State.raiseBag s).bag = s.bag ∧
    (State.raiseBag s).card = s.card ∧ (State.raiseBag s).supply = s.supply ∧ (State.raiseBag s).drw1 = s.drw1 ∧
    (State.raiseBag s).drw2 = s.drw2 ∧ (State.raiseBag s).noSale = s.noSale ∧ (State.raiseBag s).prn = s.prn ∧
    (State.raiseBag s).attn = s.attn ∧ (State.raiseBag s).pending = s.pending := by
  simp [State.raiseBag]

@[simp] theorem State.beginHold_keeps (kind : ExceptionKind) (delta : Int) (ref held : Option Nat) (s : State) :
    (State.beginHold kind delta ref held s).clock = s.clock ∧
    (State.beginHold kind delta ref held s).link = s.link ∧ (State.beginHold kind delta ref held s).chP = s.chP ∧
    (State.beginHold kind delta ref held s).chB = s.chB ∧ (State.beginHold kind delta ref held s).cal = s.cal ∧
    (State.beginHold kind delta ref held s).txn = s.txn ∧ (State.beginHold kind delta ref held s).pw = s.pw ∧
    (State.beginHold kind delta ref held s).store = s.store ∧
    (State.beginHold kind delta ref held s).flash = s.flash ∧
    (State.beginHold kind delta ref held s).card = s.card ∧
    (State.beginHold kind delta ref held s).supply = s.supply ∧
    (State.beginHold kind delta ref held s).drw1 = s.drw1 ∧ (State.beginHold kind delta ref held s).drw2 = s.drw2 ∧
    (State.beginHold kind delta ref held s).noSale = s.noSale ∧
    (State.beginHold kind delta ref held s).prn = s.prn ∧
    (State.beginHold kind delta ref held s).pending = s.pending := by
  simp [State.beginHold, State.ite_fields]

@[simp] theorem State.holdNotPlaced_keeps (at_ : Nat) (s : State) :
    (State.holdNotPlaced at_ s).clock = s.clock ∧ (State.holdNotPlaced at_ s).link = s.link ∧
    (State.holdNotPlaced at_ s).chP = s.chP ∧ (State.holdNotPlaced at_ s).chB = s.chB ∧
    (State.holdNotPlaced at_ s).cal = s.cal ∧ (State.holdNotPlaced at_ s).txn = s.txn ∧
    (State.holdNotPlaced at_ s).pw = s.pw ∧ (State.holdNotPlaced at_ s).store = s.store ∧
    (State.holdNotPlaced at_ s).flash = s.flash ∧ (State.holdNotPlaced at_ s).card = s.card ∧
    (State.holdNotPlaced at_ s).supply = s.supply ∧ (State.holdNotPlaced at_ s).drw1 = s.drw1 ∧
    (State.holdNotPlaced at_ s).drw2 = s.drw2 ∧ (State.holdNotPlaced at_ s).noSale = s.noSale ∧
    (State.holdNotPlaced at_ s).prn = s.prn ∧ (State.holdNotPlaced at_ s).pending = s.pending := by
  simp [State.holdNotPlaced]

@[simp] theorem State.clearHold_keeps (s : State) :
    (State.clearHold s).clock = s.clock ∧ (State.clearHold s).link = s.link ∧ (State.clearHold s).chP = s.chP ∧
    (State.clearHold s).chB = s.chB ∧ (State.clearHold s).cal = s.cal ∧ (State.clearHold s).txn = s.txn ∧
    (State.clearHold s).pw = s.pw ∧ (State.clearHold s).store = s.store ∧ (State.clearHold s).flash = s.flash ∧
    (State.clearHold s).card = s.card ∧ (State.clearHold s).supply = s.supply ∧ (State.clearHold s).drw1 = s.drw1 ∧
    (State.clearHold s).drw2 = s.drw2 ∧ (State.clearHold s).noSale = s.noSale ∧ (State.clearHold s).prn = s.prn ∧
    (State.clearHold s).pending = s.pending := by
  simp only [State.clearHold]
  (repeat' split) <;> simp

@[simp] theorem State.chirp_keeps (s : State) :
    (State.chirp s).clock = s.clock ∧ (State.chirp s).link = s.link ∧ (State.chirp s).chP = s.chP ∧
    (State.chirp s).chB = s.chB ∧ (State.chirp s).cal = s.cal ∧ (State.chirp s).txn = s.txn ∧
    (State.chirp s).pw = s.pw ∧ (State.chirp s).store = s.store ∧ (State.chirp s).flash = s.flash ∧
    (State.chirp s).bag = s.bag ∧ (State.chirp s).card = s.card ∧ (State.chirp s).supply = s.supply ∧
    (State.chirp s).drw1 = s.drw1 ∧ (State.chirp s).drw2 = s.drw2 ∧ (State.chirp s).noSale = s.noSale ∧
    (State.chirp s).prn = s.prn ∧ (State.chirp s).pending = s.pending := by
  unfold State.chirp
  split <;> simp

@[simp] theorem State.acceptIncrease_keeps (at_ : List Nat) (gross : Int) (s : State) :
    (State.acceptIncrease at_ gross s).clock = s.clock ∧ (State.acceptIncrease at_ gross s).link = s.link ∧
    (State.acceptIncrease at_ gross s).chP = s.chP ∧ (State.acceptIncrease at_ gross s).chB = s.chB ∧
    (State.acceptIncrease at_ gross s).cal = s.cal ∧ (State.acceptIncrease at_ gross s).txn = s.txn ∧
    (State.acceptIncrease at_ gross s).pw = s.pw ∧ (State.acceptIncrease at_ gross s).store = s.store ∧
    (State.acceptIncrease at_ gross s).flash = s.flash ∧ (State.acceptIncrease at_ gross s).card = s.card ∧
    (State.acceptIncrease at_ gross s).supply = s.supply ∧ (State.acceptIncrease at_ gross s).drw1 = s.drw1 ∧
    (State.acceptIncrease at_ gross s).drw2 = s.drw2 ∧ (State.acceptIncrease at_ gross s).noSale = s.noSale ∧
    (State.acceptIncrease at_ gross s).prn = s.prn ∧ (State.acceptIncrease at_ gross s).pending = s.pending := by
  simp [State.acceptIncrease]

@[simp] theorem State.decrease_keeps (d gross : Int) (s : State) :
    (State.decrease d gross s).clock = s.clock ∧ (State.decrease d gross s).link = s.link ∧
    (State.decrease d gross s).chP = s.chP ∧ (State.decrease d gross s).chB = s.chB ∧
    (State.decrease d gross s).cal = s.cal ∧ (State.decrease d gross s).txn = s.txn ∧
    (State.decrease d gross s).pw = s.pw ∧ (State.decrease d gross s).store = s.store ∧
    (State.decrease d gross s).flash = s.flash ∧ (State.decrease d gross s).card = s.card ∧
    (State.decrease d gross s).supply = s.supply ∧ (State.decrease d gross s).drw1 = s.drw1 ∧
    (State.decrease d gross s).drw2 = s.drw2 ∧ (State.decrease d gross s).noSale = s.noSale ∧
    (State.decrease d gross s).prn = s.prn ∧ (State.decrease d gross s).pending = s.pending := by
  unfold State.decrease
  split <;> simp

@[simp] theorem State.watch_keeps (r : Report) (s : State) :
    (State.watch r s).clock = s.clock ∧ (State.watch r s).link = s.link ∧ (State.watch r s).chP = s.chP ∧
    (State.watch r s).chB = s.chB ∧ (State.watch r s).cal = s.cal ∧ (State.watch r s).txn = s.txn ∧
    (State.watch r s).pw = s.pw ∧ (State.watch r s).store = s.store ∧ (State.watch r s).flash = s.flash ∧
    (State.watch r s).card = s.card ∧ (State.watch r s).supply = s.supply ∧ (State.watch r s).drw1 = s.drw1 ∧
    (State.watch r s).drw2 = s.drw2 ∧ (State.watch r s).noSale = s.noSale ∧ (State.watch r s).prn = s.prn ∧
    (State.watch r s).pending = s.pending := by
  simp only [State.watch]
  (repeat' split) <;> simp

@[simp] theorem State.watchHold_keeps (r : Report) (s : State) :
    (State.watchHold r s).clock = s.clock ∧ (State.watchHold r s).link = s.link ∧
    (State.watchHold r s).chP = s.chP ∧ (State.watchHold r s).chB = s.chB ∧ (State.watchHold r s).cal = s.cal ∧
    (State.watchHold r s).txn = s.txn ∧ (State.watchHold r s).pw = s.pw ∧ (State.watchHold r s).store = s.store ∧
    (State.watchHold r s).flash = s.flash ∧ (State.watchHold r s).card = s.card ∧
    (State.watchHold r s).supply = s.supply ∧ (State.watchHold r s).drw1 = s.drw1 ∧
    (State.watchHold r s).drw2 = s.drw2 ∧ (State.watchHold r s).noSale = s.noSale ∧
    (State.watchHold r s).prn = s.prn ∧ (State.watchHold r s).pending = s.pending := by
  simp only [State.watchHold]
  (repeat' split) <;> simp

@[simp] theorem State.bagReading_keeps (s : State) :
    (State.bagReading s).clock = s.clock ∧ (State.bagReading s).link = s.link ∧ (State.bagReading s).chP = s.chP ∧
    (State.bagReading s).chB = s.chB ∧ (State.bagReading s).cal = s.cal ∧ (State.bagReading s).txn = s.txn ∧
    (State.bagReading s).pw = s.pw ∧ (State.bagReading s).store = s.store ∧ (State.bagReading s).flash = s.flash ∧
    (State.bagReading s).card = s.card ∧ (State.bagReading s).supply = s.supply ∧
    (State.bagReading s).drw1 = s.drw1 ∧ (State.bagReading s).drw2 = s.drw2 ∧
    (State.bagReading s).noSale = s.noSale ∧ (State.bagReading s).prn = s.prn ∧
    (State.bagReading s).pending = s.pending := by
  unfold State.bagReading
  split <;> simp

@[simp] theorem State.bagFault_keeps (s : State) :
    (State.bagFault s).clock = s.clock ∧ (State.bagFault s).link = s.link ∧ (State.bagFault s).chP = s.chP ∧
    (State.bagFault s).chB = s.chB ∧ (State.bagFault s).cal = s.cal ∧ (State.bagFault s).txn = s.txn ∧
    (State.bagFault s).pw = s.pw ∧ (State.bagFault s).store = s.store ∧ (State.bagFault s).flash = s.flash ∧
    (State.bagFault s).card = s.card ∧ (State.bagFault s).supply = s.supply ∧ (State.bagFault s).drw1 = s.drw1 ∧
    (State.bagFault s).drw2 = s.drw2 ∧ (State.bagFault s).noSale = s.noSale ∧ (State.bagFault s).prn = s.prn ∧
    (State.bagFault s).pending = s.pending := by
  unfold State.bagFault
  split <;> simp

@[simp] theorem State.bagFaultEnd_keeps (s : State) :
    (State.bagFaultEnd s).clock = s.clock ∧ (State.bagFaultEnd s).link = s.link ∧
    (State.bagFaultEnd s).chP = s.chP ∧ (State.bagFaultEnd s).chB = s.chB ∧ (State.bagFaultEnd s).cal = s.cal ∧
    (State.bagFaultEnd s).txn = s.txn ∧ (State.bagFaultEnd s).pw = s.pw ∧ (State.bagFaultEnd s).store = s.store ∧
    (State.bagFaultEnd s).flash = s.flash ∧ (State.bagFaultEnd s).card = s.card ∧
    (State.bagFaultEnd s).supply = s.supply ∧ (State.bagFaultEnd s).drw1 = s.drw1 ∧
    (State.bagFaultEnd s).drw2 = s.drw2 ∧ (State.bagFaultEnd s).noSale = s.noSale ∧
    (State.bagFaultEnd s).prn = s.prn ∧ (State.bagFaultEnd s).pending = s.pending := by
  unfold State.bagFaultEnd
  split <;> simp

@[simp] theorem State.reserveSlot_keeps (s : State) :
    (State.reserveSlot s).clock = s.clock ∧ (State.reserveSlot s).link = s.link ∧
    (State.reserveSlot s).chP = s.chP ∧ (State.reserveSlot s).chB = s.chB ∧ (State.reserveSlot s).cal = s.cal ∧
    (State.reserveSlot s).txn = s.txn ∧ (State.reserveSlot s).pw = s.pw ∧ (State.reserveSlot s).store = s.store ∧
    (State.reserveSlot s).flash = s.flash ∧ (State.reserveSlot s).card = s.card ∧
    (State.reserveSlot s).supply = s.supply ∧ (State.reserveSlot s).drw1 = s.drw1 ∧
    (State.reserveSlot s).drw2 = s.drw2 ∧ (State.reserveSlot s).noSale = s.noSale ∧
    (State.reserveSlot s).prn = s.prn ∧ (State.reserveSlot s).attn = s.attn ∧
    (State.reserveSlot s).pending = s.pending := by
  simp [State.reserveSlot]

@[simp] theorem State.releaseSlot_keeps (s : State) :
    (State.releaseSlot s).clock = s.clock ∧ (State.releaseSlot s).link = s.link ∧
    (State.releaseSlot s).chP = s.chP ∧ (State.releaseSlot s).chB = s.chB ∧ (State.releaseSlot s).cal = s.cal ∧
    (State.releaseSlot s).txn = s.txn ∧ (State.releaseSlot s).pw = s.pw ∧ (State.releaseSlot s).store = s.store ∧
    (State.releaseSlot s).flash = s.flash ∧ (State.releaseSlot s).card = s.card ∧
    (State.releaseSlot s).supply = s.supply ∧ (State.releaseSlot s).drw1 = s.drw1 ∧
    (State.releaseSlot s).drw2 = s.drw2 ∧ (State.releaseSlot s).noSale = s.noSale ∧
    (State.releaseSlot s).prn = s.prn ∧ (State.releaseSlot s).attn = s.attn ∧
    (State.releaseSlot s).pending = s.pending := by
  simp [State.releaseSlot]

@[simp] theorem State.convertSlot_keeps (ref : Nat) (expected tolerance : Int) (s : State) :
    (State.convertSlot ref expected tolerance s).clock = s.clock ∧
    (State.convertSlot ref expected tolerance s).link = s.link ∧
    (State.convertSlot ref expected tolerance s).chP = s.chP ∧
    (State.convertSlot ref expected tolerance s).chB = s.chB ∧
    (State.convertSlot ref expected tolerance s).cal = s.cal ∧
    (State.convertSlot ref expected tolerance s).txn = s.txn ∧
    (State.convertSlot ref expected tolerance s).pw = s.pw ∧
    (State.convertSlot ref expected tolerance s).store = s.store ∧
    (State.convertSlot ref expected tolerance s).flash = s.flash ∧
    (State.convertSlot ref expected tolerance s).card = s.card ∧
    (State.convertSlot ref expected tolerance s).supply = s.supply ∧
    (State.convertSlot ref expected tolerance s).drw1 = s.drw1 ∧
    (State.convertSlot ref expected tolerance s).drw2 = s.drw2 ∧
    (State.convertSlot ref expected tolerance s).noSale = s.noSale ∧
    (State.convertSlot ref expected tolerance s).prn = s.prn ∧
    (State.convertSlot ref expected tolerance s).attn = s.attn ∧
    (State.convertSlot ref expected tolerance s).pending = s.pending := by
  unfold State.convertSlot
  split <;> simp

@[simp] theorem State.bagBegin_keeps (gross : Int) (s : State) :
    (State.bagBegin gross s).clock = s.clock ∧ (State.bagBegin gross s).link = s.link ∧
    (State.bagBegin gross s).chP = s.chP ∧ (State.bagBegin gross s).chB = s.chB ∧
    (State.bagBegin gross s).cal = s.cal ∧ (State.bagBegin gross s).txn = s.txn ∧
    (State.bagBegin gross s).pw = s.pw ∧ (State.bagBegin gross s).store = s.store ∧
    (State.bagBegin gross s).flash = s.flash ∧ (State.bagBegin gross s).card = s.card ∧
    (State.bagBegin gross s).supply = s.supply ∧ (State.bagBegin gross s).drw1 = s.drw1 ∧
    (State.bagBegin gross s).drw2 = s.drw2 ∧ (State.bagBegin gross s).noSale = s.noSale ∧
    (State.bagBegin gross s).prn = s.prn ∧ (State.bagBegin gross s).attn = s.attn ∧
    (State.bagBegin gross s).pending = s.pending := by
  simp [State.bagBegin]

@[simp] theorem State.bagOpenDisabled_keeps (s : State) :
    (State.bagOpenDisabled s).clock = s.clock ∧ (State.bagOpenDisabled s).chP = s.chP ∧
    (State.bagOpenDisabled s).chB = s.chB ∧ (State.bagOpenDisabled s).cal = s.cal ∧
    (State.bagOpenDisabled s).txn = s.txn ∧ (State.bagOpenDisabled s).pw = s.pw ∧
    (State.bagOpenDisabled s).store = s.store ∧ (State.bagOpenDisabled s).flash = s.flash ∧
    (State.bagOpenDisabled s).card = s.card ∧ (State.bagOpenDisabled s).supply = s.supply ∧
    (State.bagOpenDisabled s).drw1 = s.drw1 ∧ (State.bagOpenDisabled s).drw2 = s.drw2 ∧
    (State.bagOpenDisabled s).noSale = s.noSale ∧ (State.bagOpenDisabled s).prn = s.prn ∧
    (State.bagOpenDisabled s).attn = s.attn ∧ (State.bagOpenDisabled s).pending = s.pending := by
  simp [State.bagOpenDisabled, State.ite_fields]

@[simp] theorem State.bagEnd_keeps (s : State) :
    (State.bagEnd s).clock = s.clock ∧ (State.bagEnd s).link = s.link ∧ (State.bagEnd s).chP = s.chP ∧
    (State.bagEnd s).chB = s.chB ∧ (State.bagEnd s).cal = s.cal ∧ (State.bagEnd s).txn = s.txn ∧
    (State.bagEnd s).pw = s.pw ∧ (State.bagEnd s).store = s.store ∧ (State.bagEnd s).flash = s.flash ∧
    (State.bagEnd s).card = s.card ∧ (State.bagEnd s).supply = s.supply ∧ (State.bagEnd s).drw1 = s.drw1 ∧
    (State.bagEnd s).drw2 = s.drw2 ∧ (State.bagEnd s).noSale = s.noSale ∧ (State.bagEnd s).prn = s.prn ∧
    (State.bagEnd s).pending = s.pending := by
  unfold State.bagEnd
  split <;> simp

@[simp] theorem State.applyEnable_keeps (s : State) :
    (State.applyEnable s).clock = s.clock ∧ (State.applyEnable s).link = s.link ∧
    (State.applyEnable s).chP = s.chP ∧ (State.applyEnable s).chB = s.chB ∧ (State.applyEnable s).cal = s.cal ∧
    (State.applyEnable s).txn = s.txn ∧ (State.applyEnable s).pw = s.pw ∧ (State.applyEnable s).store = s.store ∧
    (State.applyEnable s).flash = s.flash ∧ (State.applyEnable s).card = s.card ∧
    (State.applyEnable s).supply = s.supply ∧ (State.applyEnable s).drw1 = s.drw1 ∧
    (State.applyEnable s).drw2 = s.drw2 ∧ (State.applyEnable s).noSale = s.noSale ∧
    (State.applyEnable s).prn = s.prn ∧ (State.applyEnable s).attn = s.attn ∧
    (State.applyEnable s).pending = s.pending := by
  simp [State.applyEnable]

@[simp] theorem State.dropSkippable_keeps (s : State) :
    (State.dropSkippable s).clock = s.clock ∧ (State.dropSkippable s).link = s.link ∧
    (State.dropSkippable s).chP = s.chP ∧ (State.dropSkippable s).chB = s.chB ∧
    (State.dropSkippable s).cal = s.cal ∧ (State.dropSkippable s).pw = s.pw ∧
    (State.dropSkippable s).store = s.store ∧ (State.dropSkippable s).flash = s.flash ∧
    (State.dropSkippable s).card = s.card ∧ (State.dropSkippable s).supply = s.supply ∧
    (State.dropSkippable s).drw1 = s.drw1 ∧ (State.dropSkippable s).drw2 = s.drw2 ∧
    (State.dropSkippable s).noSale = s.noSale ∧ (State.dropSkippable s).prn = s.prn ∧
    (State.dropSkippable s).attn = s.attn ∧ (State.dropSkippable s).pending = s.pending := by
  simp [State.dropSkippable]

@[simp] theorem State.bagReset_keeps (s : State) :
    (State.bagReset s).clock = s.clock ∧ (State.bagReset s).link = s.link ∧ (State.bagReset s).chP = s.chP ∧
    (State.bagReset s).chB = s.chB ∧ (State.bagReset s).cal = s.cal ∧ (State.bagReset s).txn = s.txn ∧
    (State.bagReset s).pw = s.pw ∧ (State.bagReset s).store = s.store ∧ (State.bagReset s).flash = s.flash ∧
    (State.bagReset s).card = s.card ∧ (State.bagReset s).supply = s.supply ∧ (State.bagReset s).drw1 = s.drw1 ∧
    (State.bagReset s).drw2 = s.drw2 ∧ (State.bagReset s).noSale = s.noSale ∧ (State.bagReset s).prn = s.prn ∧
    (State.bagReset s).pending = s.pending := by
  simp [State.bagReset]

@[simp] theorem evDeadlineExpiry_keeps (index : Nat) (s : State) :
    (evDeadlineExpiry index s).chP = s.chP ∧ (evDeadlineExpiry index s).chB = s.chB ∧
    (evDeadlineExpiry index s).cal = s.cal ∧ (evDeadlineExpiry index s).pw = s.pw ∧
    (evDeadlineExpiry index s).store = s.store ∧ (evDeadlineExpiry index s).flash = s.flash ∧
    (evDeadlineExpiry index s).card = s.card ∧ (evDeadlineExpiry index s).supply = s.supply ∧
    (evDeadlineExpiry index s).drw1 = s.drw1 ∧ (evDeadlineExpiry index s).drw2 = s.drw2 ∧
    (evDeadlineExpiry index s).noSale = s.noSale ∧ (evDeadlineExpiry index s).prn = s.prn ∧
    (evDeadlineExpiry index s).pending = s.pending := by
  simp only [evDeadlineExpiry]
  (repeat' split) <;> simp

@[simp] theorem reqExpectAdd_keeps (ref : Nat) (weight tolerance : Int) (flags : Nat) (s : State) :
    (reqExpectAdd ref weight tolerance flags s).1.clock = s.clock ∧
    (reqExpectAdd ref weight tolerance flags s).1.link = s.link ∧
    (reqExpectAdd ref weight tolerance flags s).1.chP = s.chP ∧
    (reqExpectAdd ref weight tolerance flags s).1.chB = s.chB ∧
    (reqExpectAdd ref weight tolerance flags s).1.cal = s.cal ∧
    (reqExpectAdd ref weight tolerance flags s).1.txn = s.txn ∧
    (reqExpectAdd ref weight tolerance flags s).1.pw = s.pw ∧
    (reqExpectAdd ref weight tolerance flags s).1.store = s.store ∧
    (reqExpectAdd ref weight tolerance flags s).1.flash = s.flash ∧
    (reqExpectAdd ref weight tolerance flags s).1.card = s.card ∧
    (reqExpectAdd ref weight tolerance flags s).1.supply = s.supply ∧
    (reqExpectAdd ref weight tolerance flags s).1.drw1 = s.drw1 ∧
    (reqExpectAdd ref weight tolerance flags s).1.drw2 = s.drw2 ∧
    (reqExpectAdd ref weight tolerance flags s).1.noSale = s.noSale ∧
    (reqExpectAdd ref weight tolerance flags s).1.prn = s.prn ∧
    (reqExpectAdd ref weight tolerance flags s).1.attn = s.attn ∧
    (reqExpectAdd ref weight tolerance flags s).1.pending = s.pending := by
  unfold reqExpectAdd
  (repeat' split) <;> simp

@[simp] theorem State.withdraw_keeps (i : Nat) (e : Expect) (s : State) :
    (State.withdraw i e s).clock = s.clock ∧ (State.withdraw i e s).link = s.link ∧
    (State.withdraw i e s).chP = s.chP ∧ (State.withdraw i e s).chB = s.chB ∧ (State.withdraw i e s).cal = s.cal ∧
    (State.withdraw i e s).txn = s.txn ∧ (State.withdraw i e s).pw = s.pw ∧ (State.withdraw i e s).store = s.store ∧
    (State.withdraw i e s).flash = s.flash ∧ (State.withdraw i e s).card = s.card ∧
    (State.withdraw i e s).supply = s.supply ∧ (State.withdraw i e s).drw1 = s.drw1 ∧
    (State.withdraw i e s).drw2 = s.drw2 ∧ (State.withdraw i e s).noSale = s.noSale ∧
    (State.withdraw i e s).prn = s.prn ∧ (State.withdraw i e s).pending = s.pending := by
  unfold State.withdraw
  split <;> simp

@[simp] theorem reqExpectRemove_keeps (ref : Nat) (weight tolerance : Int) (s : State) :
    (reqExpectRemove ref weight tolerance s).1.clock = s.clock ∧
    (reqExpectRemove ref weight tolerance s).1.link = s.link ∧
    (reqExpectRemove ref weight tolerance s).1.chP = s.chP ∧
    (reqExpectRemove ref weight tolerance s).1.chB = s.chB ∧
    (reqExpectRemove ref weight tolerance s).1.cal = s.cal ∧
    (reqExpectRemove ref weight tolerance s).1.txn = s.txn ∧ (reqExpectRemove ref weight tolerance s).1.pw = s.pw ∧
    (reqExpectRemove ref weight tolerance s).1.store = s.store ∧
    (reqExpectRemove ref weight tolerance s).1.flash = s.flash ∧
    (reqExpectRemove ref weight tolerance s).1.card = s.card ∧
    (reqExpectRemove ref weight tolerance s).1.supply = s.supply ∧
    (reqExpectRemove ref weight tolerance s).1.drw1 = s.drw1 ∧
    (reqExpectRemove ref weight tolerance s).1.drw2 = s.drw2 ∧
    (reqExpectRemove ref weight tolerance s).1.noSale = s.noSale ∧
    (reqExpectRemove ref weight tolerance s).1.prn = s.prn ∧
    (reqExpectRemove ref weight tolerance s).1.pending = s.pending := by
  unfold reqExpectRemove
  (repeat' split) <;> simp

@[simp] theorem reqBagClear_keeps (s : State) :
    (reqBagClear s).1.clock = s.clock ∧ (reqBagClear s).1.link = s.link ∧ (reqBagClear s).1.chP = s.chP ∧
    (reqBagClear s).1.chB = s.chB ∧ (reqBagClear s).1.cal = s.cal ∧ (reqBagClear s).1.pw = s.pw ∧
    (reqBagClear s).1.store = s.store ∧ (reqBagClear s).1.flash = s.flash ∧ (reqBagClear s).1.card = s.card ∧
    (reqBagClear s).1.supply = s.supply ∧ (reqBagClear s).1.drw1 = s.drw1 ∧ (reqBagClear s).1.drw2 = s.drw2 ∧
    (reqBagClear s).1.noSale = s.noSale ∧ (reqBagClear s).1.prn = s.prn ∧
    (reqBagClear s).1.pending = s.pending := by
  simp only [reqBagClear]
  (repeat' split) <;> simp

@[simp] theorem reqBagSkip_keeps (ref : Nat) (s : State) :
    (reqBagSkip ref s).1.clock = s.clock ∧ (reqBagSkip ref s).1.link = s.link ∧ (reqBagSkip ref s).1.chP = s.chP ∧
    (reqBagSkip ref s).1.chB = s.chB ∧ (reqBagSkip ref s).1.cal = s.cal ∧ (reqBagSkip ref s).1.pw = s.pw ∧
    (reqBagSkip ref s).1.store = s.store ∧ (reqBagSkip ref s).1.flash = s.flash ∧
    (reqBagSkip ref s).1.card = s.card ∧ (reqBagSkip ref s).1.supply = s.supply ∧
    (reqBagSkip ref s).1.drw1 = s.drw1 ∧ (reqBagSkip ref s).1.drw2 = s.drw2 ∧
    (reqBagSkip ref s).1.noSale = s.noSale ∧ (reqBagSkip ref s).1.prn = s.prn ∧
    (reqBagSkip ref s).1.pending = s.pending := by
  unfold reqBagSkip
  (repeat' split) <;> simp

@[simp] theorem reqBagGet_keeps (s : State) :
    (reqBagGet s).1.clock = s.clock ∧ (reqBagGet s).1.link = s.link ∧ (reqBagGet s).1.chP = s.chP ∧
    (reqBagGet s).1.chB = s.chB ∧ (reqBagGet s).1.cal = s.cal ∧ (reqBagGet s).1.txn = s.txn ∧
    (reqBagGet s).1.pw = s.pw ∧ (reqBagGet s).1.store = s.store ∧ (reqBagGet s).1.flash = s.flash ∧
    (reqBagGet s).1.bag = s.bag ∧ (reqBagGet s).1.card = s.card ∧ (reqBagGet s).1.supply = s.supply ∧
    (reqBagGet s).1.drw1 = s.drw1 ∧ (reqBagGet s).1.drw2 = s.drw2 ∧ (reqBagGet s).1.noSale = s.noSale ∧
    (reqBagGet s).1.prn = s.prn ∧ (reqBagGet s).1.attn = s.attn ∧ (reqBagGet s).1.pending = s.pending := by
  simp [reqBagGet]

@[simp] theorem State.raiseTxn_keeps (s : State) :
    (State.raiseTxn s).clock = s.clock ∧ (State.raiseTxn s).chP = s.chP ∧ (State.raiseTxn s).chB = s.chB ∧
    (State.raiseTxn s).cal = s.cal ∧ (State.raiseTxn s).txn = s.txn ∧ (State.raiseTxn s).pw = s.pw ∧
    (State.raiseTxn s).store = s.store ∧ (State.raiseTxn s).flash = s.flash ∧ (State.raiseTxn s).bag = s.bag ∧
    (State.raiseTxn s).card = s.card ∧ (State.raiseTxn s).supply = s.supply ∧ (State.raiseTxn s).drw1 = s.drw1 ∧
    (State.raiseTxn s).drw2 = s.drw2 ∧ (State.raiseTxn s).noSale = s.noSale ∧ (State.raiseTxn s).prn = s.prn ∧
    (State.raiseTxn s).attn = s.attn ∧ (State.raiseTxn s).pending = s.pending := by
  simp [State.raiseTxn]

@[simp] theorem State.txnToIdle_keeps (cause : EndCause) (s : State) :
    (State.txnToIdle cause s).clock = s.clock ∧ (State.txnToIdle cause s).link = s.link ∧
    (State.txnToIdle cause s).chP = s.chP ∧ (State.txnToIdle cause s).chB = s.chB ∧
    (State.txnToIdle cause s).cal = s.cal ∧ (State.txnToIdle cause s).pw = s.pw ∧
    (State.txnToIdle cause s).store = s.store ∧ (State.txnToIdle cause s).flash = s.flash ∧
    (State.txnToIdle cause s).card = s.card ∧ (State.txnToIdle cause s).supply = s.supply ∧
    (State.txnToIdle cause s).drw1 = s.drw1 ∧ (State.txnToIdle cause s).drw2 = s.drw2 ∧
    (State.txnToIdle cause s).noSale = s.noSale ∧ (State.txnToIdle cause s).prn = s.prn ∧
    (State.txnToIdle cause s).attn = s.attn ∧ (State.txnToIdle cause s).pending = s.pending := by
  simp [State.txnToIdle]

@[simp] theorem State.examineClosing_keeps (s : State) :
    (State.examineClosing s).clock = s.clock ∧ (State.examineClosing s).link = s.link ∧
    (State.examineClosing s).chP = s.chP ∧ (State.examineClosing s).chB = s.chB ∧
    (State.examineClosing s).cal = s.cal ∧ (State.examineClosing s).pw = s.pw ∧
    (State.examineClosing s).store = s.store ∧ (State.examineClosing s).flash = s.flash ∧
    (State.examineClosing s).card = s.card ∧ (State.examineClosing s).supply = s.supply ∧
    (State.examineClosing s).drw1 = s.drw1 ∧ (State.examineClosing s).drw2 = s.drw2 ∧
    (State.examineClosing s).noSale = s.noSale ∧ (State.examineClosing s).prn = s.prn ∧
    (State.examineClosing s).attn = s.attn ∧ (State.examineClosing s).pending = s.pending := by
  unfold State.examineClosing
  split <;> simp

@[simp] theorem State.setReceipt_keeps (r : ReceiptState) (s : State) :
    (State.setReceipt r s).clock = s.clock ∧ (State.setReceipt r s).link = s.link ∧
    (State.setReceipt r s).chP = s.chP ∧ (State.setReceipt r s).chB = s.chB ∧ (State.setReceipt r s).cal = s.cal ∧
    (State.setReceipt r s).pw = s.pw ∧ (State.setReceipt r s).store = s.store ∧
    (State.setReceipt r s).flash = s.flash ∧ (State.setReceipt r s).card = s.card ∧
    (State.setReceipt r s).supply = s.supply ∧ (State.setReceipt r s).drw1 = s.drw1 ∧
    (State.setReceipt r s).drw2 = s.drw2 ∧ (State.setReceipt r s).noSale = s.noSale ∧
    (State.setReceipt r s).prn = s.prn ∧ (State.setReceipt r s).attn = s.attn ∧
    (State.setReceipt r s).pending = s.pending := by
  simp [State.setReceipt]

@[simp] theorem State.cancelReceiptState_keeps (s : State) :
    (State.cancelReceiptState s).clock = s.clock ∧ (State.cancelReceiptState s).link = s.link ∧
    (State.cancelReceiptState s).chP = s.chP ∧ (State.cancelReceiptState s).chB = s.chB ∧
    (State.cancelReceiptState s).cal = s.cal ∧ (State.cancelReceiptState s).pw = s.pw ∧
    (State.cancelReceiptState s).store = s.store ∧ (State.cancelReceiptState s).flash = s.flash ∧
    (State.cancelReceiptState s).card = s.card ∧ (State.cancelReceiptState s).supply = s.supply ∧
    (State.cancelReceiptState s).drw1 = s.drw1 ∧ (State.cancelReceiptState s).drw2 = s.drw2 ∧
    (State.cancelReceiptState s).noSale = s.noSale ∧ (State.cancelReceiptState s).prn = s.prn ∧
    (State.cancelReceiptState s).attn = s.attn ∧ (State.cancelReceiptState s).pending = s.pending := by
  unfold State.cancelReceiptState
  split <;> simp

@[simp] theorem State.portChanged_keeps (p : Port) (s : State) :
    (State.portChanged p s).clock = s.clock ∧ (State.portChanged p s).link = s.link ∧
    (State.portChanged p s).chP = s.chP ∧ (State.portChanged p s).chB = s.chB ∧
    (State.portChanged p s).cal = s.cal ∧ (State.portChanged p s).pw = s.pw ∧
    (State.portChanged p s).store = s.store ∧ (State.portChanged p s).flash = s.flash ∧
    (State.portChanged p s).card = s.card ∧ (State.portChanged p s).supply = s.supply ∧
    (State.portChanged p s).drw1 = s.drw1 ∧ (State.portChanged p s).drw2 = s.drw2 ∧
    (State.portChanged p s).noSale = s.noSale ∧ (State.portChanged p s).prn = s.prn ∧
    (State.portChanged p s).attn = s.attn ∧ (State.portChanged p s).pending = s.pending := by
  unfold State.portChanged
  split <;> simp

end Sys2Proof.Machine
end

