-- ==== Sys2Proof/Laws/SupplyFrames.lean ====
section
/-! SUPPORT. What the operations of the supply arbiter, the dot lines and the drawer ports leave as it was. -/

namespace Sys2Proof.Machine

@[simp] theorem State.grantKick_keeps (p : Port) (s : State) :
    (State.grantKick p s).clock = s.clock ∧ (State.grantKick p s).link = s.link ∧
    (State.grantKick p s).chP = s.chP ∧ (State.grantKick p s).chB = s.chB ∧ (State.grantKick p s).cal = s.cal ∧
    (State.grantKick p s).pw = s.pw ∧ (State.grantKick p s).store = s.store ∧
    (State.grantKick p s).flash = s.flash ∧ (State.grantKick p s).card = s.card ∧
    (State.grantKick p s).supply = s.supply ∧ (State.grantKick p s).noSale = s.noSale ∧
    (State.grantKick p s).prn = s.prn ∧ (State.grantKick p s).attn = s.attn ∧
    (State.grantKick p s).pending = s.pending := by
  simp [State.grantKick]

@[simp] theorem State.cutPhase_keeps (ph : Phase) (s : State) :
    (State.cutPhase ph s).clock = s.clock ∧ (State.cutPhase ph s).link = s.link ∧
    (State.cutPhase ph s).chP = s.chP ∧ (State.cutPhase ph s).chB = s.chB ∧ (State.cutPhase ph s).cal = s.cal ∧
    (State.cutPhase ph s).txn = s.txn ∧ (State.cutPhase ph s).pw = s.pw ∧ (State.cutPhase ph s).store = s.store ∧
    (State.cutPhase ph s).flash = s.flash ∧ (State.cutPhase ph s).bag = s.bag ∧
    (State.cutPhase ph s).card = s.card ∧ (State.cutPhase ph s).drw1 = s.drw1 ∧
    (State.cutPhase ph s).drw2 = s.drw2 ∧ (State.cutPhase ph s).noSale = s.noSale ∧
    (State.cutPhase ph s).attn = s.attn ∧ (State.cutPhase ph s).pending = s.pending := by
  simp [State.cutPhase]

@[simp] theorem State.servePort_keeps (p : Port) (s : State) :
    (State.servePort p s).clock = s.clock ∧ (State.servePort p s).link = s.link ∧
    (State.servePort p s).chP = s.chP ∧ (State.servePort p s).chB = s.chB ∧ (State.servePort p s).cal = s.cal ∧
    (State.servePort p s).pw = s.pw ∧ (State.servePort p s).store = s.store ∧
    (State.servePort p s).flash = s.flash ∧ (State.servePort p s).card = s.card ∧
    (State.servePort p s).noSale = s.noSale ∧ (State.servePort p s).attn = s.attn ∧
    (State.servePort p s).pending = s.pending := by
  unfold State.servePort
  (repeat' split) <;> simp

@[simp] theorem State.servePorts_keeps (s : State) :
    (State.servePorts s).clock = s.clock ∧ (State.servePorts s).link = s.link ∧ (State.servePorts s).chP = s.chP ∧
    (State.servePorts s).chB = s.chB ∧ (State.servePorts s).cal = s.cal ∧ (State.servePorts s).pw = s.pw ∧
    (State.servePorts s).store = s.store ∧ (State.servePorts s).flash = s.flash ∧
    (State.servePorts s).card = s.card ∧ (State.servePorts s).noSale = s.noSale ∧
    (State.servePorts s).attn = s.attn ∧ (State.servePorts s).pending = s.pending := by
  simp [State.servePorts]

@[simp] theorem State.testBudget_keeps (s : State) :
    (State.testBudget s).clock = s.clock ∧ (State.testBudget s).link = s.link ∧ (State.testBudget s).chP = s.chP ∧
    (State.testBudget s).chB = s.chB ∧ (State.testBudget s).cal = s.cal ∧ (State.testBudget s).txn = s.txn ∧
    (State.testBudget s).pw = s.pw ∧ (State.testBudget s).store = s.store ∧ (State.testBudget s).flash = s.flash ∧
    (State.testBudget s).bag = s.bag ∧ (State.testBudget s).card = s.card ∧ (State.testBudget s).drw1 = s.drw1 ∧
    (State.testBudget s).drw2 = s.drw2 ∧ (State.testBudget s).noSale = s.noSale ∧ (State.testBudget s).prn = s.prn ∧
    (State.testBudget s).attn = s.attn ∧ (State.testBudget s).pending = s.pending := by
  unfold State.testBudget
  split <;> simp

@[simp] theorem State.suspend_keeps (s : State) :
    (State.suspend s).clock = s.clock ∧ (State.suspend s).link = s.link ∧ (State.suspend s).chP = s.chP ∧
    (State.suspend s).chB = s.chB ∧ (State.suspend s).cal = s.cal ∧ (State.suspend s).txn = s.txn ∧
    (State.suspend s).pw = s.pw ∧ (State.suspend s).store = s.store ∧ (State.suspend s).flash = s.flash ∧
    (State.suspend s).bag = s.bag ∧ (State.suspend s).card = s.card ∧ (State.suspend s).supply = s.supply ∧
    (State.suspend s).drw1 = s.drw1 ∧ (State.suspend s).drw2 = s.drw2 ∧ (State.suspend s).noSale = s.noSale ∧
    (State.suspend s).attn = s.attn ∧ (State.suspend s).pending = s.pending := by
  simp [State.suspend]

@[simp] theorem State.sampleSupply_keeps (s : State) :
    (State.sampleSupply s).clock = s.clock ∧ (State.sampleSupply s).link = s.link ∧ (State.sampleSupply s).chP = s.chP ∧
    (State.sampleSupply s).chB = s.chB ∧ (State.sampleSupply s).cal = s.cal ∧ (State.sampleSupply s).txn = s.txn ∧
    (State.sampleSupply s).pw = s.pw ∧ (State.sampleSupply s).store = s.store ∧ (State.sampleSupply s).flash = s.flash ∧
    (State.sampleSupply s).bag = s.bag ∧ (State.sampleSupply s).card = s.card ∧ (State.sampleSupply s).supply = s.supply ∧
    (State.sampleSupply s).drw1 = s.drw1 ∧ (State.sampleSupply s).drw2 = s.drw2 ∧ (State.sampleSupply s).noSale = s.noSale ∧
    (State.sampleSupply s).attn = s.attn ∧ (State.sampleSupply s).pending = s.pending := by
  simp [State.sampleSupply]

@[simp] theorem State.sampleTemp_keeps (s : State) :
    (State.sampleTemp s).clock = s.clock ∧ (State.sampleTemp s).link = s.link ∧ (State.sampleTemp s).chP = s.chP ∧
    (State.sampleTemp s).chB = s.chB ∧ (State.sampleTemp s).cal = s.cal ∧ (State.sampleTemp s).txn = s.txn ∧
    (State.sampleTemp s).pw = s.pw ∧ (State.sampleTemp s).store = s.store ∧ (State.sampleTemp s).flash = s.flash ∧
    (State.sampleTemp s).bag = s.bag ∧ (State.sampleTemp s).card = s.card ∧ (State.sampleTemp s).supply = s.supply ∧
    (State.sampleTemp s).drw1 = s.drw1 ∧ (State.sampleTemp s).drw2 = s.drw2 ∧ (State.sampleTemp s).noSale = s.noSale ∧
    (State.sampleTemp s).attn = s.attn ∧ (State.sampleTemp s).pending = s.pending := by
  simp [State.sampleTemp]

/-- A sample of V at a phase planning (R183, R190): what it leaves of the printer. -/
theorem State.sampleSupply_prn (s : State) :
    s.sampleSupply.prn = { s.prn with
      headSupply := s.prn.supplyInput.headD s.prn.headSupply, supplyInput := s.prn.supplyInput.tail
      reasons := s.prn.reasons.sampleSupply (s.prn.supplyInput.headD s.prn.headSupply) } := rfl

/-- A sample of the head temperature at a line start (R182, R190): what it leaves of the printer. -/
theorem State.sampleTemp_prn (s : State) :
    s.sampleTemp.prn = { s.prn with
      headTemp := s.prn.tempInput.headD s.prn.headTemp, tempInput := s.prn.tempInput.tail
      reasons := s.prn.reasons.sampleTemp (s.prn.tempInput.headD s.prn.headTemp) } := rfl

@[simp] theorem State.claimOwed_keeps (ph : Phase) (s : State) :
    (State.claimOwed ph s).clock = s.clock ∧ (State.claimOwed ph s).link = s.link ∧
    (State.claimOwed ph s).chP = s.chP ∧ (State.claimOwed ph s).chB = s.chB ∧ (State.claimOwed ph s).cal = s.cal ∧
    (State.claimOwed ph s).txn = s.txn ∧ (State.claimOwed ph s).pw = s.pw ∧ (State.claimOwed ph s).store = s.store ∧
    (State.claimOwed ph s).flash = s.flash ∧ (State.claimOwed ph s).bag = s.bag ∧
    (State.claimOwed ph s).card = s.card ∧ (State.claimOwed ph s).drw1 = s.drw1 ∧
    (State.claimOwed ph s).drw2 = s.drw2 ∧ (State.claimOwed ph s).noSale = s.noSale ∧
    (State.claimOwed ph s).attn = s.attn ∧ (State.claimOwed ph s).pending = s.pending := by
  unfold State.claimOwed
  split <;> simp

@[simp] theorem State.advance_keeps (l : Line) (s : State) :
    (State.advance l s).clock = s.clock ∧ (State.advance l s).link = s.link ∧ (State.advance l s).chP = s.chP ∧
    (State.advance l s).chB = s.chB ∧ (State.advance l s).cal = s.cal ∧ (State.advance l s).txn = s.txn ∧
    (State.advance l s).pw = s.pw ∧ (State.advance l s).store = s.store ∧ (State.advance l s).flash = s.flash ∧
    (State.advance l s).bag = s.bag ∧ (State.advance l s).card = s.card ∧ (State.advance l s).supply = s.supply ∧
    (State.advance l s).drw1 = s.drw1 ∧ (State.advance l s).drw2 = s.drw2 ∧ (State.advance l s).noSale = s.noSale ∧
    (State.advance l s).attn = s.attn ∧ (State.advance l s).pending = s.pending := by
  simp [State.advance]

@[simp] theorem State.plan_keeps (l : Line) (s : State) :
    (State.plan l s).clock = s.clock ∧ (State.plan l s).link = s.link ∧ (State.plan l s).chP = s.chP ∧
    (State.plan l s).chB = s.chB ∧ (State.plan l s).cal = s.cal ∧ (State.plan l s).txn = s.txn ∧
    (State.plan l s).pw = s.pw ∧ (State.plan l s).store = s.store ∧ (State.plan l s).flash = s.flash ∧
    (State.plan l s).bag = s.bag ∧ (State.plan l s).card = s.card ∧ (State.plan l s).drw1 = s.drw1 ∧
    (State.plan l s).drw2 = s.drw2 ∧ (State.plan l s).noSale = s.noSale ∧ (State.plan l s).attn = s.attn ∧
    (State.plan l s).pending = s.pending := by
  simp only [State.plan]
  (repeat' split) <;> simp

@[simp] theorem State.phaseStart_keeps (s : State) :
    (State.phaseStart s).clock = s.clock ∧ (State.phaseStart s).link = s.link ∧ (State.phaseStart s).chP = s.chP ∧
    (State.phaseStart s).chB = s.chB ∧ (State.phaseStart s).cal = s.cal ∧ (State.phaseStart s).txn = s.txn ∧
    (State.phaseStart s).pw = s.pw ∧ (State.phaseStart s).store = s.store ∧ (State.phaseStart s).flash = s.flash ∧
    (State.phaseStart s).bag = s.bag ∧ (State.phaseStart s).card = s.card ∧ (State.phaseStart s).drw1 = s.drw1 ∧
    (State.phaseStart s).drw2 = s.drw2 ∧ (State.phaseStart s).noSale = s.noSale ∧
    (State.phaseStart s).attn = s.attn ∧ (State.phaseStart s).pending = s.pending := by
  unfold State.phaseStart
  (repeat' split) <;> simp

@[simp] theorem State.lineStart_keeps (loads : List Nat) (s : State) :
    (State.lineStart loads s).clock = s.clock ∧ (State.lineStart loads s).link = s.link ∧
    (State.lineStart loads s).chP = s.chP ∧ (State.lineStart loads s).chB = s.chB ∧
    (State.lineStart loads s).cal = s.cal ∧ (State.lineStart loads s).txn = s.txn ∧
    (State.lineStart loads s).pw = s.pw ∧ (State.lineStart loads s).store = s.store ∧
    (State.lineStart loads s).flash = s.flash ∧ (State.lineStart loads s).bag = s.bag ∧
    (State.lineStart loads s).card = s.card ∧ (State.lineStart loads s).drw1 = s.drw1 ∧
    (State.lineStart loads s).drw2 = s.drw2 ∧ (State.lineStart loads s).noSale = s.noSale ∧
    (State.lineStart loads s).attn = s.attn ∧ (State.lineStart loads s).pending = s.pending := by
  simp [State.lineStart]

@[simp] theorem State.feedLine_keeps (s : State) :
    (State.feedLine s).clock = s.clock ∧ (State.feedLine s).link = s.link ∧ (State.feedLine s).chP = s.chP ∧
    (State.feedLine s).chB = s.chB ∧ (State.feedLine s).cal = s.cal ∧ (State.feedLine s).txn = s.txn ∧
    (State.feedLine s).pw = s.pw ∧ (State.feedLine s).store = s.store ∧ (State.feedLine s).flash = s.flash ∧
    (State.feedLine s).bag = s.bag ∧ (State.feedLine s).card = s.card ∧ (State.feedLine s).supply = s.supply ∧
    (State.feedLine s).drw1 = s.drw1 ∧ (State.feedLine s).drw2 = s.drw2 ∧ (State.feedLine s).noSale = s.noSale ∧
    (State.feedLine s).attn = s.attn ∧ (State.feedLine s).pending = s.pending := by
  simp [State.feedLine]

@[simp] theorem State.workLine_keeps (w : Work) (s : State) :
    (State.workLine w s).clock = s.clock ∧ (State.workLine w s).link = s.link ∧ (State.workLine w s).chP = s.chP ∧
    (State.workLine w s).chB = s.chB ∧ (State.workLine w s).cal = s.cal ∧ (State.workLine w s).txn = s.txn ∧
    (State.workLine w s).pw = s.pw ∧ (State.workLine w s).store = s.store ∧ (State.workLine w s).flash = s.flash ∧
    (State.workLine w s).bag = s.bag ∧ (State.workLine w s).card = s.card ∧ (State.workLine w s).drw1 = s.drw1 ∧
    (State.workLine w s).drw2 = s.drw2 ∧ (State.workLine w s).noSale = s.noSale ∧
    (State.workLine w s).attn = s.attn ∧ (State.workLine w s).pending = s.pending := by
  unfold State.workLine
  split <;> simp

@[simp] theorem State.offerPrinter_keeps (s : State) :
    (State.offerPrinter s).clock = s.clock ∧ (State.offerPrinter s).link = s.link ∧
    (State.offerPrinter s).chP = s.chP ∧ (State.offerPrinter s).chB = s.chB ∧ (State.offerPrinter s).cal = s.cal ∧
    (State.offerPrinter s).txn = s.txn ∧ (State.offerPrinter s).pw = s.pw ∧ (State.offerPrinter s).store = s.store ∧
    (State.offerPrinter s).flash = s.flash ∧ (State.offerPrinter s).bag = s.bag ∧
    (State.offerPrinter s).card = s.card ∧ (State.offerPrinter s).drw1 = s.drw1 ∧
    (State.offerPrinter s).drw2 = s.drw2 ∧ (State.offerPrinter s).noSale = s.noSale ∧
    (State.offerPrinter s).attn = s.attn ∧ (State.offerPrinter s).pending = s.pending := by
  unfold State.offerPrinter
  split <;> simp

@[simp] theorem State.takeTurn_keeps (s : State) :
    (State.takeTurn s).clock = s.clock ∧ (State.takeTurn s).link = s.link ∧
    (State.takeTurn s).chP = s.chP ∧ (State.takeTurn s).chB = s.chB ∧ (State.takeTurn s).cal = s.cal ∧
    (State.takeTurn s).txn = s.txn ∧ (State.takeTurn s).pw = s.pw ∧ (State.takeTurn s).store = s.store ∧
    (State.takeTurn s).flash = s.flash ∧ (State.takeTurn s).bag = s.bag ∧
    (State.takeTurn s).card = s.card ∧ (State.takeTurn s).drw1 = s.drw1 ∧
    (State.takeTurn s).drw2 = s.drw2 ∧ (State.takeTurn s).noSale = s.noSale ∧
    (State.takeTurn s).attn = s.attn ∧ (State.takeTurn s).pending = s.pending := by
  unfold State.takeTurn
  split <;> simp

@[simp] theorem State.afterRelease_keeps (s : State) :
    (State.afterRelease s).clock = s.clock ∧ (State.afterRelease s).link = s.link ∧
    (State.afterRelease s).chP = s.chP ∧ (State.afterRelease s).chB = s.chB ∧ (State.afterRelease s).cal = s.cal ∧
    (State.afterRelease s).pw = s.pw ∧ (State.afterRelease s).store = s.store ∧
    (State.afterRelease s).flash = s.flash ∧ (State.afterRelease s).card = s.card ∧
    (State.afterRelease s).noSale = s.noSale ∧ (State.afterRelease s).attn = s.attn ∧
    (State.afterRelease s).pending = s.pending := by
  simp [State.afterRelease]

@[simp] theorem State.withdrawOwed_keeps (s : State) :
    (State.withdrawOwed s).clock = s.clock ∧ (State.withdrawOwed s).link = s.link ∧
    (State.withdrawOwed s).chP = s.chP ∧ (State.withdrawOwed s).chB = s.chB ∧ (State.withdrawOwed s).cal = s.cal ∧
    (State.withdrawOwed s).txn = s.txn ∧ (State.withdrawOwed s).pw = s.pw ∧ (State.withdrawOwed s).store = s.store ∧
    (State.withdrawOwed s).flash = s.flash ∧ (State.withdrawOwed s).bag = s.bag ∧
    (State.withdrawOwed s).card = s.card ∧ (State.withdrawOwed s).drw1 = s.drw1 ∧
    (State.withdrawOwed s).drw2 = s.drw2 ∧ (State.withdrawOwed s).noSale = s.noSale ∧
    (State.withdrawOwed s).prn = s.prn ∧ (State.withdrawOwed s).attn = s.attn ∧
    (State.withdrawOwed s).pending = s.pending := by
  simp [State.withdrawOwed]

@[simp] theorem evStrobePhaseEnd_keeps (s : State) :
    (evStrobePhaseEnd s).clock = s.clock ∧ (evStrobePhaseEnd s).link = s.link ∧ (evStrobePhaseEnd s).chP = s.chP ∧
    (evStrobePhaseEnd s).chB = s.chB ∧ (evStrobePhaseEnd s).cal = s.cal ∧ (evStrobePhaseEnd s).pw = s.pw ∧
    (evStrobePhaseEnd s).store = s.store ∧ (evStrobePhaseEnd s).flash = s.flash ∧
    (evStrobePhaseEnd s).card = s.card ∧ (evStrobePhaseEnd s).noSale = s.noSale ∧
    (evStrobePhaseEnd s).attn = s.attn ∧ (evStrobePhaseEnd s).pending = s.pending := by
  simp only [evStrobePhaseEnd]
  (repeat' split) <;> simp

@[simp] theorem State.lineResult_keeps (x : ReadEntry) (s : State) :
    (State.lineResult x s).clock = s.clock ∧ (State.lineResult x s).link = s.link ∧
    (State.lineResult x s).chP = s.chP ∧ (State.lineResult x s).chB = s.chB ∧ (State.lineResult x s).cal = s.cal ∧
    (State.lineResult x s).txn = s.txn ∧ (State.lineResult x s).pw = s.pw ∧ (State.lineResult x s).store = s.store ∧
    (State.lineResult x s).flash = s.flash ∧ (State.lineResult x s).bag = s.bag ∧
    (State.lineResult x s).card = s.card ∧ (State.lineResult x s).drw1 = s.drw1 ∧
    (State.lineResult x s).drw2 = s.drw2 ∧ (State.lineResult x s).noSale = s.noSale ∧
    (State.lineResult x s).attn = s.attn ∧ (State.lineResult x s).pending = s.pending := by
  simp only [State.lineResult]
  (repeat' split) <;> simp

@[simp] theorem State.releaseForced_keeps (s : State) :
    (State.releaseForced s).clock = s.clock ∧ (State.releaseForced s).link = s.link ∧
    (State.releaseForced s).chP = s.chP ∧ (State.releaseForced s).chB = s.chB ∧
    (State.releaseForced s).cal = s.cal ∧ (State.releaseForced s).txn = s.txn ∧ (State.releaseForced s).pw = s.pw ∧
    (State.releaseForced s).store = s.store ∧ (State.releaseForced s).flash = s.flash ∧
    (State.releaseForced s).bag = s.bag ∧ (State.releaseForced s).card = s.card ∧
    (State.releaseForced s).supply = s.supply ∧ (State.releaseForced s).drw1 = s.drw1 ∧
    (State.releaseForced s).drw2 = s.drw2 ∧ (State.releaseForced s).noSale = s.noSale ∧
    (State.releaseForced s).prn = s.prn ∧ (State.releaseForced s).pending = s.pending := by
  simp [State.releaseForced]

@[simp] theorem State.releaseOverdue_keeps (s : State) :
    (State.releaseOverdue s).clock = s.clock ∧ (State.releaseOverdue s).link = s.link ∧
    (State.releaseOverdue s).chP = s.chP ∧ (State.releaseOverdue s).chB = s.chB ∧
    (State.releaseOverdue s).cal = s.cal ∧ (State.releaseOverdue s).txn = s.txn ∧
    (State.releaseOverdue s).pw = s.pw ∧ (State.releaseOverdue s).store = s.store ∧
    (State.releaseOverdue s).flash = s.flash ∧ (State.releaseOverdue s).bag = s.bag ∧
    (State.releaseOverdue s).card = s.card ∧ (State.releaseOverdue s).supply = s.supply ∧
    (State.releaseOverdue s).drw1 = s.drw1 ∧ (State.releaseOverdue s).drw2 = s.drw2 ∧
    (State.releaseOverdue s).noSale = s.noSale ∧ (State.releaseOverdue s).prn = s.prn ∧
    (State.releaseOverdue s).pending = s.pending := by
  simp [State.releaseOverdue]

@[simp] theorem State.enterOpen_keeps (p : Port) (forced : Bool) (s : State) :
    (State.enterOpen p forced s).clock = s.clock ∧ (State.enterOpen p forced s).link = s.link ∧
    (State.enterOpen p forced s).chP = s.chP ∧ (State.enterOpen p forced s).chB = s.chB ∧
    (State.enterOpen p forced s).cal = s.cal ∧ (State.enterOpen p forced s).txn = s.txn ∧
    (State.enterOpen p forced s).pw = s.pw ∧ (State.enterOpen p forced s).store = s.store ∧
    (State.enterOpen p forced s).flash = s.flash ∧ (State.enterOpen p forced s).bag = s.bag ∧
    (State.enterOpen p forced s).card = s.card ∧ (State.enterOpen p forced s).supply = s.supply ∧
    (State.enterOpen p forced s).noSale = s.noSale ∧ (State.enterOpen p forced s).prn = s.prn ∧
    (State.enterOpen p forced s).attn = s.attn ∧ (State.enterOpen p forced s).pending = s.pending := by
  simp [State.enterOpen]

@[simp] theorem State.sampleSensor_keeps (p : Port) (s : State) :
    (State.sampleSensor p s).clock = s.clock ∧ (State.sampleSensor p s).link = s.link ∧
    (State.sampleSensor p s).chP = s.chP ∧ (State.sampleSensor p s).chB = s.chB ∧
    (State.sampleSensor p s).cal = s.cal ∧ (State.sampleSensor p s).txn = s.txn ∧
    (State.sampleSensor p s).pw = s.pw ∧ (State.sampleSensor p s).store = s.store ∧
    (State.sampleSensor p s).flash = s.flash ∧ (State.sampleSensor p s).bag = s.bag ∧
    (State.sampleSensor p s).card = s.card ∧ (State.sampleSensor p s).supply = s.supply ∧
    (State.sampleSensor p s).noSale = s.noSale ∧ (State.sampleSensor p s).prn = s.prn ∧
    (State.sampleSensor p s).attn = s.attn ∧ (State.sampleSensor p s).pending = s.pending := by
  simp [State.sampleSensor, State.ite_fields]

@[simp] theorem State.applyFitted_keeps (p : Port) (s : State) :
    (State.applyFitted p s).clock = s.clock ∧ (State.applyFitted p s).link = s.link ∧
    (State.applyFitted p s).chP = s.chP ∧ (State.applyFitted p s).chB = s.chB ∧
    (State.applyFitted p s).cal = s.cal ∧ (State.applyFitted p s).txn = s.txn ∧ (State.applyFitted p s).pw = s.pw ∧
    (State.applyFitted p s).store = s.store ∧ (State.applyFitted p s).flash = s.flash ∧
    (State.applyFitted p s).bag = s.bag ∧ (State.applyFitted p s).card = s.card ∧
    (State.applyFitted p s).supply = s.supply ∧ (State.applyFitted p s).noSale = s.noSale ∧
    (State.applyFitted p s).prn = s.prn ∧ (State.applyFitted p s).pending = s.pending := by
  simp [State.applyFitted, State.ite_fields]

@[simp] theorem State.portMoved_keeps (p : Port) (s : State) :
    (State.portMoved p s).clock = s.clock ∧ (State.portMoved p s).link = s.link ∧
    (State.portMoved p s).chP = s.chP ∧ (State.portMoved p s).chB = s.chB ∧ (State.portMoved p s).cal = s.cal ∧
    (State.portMoved p s).pw = s.pw ∧ (State.portMoved p s).store = s.store ∧
    (State.portMoved p s).flash = s.flash ∧ (State.portMoved p s).card = s.card ∧
    (State.portMoved p s).supply = s.supply ∧ (State.portMoved p s).noSale = s.noSale ∧
    (State.portMoved p s).prn = s.prn ∧ (State.portMoved p s).pending = s.pending := by
  simp [State.portMoved]

@[simp] theorem State.sensorEvent_keeps (p : Port) (opens : Bool) (s : State) :
    (State.sensorEvent p opens s).clock = s.clock ∧ (State.sensorEvent p opens s).link = s.link ∧
    (State.sensorEvent p opens s).chP = s.chP ∧ (State.sensorEvent p opens s).chB = s.chB ∧
    (State.sensorEvent p opens s).cal = s.cal ∧ (State.sensorEvent p opens s).pw = s.pw ∧
    (State.sensorEvent p opens s).store = s.store ∧ (State.sensorEvent p opens s).flash = s.flash ∧
    (State.sensorEvent p opens s).card = s.card ∧ (State.sensorEvent p opens s).noSale = s.noSale ∧
    (State.sensorEvent p opens s).pending = s.pending := by
  simp only [State.sensorEvent]
  (repeat' split) <;> simp

@[simp] theorem evDrawerSensorChange_keeps (p : Port) (high : Bool) (s : State) :
    (evDrawerSensorChange p high s).clock = s.clock ∧ (evDrawerSensorChange p high s).link = s.link ∧
    (evDrawerSensorChange p high s).chP = s.chP ∧ (evDrawerSensorChange p high s).chB = s.chB ∧
    (evDrawerSensorChange p high s).cal = s.cal ∧ (evDrawerSensorChange p high s).pw = s.pw ∧
    (evDrawerSensorChange p high s).store = s.store ∧ (evDrawerSensorChange p high s).flash = s.flash ∧
    (evDrawerSensorChange p high s).card = s.card ∧ (evDrawerSensorChange p high s).noSale = s.noSale ∧
    (evDrawerSensorChange p high s).pending = s.pending := by
  simp [evDrawerSensorChange, State.ite_fields]

@[simp] theorem evKickTimerExpiry_keeps (p : Port) (s : State) :
    (evKickTimerExpiry p s).link = s.link ∧ (evKickTimerExpiry p s).chP = s.chP ∧
    (evKickTimerExpiry p s).chB = s.chB ∧ (evKickTimerExpiry p s).cal = s.cal ∧ (evKickTimerExpiry p s).pw = s.pw ∧
    (evKickTimerExpiry p s).store = s.store ∧ (evKickTimerExpiry p s).flash = s.flash ∧
    (evKickTimerExpiry p s).card = s.card ∧ (evKickTimerExpiry p s).noSale = s.noSale ∧
    (evKickTimerExpiry p s).pending = s.pending := by
  simp only [evKickTimerExpiry]
  (repeat' split) <;> simp

@[simp] theorem evHoldLimitExpiry_keeps (p : Port) (s : State) :
    (evHoldLimitExpiry p s).link = s.link ∧ (evHoldLimitExpiry p s).chP = s.chP ∧
    (evHoldLimitExpiry p s).chB = s.chB ∧ (evHoldLimitExpiry p s).cal = s.cal ∧ (evHoldLimitExpiry p s).pw = s.pw ∧
    (evHoldLimitExpiry p s).store = s.store ∧ (evHoldLimitExpiry p s).flash = s.flash ∧
    (evHoldLimitExpiry p s).card = s.card ∧ (evHoldLimitExpiry p s).noSale = s.noSale ∧
    (evHoldLimitExpiry p s).pending = s.pending := by
  simp only [evHoldLimitExpiry]
  (repeat' split) <;> simp

@[simp] theorem evOverdueTimerExpiry_keeps (p : Port) (s : State) :
    (evOverdueTimerExpiry p s).link = s.link ∧ (evOverdueTimerExpiry p s).chP = s.chP ∧
    (evOverdueTimerExpiry p s).chB = s.chB ∧ (evOverdueTimerExpiry p s).cal = s.cal ∧
    (evOverdueTimerExpiry p s).pw = s.pw ∧ (evOverdueTimerExpiry p s).store = s.store ∧
    (evOverdueTimerExpiry p s).flash = s.flash ∧ (evOverdueTimerExpiry p s).card = s.card ∧
    (evOverdueTimerExpiry p s).supply = s.supply ∧ (evOverdueTimerExpiry p s).noSale = s.noSale ∧
    (evOverdueTimerExpiry p s).prn = s.prn ∧ (evOverdueTimerExpiry p s).pending = s.pending := by
  simp only [evOverdueTimerExpiry]
  (repeat' split) <;> simp

@[simp] theorem reqDrawerOpen_keeps (p : Port) (reason : Nat) (s : State) :
    (reqDrawerOpen p reason s).1.clock = s.clock ∧ (reqDrawerOpen p reason s).1.link = s.link ∧
    (reqDrawerOpen p reason s).1.chP = s.chP ∧ (reqDrawerOpen p reason s).1.chB = s.chB ∧
    (reqDrawerOpen p reason s).1.cal = s.cal ∧ (reqDrawerOpen p reason s).1.pw = s.pw ∧
    (reqDrawerOpen p reason s).1.store = s.store ∧ (reqDrawerOpen p reason s).1.flash = s.flash ∧
    (reqDrawerOpen p reason s).1.card = s.card ∧ (reqDrawerOpen p reason s).1.attn = s.attn ∧
    (reqDrawerOpen p reason s).1.pending = s.pending := by
  unfold reqDrawerOpen
  (repeat' split) <;> simp

@[simp] theorem State.resetPort_keeps (p : Port) (s : State) :
    (State.resetPort p s).clock = s.clock ∧ (State.resetPort p s).link = s.link ∧
    (State.resetPort p s).chP = s.chP ∧ (State.resetPort p s).chB = s.chB ∧ (State.resetPort p s).cal = s.cal ∧
    (State.resetPort p s).txn = s.txn ∧ (State.resetPort p s).pw = s.pw ∧ (State.resetPort p s).store = s.store ∧
    (State.resetPort p s).flash = s.flash ∧ (State.resetPort p s).bag = s.bag ∧
    (State.resetPort p s).card = s.card ∧ (State.resetPort p s).supply = s.supply ∧
    (State.resetPort p s).noSale = s.noSale ∧ (State.resetPort p s).prn = s.prn ∧
    (State.resetPort p s).pending = s.pending := by
  simp [State.resetPort, State.ite_fields]

end Sys2Proof.Machine
end

