-- ==== Sys2Proof/Laws/StoreFrames.lean ====
section
/-! SUPPORT. What the operations of the priced-weighing unit, the calibration unit and the alibi store leave as it was. -/

namespace Sys2Proof.Machine

@[simp] theorem State.raisePrice_keeps (s : State) :
    (State.raisePrice s).clock = s.clock ∧ (State.raisePrice s).chP = s.chP ∧ (State.raisePrice s).chB = s.chB ∧
    (State.raisePrice s).cal = s.cal ∧ (State.raisePrice s).txn = s.txn ∧ (State.raisePrice s).pw = s.pw ∧
    (State.raisePrice s).store = s.store ∧ (State.raisePrice s).flash = s.flash ∧ (State.raisePrice s).bag = s.bag ∧
    (State.raisePrice s).card = s.card ∧ (State.raisePrice s).supply = s.supply ∧
    (State.raisePrice s).drw1 = s.drw1 ∧ (State.raisePrice s).drw2 = s.drw2 ∧
    (State.raisePrice s).noSale = s.noSale ∧ (State.raisePrice s).prn = s.prn ∧ (State.raisePrice s).attn = s.attn ∧
    (State.raisePrice s).pending = s.pending := by
  simp [State.raisePrice]

@[simp] theorem State.clearInFlight_keeps (s : State) :
    (State.clearInFlight s).clock = s.clock ∧ (State.clearInFlight s).link = s.link ∧
    (State.clearInFlight s).chP = s.chP ∧ (State.clearInFlight s).chB = s.chB ∧
    (State.clearInFlight s).cal = s.cal ∧ (State.clearInFlight s).pw = s.pw ∧
    (State.clearInFlight s).store = s.store ∧ (State.clearInFlight s).flash = s.flash ∧
    (State.clearInFlight s).bag = s.bag ∧ (State.clearInFlight s).card = s.card ∧
    (State.clearInFlight s).supply = s.supply ∧ (State.clearInFlight s).drw1 = s.drw1 ∧
    (State.clearInFlight s).drw2 = s.drw2 ∧ (State.clearInFlight s).noSale = s.noSale ∧
    (State.clearInFlight s).prn = s.prn ∧ (State.clearInFlight s).attn = s.attn ∧
    (State.clearInFlight s).pending = s.pending := by
  simp [State.clearInFlight]

@[simp] theorem State.endRequest_keeps (result : PwResult) (reason : PwReason) (s : State) :
    (State.endRequest result reason s).clock = s.clock ∧ (State.endRequest result reason s).chP = s.chP ∧
    (State.endRequest result reason s).chB = s.chB ∧ (State.endRequest result reason s).cal = s.cal ∧
    (State.endRequest result reason s).store = s.store ∧ (State.endRequest result reason s).flash = s.flash ∧
    (State.endRequest result reason s).card = s.card ∧ (State.endRequest result reason s).supply = s.supply ∧
    (State.endRequest result reason s).drw1 = s.drw1 ∧ (State.endRequest result reason s).drw2 = s.drw2 ∧
    (State.endRequest result reason s).noSale = s.noSale ∧ (State.endRequest result reason s).prn = s.prn ∧
    (State.endRequest result reason s).attn = s.attn ∧ (State.endRequest result reason s).pending = s.pending := by
  unfold State.endRequest
  split <;> simp

@[simp] theorem State.saleWritten_keeps (number : Nat) (s : State) :
    (State.saleWritten number s).clock = s.clock ∧ (State.saleWritten number s).cal = s.cal ∧
    (State.saleWritten number s).store = s.store ∧ (State.saleWritten number s).flash = s.flash ∧
    (State.saleWritten number s).card = s.card ∧ (State.saleWritten number s).supply = s.supply ∧
    (State.saleWritten number s).drw1 = s.drw1 ∧ (State.saleWritten number s).drw2 = s.drw2 ∧
    (State.saleWritten number s).noSale = s.noSale ∧ (State.saleWritten number s).prn = s.prn ∧
    (State.saleWritten number s).attn = s.attn ∧ (State.saleWritten number s).pending = s.pending := by
  simp only [State.saleWritten]
  (repeat' split) <;> simp

@[simp] theorem State.saleFailed_keeps (s : State) :
    (State.saleFailed s).clock = s.clock ∧ (State.saleFailed s).chP = s.chP ∧ (State.saleFailed s).chB = s.chB ∧
    (State.saleFailed s).cal = s.cal ∧ (State.saleFailed s).store = s.store ∧ (State.saleFailed s).flash = s.flash ∧
    (State.saleFailed s).card = s.card ∧ (State.saleFailed s).supply = s.supply ∧
    (State.saleFailed s).drw1 = s.drw1 ∧ (State.saleFailed s).drw2 = s.drw2 ∧
    (State.saleFailed s).noSale = s.noSale ∧ (State.saleFailed s).prn = s.prn ∧ (State.saleFailed s).attn = s.attn ∧
    (State.saleFailed s).pending = s.pending := by
  unfold State.saleFailed
  split <;> simp

@[simp] theorem State.abortRequest_keeps (s : State) :
    (State.abortRequest s).clock = s.clock ∧ (State.abortRequest s).chP = s.chP ∧
    (State.abortRequest s).chB = s.chB ∧ (State.abortRequest s).cal = s.cal ∧
    (State.abortRequest s).store = s.store ∧ (State.abortRequest s).flash = s.flash ∧
    (State.abortRequest s).card = s.card ∧ (State.abortRequest s).supply = s.supply ∧
    (State.abortRequest s).drw1 = s.drw1 ∧ (State.abortRequest s).drw2 = s.drw2 ∧
    (State.abortRequest s).noSale = s.noSale ∧ (State.abortRequest s).prn = s.prn ∧
    (State.abortRequest s).attn = s.attn ∧ (State.abortRequest s).pending = s.pending := by
  unfold State.abortRequest
  (repeat' split) <;> simp

@[simp] theorem State.raiseCal_keeps (event : CalEvent) (cause : Cause) (s : State) :
    (State.raiseCal event cause s).clock = s.clock ∧ (State.raiseCal event cause s).chP = s.chP ∧
    (State.raiseCal event cause s).chB = s.chB ∧ (State.raiseCal event cause s).cal = s.cal ∧
    (State.raiseCal event cause s).txn = s.txn ∧ (State.raiseCal event cause s).pw = s.pw ∧
    (State.raiseCal event cause s).store = s.store ∧ (State.raiseCal event cause s).flash = s.flash ∧
    (State.raiseCal event cause s).bag = s.bag ∧ (State.raiseCal event cause s).card = s.card ∧
    (State.raiseCal event cause s).supply = s.supply ∧ (State.raiseCal event cause s).drw1 = s.drw1 ∧
    (State.raiseCal event cause s).drw2 = s.drw2 ∧ (State.raiseCal event cause s).noSale = s.noSale ∧
    (State.raiseCal event cause s).prn = s.prn ∧ (State.raiseCal event cause s).attn = s.attn ∧
    (State.raiseCal event cause s).pending = s.pending := by
  simp [State.raiseCal]

@[simp] theorem State.dropSession_keeps (s : State) :
    (State.dropSession s).clock = s.clock ∧ (State.dropSession s).link = s.link ∧
    (State.dropSession s).chP = s.chP ∧ (State.dropSession s).chB = s.chB ∧ (State.dropSession s).txn = s.txn ∧
    (State.dropSession s).pw = s.pw ∧ (State.dropSession s).store = s.store ∧
    (State.dropSession s).flash = s.flash ∧ (State.dropSession s).bag = s.bag ∧
    (State.dropSession s).card = s.card ∧ (State.dropSession s).supply = s.supply ∧
    (State.dropSession s).drw1 = s.drw1 ∧ (State.dropSession s).drw2 = s.drw2 ∧
    (State.dropSession s).noSale = s.noSale ∧ (State.dropSession s).prn = s.prn ∧
    (State.dropSession s).attn = s.attn ∧ (State.dropSession s).pending = s.pending := by
  simp [State.dropSession]

@[simp] theorem State.endSession_keeps (x : Session) (s : State) :
    (State.endSession x s).clock = s.clock ∧ (State.endSession x s).txn = s.txn ∧
    (State.endSession x s).store = s.store ∧ (State.endSession x s).flash = s.flash ∧
    (State.endSession x s).bag = s.bag ∧ (State.endSession x s).card = s.card ∧
    (State.endSession x s).supply = s.supply ∧ (State.endSession x s).drw1 = s.drw1 ∧
    (State.endSession x s).drw2 = s.drw2 ∧ (State.endSession x s).noSale = s.noSale ∧
    (State.endSession x s).prn = s.prn ∧ (State.endSession x s).attn = s.attn ∧
    (State.endSession x s).pending = s.pending := by
  simp [State.endSession]

@[simp] theorem State.commitWritten_keeps (number : Nat) (r : CalFields) (s : State) :
    (State.commitWritten number r s).clock = s.clock ∧ (State.commitWritten number r s).txn = s.txn ∧
    (State.commitWritten number r s).store = s.store ∧ (State.commitWritten number r s).flash = s.flash ∧
    (State.commitWritten number r s).bag = s.bag ∧ (State.commitWritten number r s).card = s.card ∧
    (State.commitWritten number r s).supply = s.supply ∧ (State.commitWritten number r s).drw1 = s.drw1 ∧
    (State.commitWritten number r s).drw2 = s.drw2 ∧ (State.commitWritten number r s).noSale = s.noSale ∧
    (State.commitWritten number r s).prn = s.prn ∧ (State.commitWritten number r s).attn = s.attn ∧
    (State.commitWritten number r s).pending = s.pending := by
  unfold State.commitWritten
  split <;> simp

@[simp] theorem State.commitFailed_keeps (s : State) :
    (State.commitFailed s).clock = s.clock ∧ (State.commitFailed s).txn = s.txn ∧
    (State.commitFailed s).store = s.store ∧ (State.commitFailed s).flash = s.flash ∧
    (State.commitFailed s).bag = s.bag ∧ (State.commitFailed s).card = s.card ∧
    (State.commitFailed s).supply = s.supply ∧ (State.commitFailed s).drw1 = s.drw1 ∧
    (State.commitFailed s).drw2 = s.drw2 ∧ (State.commitFailed s).noSale = s.noSale ∧
    (State.commitFailed s).prn = s.prn ∧ (State.commitFailed s).attn = s.attn ∧
    (State.commitFailed s).pending = s.pending := by
  unfold State.commitFailed
  (repeat' split) <;> simp

@[simp] theorem State.resetSession_keeps (s : State) :
    (State.resetSession s).clock = s.clock ∧ (State.resetSession s).txn = s.txn ∧
    (State.resetSession s).store = s.store ∧ (State.resetSession s).flash = s.flash ∧
    (State.resetSession s).bag = s.bag ∧ (State.resetSession s).card = s.card ∧
    (State.resetSession s).supply = s.supply ∧ (State.resetSession s).drw1 = s.drw1 ∧
    (State.resetSession s).drw2 = s.drw2 ∧ (State.resetSession s).noSale = s.noSale ∧
    (State.resetSession s).prn = s.prn ∧ (State.resetSession s).attn = s.attn ∧
    (State.resetSession s).pending = s.pending := by
  unfold State.resetSession
  (repeat' split) <;> simp

@[simp] theorem State.raiseStore_keeps (event : StoreEvent) (sector : Nat) (s : State) :
    (State.raiseStore event sector s).clock = s.clock ∧ (State.raiseStore event sector s).chP = s.chP ∧
    (State.raiseStore event sector s).chB = s.chB ∧ (State.raiseStore event sector s).cal = s.cal ∧
    (State.raiseStore event sector s).txn = s.txn ∧ (State.raiseStore event sector s).pw = s.pw ∧
    (State.raiseStore event sector s).store = s.store ∧ (State.raiseStore event sector s).flash = s.flash ∧
    (State.raiseStore event sector s).bag = s.bag ∧ (State.raiseStore event sector s).card = s.card ∧
    (State.raiseStore event sector s).supply = s.supply ∧ (State.raiseStore event sector s).drw1 = s.drw1 ∧
    (State.raiseStore event sector s).drw2 = s.drw2 ∧ (State.raiseStore event sector s).noSale = s.noSale ∧
    (State.raiseStore event sector s).prn = s.prn ∧ (State.raiseStore event sector s).attn = s.attn ∧
    (State.raiseStore event sector s).pending = s.pending := by
  simp [State.raiseStore]

@[simp] theorem State.evalCondition_keeps (s : State) :
    (State.evalCondition s).clock = s.clock ∧ (State.evalCondition s).chP = s.chP ∧
    (State.evalCondition s).chB = s.chB ∧ (State.evalCondition s).cal = s.cal ∧
    (State.evalCondition s).txn = s.txn ∧ (State.evalCondition s).pw = s.pw ∧
    (State.evalCondition s).flash = s.flash ∧ (State.evalCondition s).bag = s.bag ∧
    (State.evalCondition s).card = s.card ∧ (State.evalCondition s).supply = s.supply ∧
    (State.evalCondition s).drw1 = s.drw1 ∧ (State.evalCondition s).drw2 = s.drw2 ∧
    (State.evalCondition s).noSale = s.noSale ∧ (State.evalCondition s).prn = s.prn ∧
    (State.evalCondition s).attn = s.attn ∧ (State.evalCondition s).pending = s.pending := by
  simp [State.evalCondition, State.ite_fields]

@[simp] theorem State.spareCheck_keeps (s : State) :
    (State.spareCheck s).clock = s.clock ∧ (State.spareCheck s).chP = s.chP ∧ (State.spareCheck s).chB = s.chB ∧
    (State.spareCheck s).cal = s.cal ∧ (State.spareCheck s).txn = s.txn ∧ (State.spareCheck s).pw = s.pw ∧
    (State.spareCheck s).flash = s.flash ∧ (State.spareCheck s).bag = s.bag ∧ (State.spareCheck s).card = s.card ∧
    (State.spareCheck s).supply = s.supply ∧ (State.spareCheck s).drw1 = s.drw1 ∧
    (State.spareCheck s).drw2 = s.drw2 ∧ (State.spareCheck s).noSale = s.noSale ∧ (State.spareCheck s).prn = s.prn ∧
    (State.spareCheck s).attn = s.attn ∧ (State.spareCheck s).pending = s.pending := by
  simp [State.spareCheck]

@[simp] theorem State.popAccess_keeps (s : State) :
    (State.popAccess s).clock = s.clock ∧ (State.popAccess s).link = s.link ∧ (State.popAccess s).chP = s.chP ∧
    (State.popAccess s).chB = s.chB ∧ (State.popAccess s).cal = s.cal ∧ (State.popAccess s).txn = s.txn ∧
    (State.popAccess s).pw = s.pw ∧ (State.popAccess s).flash = s.flash ∧ (State.popAccess s).bag = s.bag ∧
    (State.popAccess s).card = s.card ∧ (State.popAccess s).supply = s.supply ∧ (State.popAccess s).drw1 = s.drw1 ∧
    (State.popAccess s).drw2 = s.drw2 ∧ (State.popAccess s).noSale = s.noSale ∧ (State.popAccess s).prn = s.prn ∧
    (State.popAccess s).attn = s.attn ∧ (State.popAccess s).pending = s.pending := by
  simp [State.popAccess]

@[simp] theorem State.failWrite_keeps (r : RecordBody) (s : State) :
    (State.failWrite r s).clock = s.clock ∧ (State.failWrite r s).store = s.store ∧
    (State.failWrite r s).flash = s.flash ∧ (State.failWrite r s).card = s.card ∧
    (State.failWrite r s).supply = s.supply ∧ (State.failWrite r s).drw1 = s.drw1 ∧
    (State.failWrite r s).drw2 = s.drw2 ∧ (State.failWrite r s).noSale = s.noSale ∧
    (State.failWrite r s).prn = s.prn ∧ (State.failWrite r s).attn = s.attn ∧
    (State.failWrite r s).pending = s.pending := by
  unfold State.failWrite
  split <;> simp

@[simp] theorem State.tellWritten_keeps (number : Nat) (r : RecordBody) (s : State) :
    (State.tellWritten number r s).clock = s.clock ∧ (State.tellWritten number r s).store = s.store ∧
    (State.tellWritten number r s).flash = s.flash ∧ (State.tellWritten number r s).card = s.card ∧
    (State.tellWritten number r s).supply = s.supply ∧ (State.tellWritten number r s).drw1 = s.drw1 ∧
    (State.tellWritten number r s).drw2 = s.drw2 ∧ (State.tellWritten number r s).noSale = s.noSale ∧
    (State.tellWritten number r s).prn = s.prn ∧ (State.tellWritten number r s).attn = s.attn ∧
    (State.tellWritten number r s).pending = s.pending := by
  unfold State.tellWritten
  split <;> simp

@[simp] theorem State.endRead_keeps (a : Access) (health : List Health) (s : State) :
    (State.endRead a health s).clock = s.clock ∧ (State.endRead a health s).chP = s.chP ∧
    (State.endRead a health s).chB = s.chB ∧ (State.endRead a health s).cal = s.cal ∧
    (State.endRead a health s).txn = s.txn ∧ (State.endRead a health s).pw = s.pw ∧
    (State.endRead a health s).flash = s.flash ∧ (State.endRead a health s).bag = s.bag ∧
    (State.endRead a health s).card = s.card ∧ (State.endRead a health s).drw1 = s.drw1 ∧
    (State.endRead a health s).drw2 = s.drw2 ∧ (State.endRead a health s).noSale = s.noSale ∧
    (State.endRead a health s).attn = s.attn ∧ (State.endRead a health s).pending = s.pending := by
  simp only [State.endRead]
  (repeat' split) <;> simp

@[simp] theorem State.failCopies_keeps (s : State) :
    (State.failCopies s).clock = s.clock ∧ (State.failCopies s).chP = s.chP ∧ (State.failCopies s).chB = s.chB ∧
    (State.failCopies s).cal = s.cal ∧ (State.failCopies s).txn = s.txn ∧ (State.failCopies s).pw = s.pw ∧
    (State.failCopies s).flash = s.flash ∧ (State.failCopies s).bag = s.bag ∧ (State.failCopies s).card = s.card ∧
    (State.failCopies s).supply = s.supply ∧ (State.failCopies s).drw1 = s.drw1 ∧
    (State.failCopies s).drw2 = s.drw2 ∧ (State.failCopies s).noSale = s.noSale ∧ (State.failCopies s).prn = s.prn ∧
    (State.failCopies s).attn = s.attn ∧ (State.failCopies s).pending = s.pending := by
  simp [State.failCopies]

@[simp] theorem State.choose1_keeps (s : State) :
    (State.choose1 s).1.clock = s.clock ∧ (State.choose1 s).1.flash = s.flash ∧ (State.choose1 s).1.card = s.card ∧
    (State.choose1 s).1.drw1 = s.drw1 ∧ (State.choose1 s).1.drw2 = s.drw2 ∧ (State.choose1 s).1.noSale = s.noSale ∧
    (State.choose1 s).1.attn = s.attn ∧ (State.choose1 s).1.pending = s.pending := by
  simp only [State.choose1]
  (repeat' split) <;> simp

@[simp] theorem State.pumpN_keeps (k : Nat) (s : State) :
    (State.pumpN k s).clock = s.clock ∧ (State.pumpN k s).flash = s.flash ∧ (State.pumpN k s).card = s.card ∧
    (State.pumpN k s).drw1 = s.drw1 ∧ (State.pumpN k s).drw2 = s.drw2 ∧ (State.pumpN k s).noSale = s.noSale ∧
    (State.pumpN k s).attn = s.attn ∧ (State.pumpN k s).pending = s.pending := by
  induction k generalizing s with
  | zero => simp [State.pumpN]
  | succ k ih =>
    simp only [State.pumpN]
    split
    · simp
    · split
      · simp [ih]
      · simp

@[simp] theorem State.pump_keeps (s : State) :
    (State.pump s).clock = s.clock ∧ (State.pump s).flash = s.flash ∧ (State.pump s).card = s.card ∧
    (State.pump s).drw1 = s.drw1 ∧ (State.pump s).drw2 = s.drw2 ∧ (State.pump s).noSale = s.noSale ∧
    (State.pump s).attn = s.attn ∧ (State.pump s).pending = s.pending := by
  unfold State.pump
  split <;> simp

@[simp] theorem State.enqueue_keeps (a : Access) (s : State) :
    (State.enqueue a s).clock = s.clock ∧ (State.enqueue a s).flash = s.flash ∧ (State.enqueue a s).card = s.card ∧
    (State.enqueue a s).drw1 = s.drw1 ∧ (State.enqueue a s).drw2 = s.drw2 ∧ (State.enqueue a s).noSale = s.noSale ∧
    (State.enqueue a s).attn = s.attn ∧ (State.enqueue a s).pending = s.pending := by
  simp [State.enqueue]

@[simp] theorem State.handOverSale_keeps (r : SaleFields) (s : State) :
    (State.handOverSale r s).clock = s.clock ∧ (State.handOverSale r s).flash = s.flash ∧
    (State.handOverSale r s).card = s.card ∧ (State.handOverSale r s).drw1 = s.drw1 ∧
    (State.handOverSale r s).drw2 = s.drw2 ∧ (State.handOverSale r s).noSale = s.noSale ∧
    (State.handOverSale r s).attn = s.attn ∧ (State.handOverSale r s).pending = s.pending := by
  unfold State.handOverSale
  split <;> simp

@[simp] theorem State.offerSale_keeps (r : SaleFields) (s : State) :
    (State.offerSale r s).clock = s.clock ∧ (State.offerSale r s).flash = s.flash ∧
    (State.offerSale r s).card = s.card ∧ (State.offerSale r s).drw1 = s.drw1 ∧
    (State.offerSale r s).drw2 = s.drw2 ∧ (State.offerSale r s).noSale = s.noSale ∧
    (State.offerSale r s).attn = s.attn ∧ (State.offerSale r s).pending = s.pending := by
  unfold State.offerSale
  split <;> simp

@[simp] theorem State.offerLine_keeps (number : Nat) (s : State) :
    (State.offerLine number s).clock = s.clock ∧ (State.offerLine number s).flash = s.flash ∧
    (State.offerLine number s).card = s.card ∧ (State.offerLine number s).drw1 = s.drw1 ∧
    (State.offerLine number s).drw2 = s.drw2 ∧ (State.offerLine number s).noSale = s.noSale ∧
    (State.offerLine number s).attn = s.attn ∧ (State.offerLine number s).pending = s.pending := by
  unfold State.offerLine
  split <;> simp

@[simp] theorem evSaleRecordHandover_keeps (s : State) :
    (evSaleRecordHandover s).clock = s.clock ∧ (evSaleRecordHandover s).flash = s.flash ∧
    (evSaleRecordHandover s).card = s.card ∧ (evSaleRecordHandover s).drw1 = s.drw1 ∧
    (evSaleRecordHandover s).drw2 = s.drw2 ∧ (evSaleRecordHandover s).noSale = s.noSale ∧
    (evSaleRecordHandover s).attn = s.attn ∧ (evSaleRecordHandover s).pending = s.pending := by
  unfold evSaleRecordHandover
  (repeat' split) <;> simp

@[simp] theorem evWeighedLineReadHandover_keeps (s : State) :
    (evWeighedLineReadHandover s).clock = s.clock ∧ (evWeighedLineReadHandover s).flash = s.flash ∧
    (evWeighedLineReadHandover s).card = s.card ∧ (evWeighedLineReadHandover s).drw1 = s.drw1 ∧
    (evWeighedLineReadHandover s).drw2 = s.drw2 ∧ (evWeighedLineReadHandover s).noSale = s.noSale ∧
    (evWeighedLineReadHandover s).attn = s.attn ∧ (evWeighedLineReadHandover s).pending = s.pending := by
  unfold evWeighedLineReadHandover
  (repeat' split) <;> simp

@[simp] theorem State.takeSlot_keeps (u : UsedSlot) (s : State) :
    (State.takeSlot u s).clock = s.clock ∧ (State.takeSlot u s).link = s.link ∧ (State.takeSlot u s).chP = s.chP ∧
    (State.takeSlot u s).chB = s.chB ∧ (State.takeSlot u s).cal = s.cal ∧ (State.takeSlot u s).txn = s.txn ∧
    (State.takeSlot u s).pw = s.pw ∧ (State.takeSlot u s).bag = s.bag ∧ (State.takeSlot u s).card = s.card ∧
    (State.takeSlot u s).supply = s.supply ∧ (State.takeSlot u s).drw1 = s.drw1 ∧
    (State.takeSlot u s).drw2 = s.drw2 ∧ (State.takeSlot u s).noSale = s.noSale ∧ (State.takeSlot u s).prn = s.prn ∧
    (State.takeSlot u s).attn = s.attn ∧ (State.takeSlot u s).pending = s.pending := by
  unfold State.takeSlot
  split <;> simp

@[simp] theorem State.programmed_keeps (r : RecordBody) (copies : List Ch) (s : State) :
    (State.programmed r copies s).clock = s.clock ∧ (State.programmed r copies s).link = s.link ∧
    (State.programmed r copies s).chP = s.chP ∧ (State.programmed r copies s).chB = s.chB ∧ (State.programmed r copies s).cal = s.cal ∧
    (State.programmed r copies s).txn = s.txn ∧ (State.programmed r copies s).pw = s.pw ∧ (State.programmed r copies s).bag = s.bag ∧
    (State.programmed r copies s).card = s.card ∧ (State.programmed r copies s).supply = s.supply ∧
    (State.programmed r copies s).drw1 = s.drw1 ∧ (State.programmed r copies s).drw2 = s.drw2 ∧
    (State.programmed r copies s).noSale = s.noSale ∧ (State.programmed r copies s).prn = s.prn ∧
    (State.programmed r copies s).attn = s.attn ∧ (State.programmed r copies s).pending = s.pending := by
  simp [State.programmed]

@[simp] theorem State.programFailed_keeps (s : State) :
    (State.programFailed s).clock = s.clock ∧ (State.programFailed s).chP = s.chP ∧
    (State.programFailed s).chB = s.chB ∧ (State.programFailed s).cal = s.cal ∧
    (State.programFailed s).txn = s.txn ∧ (State.programFailed s).pw = s.pw ∧ (State.programFailed s).bag = s.bag ∧
    (State.programFailed s).card = s.card ∧ (State.programFailed s).supply = s.supply ∧
    (State.programFailed s).drw1 = s.drw1 ∧ (State.programFailed s).drw2 = s.drw2 ∧
    (State.programFailed s).noSale = s.noSale ∧ (State.programFailed s).prn = s.prn ∧
    (State.programFailed s).attn = s.attn ∧ (State.programFailed s).pending = s.pending := by
  simp [State.programFailed]

@[simp] theorem evRecordProgramEnd_keeps (verified : Bool) (s : State) :
    (evRecordProgramEnd verified s).clock = s.clock ∧ (evRecordProgramEnd verified s).card = s.card ∧
    (evRecordProgramEnd verified s).drw1 = s.drw1 ∧ (evRecordProgramEnd verified s).drw2 = s.drw2 ∧
    (evRecordProgramEnd verified s).noSale = s.noSale ∧ (evRecordProgramEnd verified s).attn = s.attn ∧
    (evRecordProgramEnd verified s).pending = s.pending := by
  unfold evRecordProgramEnd
  (repeat' split) <;> simp

@[simp] theorem State.markTakes_keeps (s : State) :
    (State.markTakes s).clock = s.clock ∧ (State.markTakes s).chP = s.chP ∧ (State.markTakes s).chB = s.chB ∧
    (State.markTakes s).cal = s.cal ∧ (State.markTakes s).txn = s.txn ∧ (State.markTakes s).pw = s.pw ∧
    (State.markTakes s).bag = s.bag ∧ (State.markTakes s).card = s.card ∧ (State.markTakes s).supply = s.supply ∧
    (State.markTakes s).drw1 = s.drw1 ∧ (State.markTakes s).drw2 = s.drw2 ∧ (State.markTakes s).noSale = s.noSale ∧
    (State.markTakes s).prn = s.prn ∧ (State.markTakes s).attn = s.attn ∧
    (State.markTakes s).pending = s.pending := by
  unfold State.markTakes
  split <;> simp

@[simp] theorem evHeaderMarkEnd_keeps (verified : Bool) (s : State) :
    (evHeaderMarkEnd verified s).clock = s.clock ∧ (evHeaderMarkEnd verified s).card = s.card ∧
    (evHeaderMarkEnd verified s).drw1 = s.drw1 ∧ (evHeaderMarkEnd verified s).drw2 = s.drw2 ∧
    (evHeaderMarkEnd verified s).noSale = s.noSale ∧ (evHeaderMarkEnd verified s).attn = s.attn ∧
    (evHeaderMarkEnd verified s).pending = s.pending := by
  simp only [evHeaderMarkEnd]
  (repeat' split) <;> simp

@[simp] theorem evRecordReadEnd_keeps (health : List Health) (s : State) :
    (evRecordReadEnd health s).clock = s.clock ∧ (evRecordReadEnd health s).flash = s.flash ∧
    (evRecordReadEnd health s).card = s.card ∧ (evRecordReadEnd health s).drw1 = s.drw1 ∧
    (evRecordReadEnd health s).drw2 = s.drw2 ∧ (evRecordReadEnd health s).noSale = s.noSale ∧
    (evRecordReadEnd health s).attn = s.attn ∧ (evRecordReadEnd health s).pending = s.pending := by
  unfold evRecordReadEnd
  split <;> simp

@[simp] theorem evErasePulseEnd_keeps (s : State) :
    (evErasePulseEnd s).clock = s.clock ∧ (evErasePulseEnd s).card = s.card ∧ (evErasePulseEnd s).drw1 = s.drw1 ∧
    (evErasePulseEnd s).drw2 = s.drw2 ∧ (evErasePulseEnd s).noSale = s.noSale ∧ (evErasePulseEnd s).attn = s.attn ∧
    (evErasePulseEnd s).pending = s.pending := by
  unfold evErasePulseEnd
  split <;> simp

@[simp] theorem State.retireSector_keeps (i : Nat) (s : State) :
    (State.retireSector i s).clock = s.clock ∧ (State.retireSector i s).chP = s.chP ∧
    (State.retireSector i s).chB = s.chB ∧ (State.retireSector i s).cal = s.cal ∧
    (State.retireSector i s).txn = s.txn ∧ (State.retireSector i s).pw = s.pw ∧
    (State.retireSector i s).flash = s.flash ∧ (State.retireSector i s).bag = s.bag ∧
    (State.retireSector i s).card = s.card ∧ (State.retireSector i s).supply = s.supply ∧
    (State.retireSector i s).drw1 = s.drw1 ∧ (State.retireSector i s).drw2 = s.drw2 ∧
    (State.retireSector i s).noSale = s.noSale ∧ (State.retireSector i s).prn = s.prn ∧
    (State.retireSector i s).attn = s.attn ∧ (State.retireSector i s).pending = s.pending := by
  simp [State.retireSector, State.ite_fields]

@[simp] theorem evBlankVerifyEnd_keeps (blank : Bool) (s : State) :
    (evBlankVerifyEnd blank s).clock = s.clock ∧ (evBlankVerifyEnd blank s).card = s.card ∧
    (evBlankVerifyEnd blank s).drw1 = s.drw1 ∧ (evBlankVerifyEnd blank s).drw2 = s.drw2 ∧
    (evBlankVerifyEnd blank s).noSale = s.noSale ∧ (evBlankVerifyEnd blank s).attn = s.attn ∧
    (evBlankVerifyEnd blank s).pending = s.pending := by
  unfold evBlankVerifyEnd
  (repeat' split) <;> simp

@[simp] theorem reqAlibiRead_keeps (tag : Byte) (first count : Nat) (s : State) :
    (reqAlibiRead tag first count s).1.clock = s.clock ∧ (reqAlibiRead tag first count s).1.flash = s.flash ∧
    (reqAlibiRead tag first count s).1.card = s.card ∧ (reqAlibiRead tag first count s).1.drw1 = s.drw1 ∧
    (reqAlibiRead tag first count s).1.drw2 = s.drw2 ∧ (reqAlibiRead tag first count s).1.noSale = s.noSale ∧
    (reqAlibiRead tag first count s).1.attn = s.attn ∧ (reqAlibiRead tag first count s).1.pending = s.pending := by
  unfold reqAlibiRead
  (repeat' split) <;> simp

@[simp] theorem reqAlibiRelease_keeps (upTo : Nat) (s : State) :
    (reqAlibiRelease upTo s).1.clock = s.clock ∧ (reqAlibiRelease upTo s).1.flash = s.flash ∧
    (reqAlibiRelease upTo s).1.card = s.card ∧ (reqAlibiRelease upTo s).1.drw1 = s.drw1 ∧
    (reqAlibiRelease upTo s).1.drw2 = s.drw2 ∧ (reqAlibiRelease upTo s).1.noSale = s.noSale ∧
    (reqAlibiRelease upTo s).1.attn = s.attn ∧ (reqAlibiRelease upTo s).1.pending = s.pending := by
  simp only [reqAlibiRelease]
  (repeat' split) <;> simp

@[simp] theorem reqAlibiInfo_keeps (s : State) :
    (reqAlibiInfo s).1.clock = s.clock ∧ (reqAlibiInfo s).1.link = s.link ∧ (reqAlibiInfo s).1.chP = s.chP ∧
    (reqAlibiInfo s).1.chB = s.chB ∧ (reqAlibiInfo s).1.cal = s.cal ∧ (reqAlibiInfo s).1.txn = s.txn ∧
    (reqAlibiInfo s).1.pw = s.pw ∧ (reqAlibiInfo s).1.store = s.store ∧ (reqAlibiInfo s).1.flash = s.flash ∧
    (reqAlibiInfo s).1.bag = s.bag ∧ (reqAlibiInfo s).1.card = s.card ∧ (reqAlibiInfo s).1.supply = s.supply ∧
    (reqAlibiInfo s).1.drw1 = s.drw1 ∧ (reqAlibiInfo s).1.drw2 = s.drw2 ∧ (reqAlibiInfo s).1.noSale = s.noSale ∧
    (reqAlibiInfo s).1.prn = s.prn ∧ (reqAlibiInfo s).1.attn = s.attn ∧ (reqAlibiInfo s).1.pending = s.pending := by
  simp [reqAlibiInfo]

end Sys2Proof.Machine
end

