-- ==== Sys2Proof/Laws/BlockFrames.lean ====
section
/-! SUPPORT. What the operations of the requests, the receipt printer, the card reader and the transaction leave as it was. -/

namespace Sys2Proof.Machine

@[simp] theorem State.acceptPrice_keeps (unitPrice : Nat) (presetTare : Int) (bag : Bool) (tolerance : Int) (s : State) :
    (State.acceptPrice unitPrice presetTare bag tolerance s).clock = s.clock ∧
    (State.acceptPrice unitPrice presetTare bag tolerance s).cal = s.cal ∧
    (State.acceptPrice unitPrice presetTare bag tolerance s).store = s.store ∧
    (State.acceptPrice unitPrice presetTare bag tolerance s).flash = s.flash ∧
    (State.acceptPrice unitPrice presetTare bag tolerance s).card = s.card ∧
    (State.acceptPrice unitPrice presetTare bag tolerance s).supply = s.supply ∧
    (State.acceptPrice unitPrice presetTare bag tolerance s).drw1 = s.drw1 ∧
    (State.acceptPrice unitPrice presetTare bag tolerance s).drw2 = s.drw2 ∧
    (State.acceptPrice unitPrice presetTare bag tolerance s).noSale = s.noSale ∧
    (State.acceptPrice unitPrice presetTare bag tolerance s).prn = s.prn ∧
    (State.acceptPrice unitPrice presetTare bag tolerance s).attn = s.attn ∧
    (State.acceptPrice unitPrice presetTare bag tolerance s).pending = s.pending := by
  simp only [State.acceptPrice]
  (repeat' split) <;> simp

@[simp] theorem reqPriceWeigh_keeps (unitPrice : Nat) (presetTare : Int) (flags : Nat) (tolerance : Int) (s : State) :
    (reqPriceWeigh unitPrice presetTare flags tolerance s).1.clock = s.clock ∧
    (reqPriceWeigh unitPrice presetTare flags tolerance s).1.cal = s.cal ∧
    (reqPriceWeigh unitPrice presetTare flags tolerance s).1.store = s.store ∧
    (reqPriceWeigh unitPrice presetTare flags tolerance s).1.flash = s.flash ∧
    (reqPriceWeigh unitPrice presetTare flags tolerance s).1.card = s.card ∧
    (reqPriceWeigh unitPrice presetTare flags tolerance s).1.supply = s.supply ∧
    (reqPriceWeigh unitPrice presetTare flags tolerance s).1.drw1 = s.drw1 ∧
    (reqPriceWeigh unitPrice presetTare flags tolerance s).1.drw2 = s.drw2 ∧
    (reqPriceWeigh unitPrice presetTare flags tolerance s).1.noSale = s.noSale ∧
    (reqPriceWeigh unitPrice presetTare flags tolerance s).1.prn = s.prn ∧
    (reqPriceWeigh unitPrice presetTare flags tolerance s).1.attn = s.attn ∧
    (reqPriceWeigh unitPrice presetTare flags tolerance s).1.pending = s.pending := by
  unfold reqPriceWeigh
  split <;> simp

@[simp] theorem State.testRearm_keeps (r : Report) (s : State) :
    (State.testRearm r s).clock = s.clock ∧ (State.testRearm r s).chP = s.chP ∧ (State.testRearm r s).chB = s.chB ∧
    (State.testRearm r s).cal = s.cal ∧ (State.testRearm r s).txn = s.txn ∧ (State.testRearm r s).store = s.store ∧
    (State.testRearm r s).flash = s.flash ∧ (State.testRearm r s).bag = s.bag ∧
    (State.testRearm r s).card = s.card ∧ (State.testRearm r s).supply = s.supply ∧
    (State.testRearm r s).drw1 = s.drw1 ∧ (State.testRearm r s).drw2 = s.drw2 ∧
    (State.testRearm r s).noSale = s.noSale ∧ (State.testRearm r s).prn = s.prn ∧
    (State.testRearm r s).attn = s.attn ∧ (State.testRearm r s).pending = s.pending := by
  simp [State.testRearm, State.ite_fields]

@[simp] theorem State.latchSale_keeps (r : Report) (s : State) :
    (State.latchSale r s).clock = s.clock ∧ (State.latchSale r s).flash = s.flash ∧
    (State.latchSale r s).card = s.card ∧ (State.latchSale r s).drw1 = s.drw1 ∧
    (State.latchSale r s).drw2 = s.drw2 ∧ (State.latchSale r s).noSale = s.noSale ∧
    (State.latchSale r s).attn = s.attn ∧ (State.latchSale r s).pending = s.pending := by
  simp [State.latchSale, State.ite_fields]

@[simp] theorem State.priceReading_keeps (s : State) :
    (State.priceReading s).clock = s.clock ∧ (State.priceReading s).flash = s.flash ∧
    (State.priceReading s).card = s.card ∧ (State.priceReading s).drw1 = s.drw1 ∧
    (State.priceReading s).drw2 = s.drw2 ∧ (State.priceReading s).noSale = s.noSale ∧
    (State.priceReading s).attn = s.attn ∧ (State.priceReading s).pending = s.pending := by
  simp [State.priceReading, State.ite_fields]

@[simp] theorem evSettleTimerExpiry_keeps (s : State) :
    (evSettleTimerExpiry s).chP = s.chP ∧ (evSettleTimerExpiry s).chB = s.chB ∧
    (evSettleTimerExpiry s).cal = s.cal ∧ (evSettleTimerExpiry s).store = s.store ∧
    (evSettleTimerExpiry s).flash = s.flash ∧ (evSettleTimerExpiry s).card = s.card ∧
    (evSettleTimerExpiry s).supply = s.supply ∧ (evSettleTimerExpiry s).drw1 = s.drw1 ∧
    (evSettleTimerExpiry s).drw2 = s.drw2 ∧ (evSettleTimerExpiry s).noSale = s.noSale ∧
    (evSettleTimerExpiry s).prn = s.prn ∧ (evSettleTimerExpiry s).attn = s.attn ∧
    (evSettleTimerExpiry s).pending = s.pending := by
  unfold evSettleTimerExpiry
  split <;> simp

@[simp] theorem reqPriceCancel_keeps (s : State) :
    (reqPriceCancel s).1.clock = s.clock ∧ (reqPriceCancel s).1.chP = s.chP ∧ (reqPriceCancel s).1.chB = s.chB ∧
    (reqPriceCancel s).1.cal = s.cal ∧ (reqPriceCancel s).1.store = s.store ∧ (reqPriceCancel s).1.flash = s.flash ∧
    (reqPriceCancel s).1.card = s.card ∧ (reqPriceCancel s).1.supply = s.supply ∧
    (reqPriceCancel s).1.drw1 = s.drw1 ∧ (reqPriceCancel s).1.drw2 = s.drw2 ∧
    (reqPriceCancel s).1.noSale = s.noSale ∧ (reqPriceCancel s).1.prn = s.prn ∧ (reqPriceCancel s).1.attn = s.attn ∧
    (reqPriceCancel s).1.pending = s.pending := by
  unfold reqPriceCancel
  split <;> simp

@[simp] theorem State.setSession_keeps (x : Session) (s : State) :
    (State.setSession x s).clock = s.clock ∧ (State.setSession x s).link = s.link ∧
    (State.setSession x s).chP = s.chP ∧ (State.setSession x s).chB = s.chB ∧ (State.setSession x s).txn = s.txn ∧
    (State.setSession x s).pw = s.pw ∧ (State.setSession x s).store = s.store ∧
    (State.setSession x s).flash = s.flash ∧ (State.setSession x s).bag = s.bag ∧
    (State.setSession x s).card = s.card ∧ (State.setSession x s).supply = s.supply ∧
    (State.setSession x s).drw1 = s.drw1 ∧ (State.setSession x s).drw2 = s.drw2 ∧
    (State.setSession x s).noSale = s.noSale ∧ (State.setSession x s).prn = s.prn ∧
    (State.setSession x s).attn = s.attn ∧ (State.setSession x s).pending = s.pending := by
  simp [State.setSession]

@[simp] theorem reqCalBegin_keeps (c : Ch) (s : State) :
    (reqCalBegin c s).1.clock = s.clock ∧ (reqCalBegin c s).1.txn = s.txn ∧ (reqCalBegin c s).1.store = s.store ∧
    (reqCalBegin c s).1.flash = s.flash ∧ (reqCalBegin c s).1.bag = s.bag ∧ (reqCalBegin c s).1.card = s.card ∧
    (reqCalBegin c s).1.supply = s.supply ∧ (reqCalBegin c s).1.drw1 = s.drw1 ∧ (reqCalBegin c s).1.drw2 = s.drw2 ∧
    (reqCalBegin c s).1.noSale = s.noSale ∧ (reqCalBegin c s).1.prn = s.prn ∧ (reqCalBegin c s).1.attn = s.attn ∧
    (reqCalBegin c s).1.pending = s.pending := by
  unfold reqCalBegin
  split <;> simp

@[simp] theorem calPointZero_keeps (s : State) :
    (calPointZero s).1.clock = s.clock ∧ (calPointZero s).1.link = s.link ∧ (calPointZero s).1.chP = s.chP ∧
    (calPointZero s).1.chB = s.chB ∧ (calPointZero s).1.txn = s.txn ∧ (calPointZero s).1.pw = s.pw ∧
    (calPointZero s).1.store = s.store ∧ (calPointZero s).1.flash = s.flash ∧ (calPointZero s).1.bag = s.bag ∧
    (calPointZero s).1.card = s.card ∧ (calPointZero s).1.supply = s.supply ∧ (calPointZero s).1.drw1 = s.drw1 ∧
    (calPointZero s).1.drw2 = s.drw2 ∧ (calPointZero s).1.noSale = s.noSale ∧ (calPointZero s).1.prn = s.prn ∧
    (calPointZero s).1.attn = s.attn ∧ (calPointZero s).1.pending = s.pending := by
  unfold calPointZero
  (repeat' split) <;> simp

@[simp] theorem calPointSpan_keeps (mass : Nat) (s : State) :
    (calPointSpan mass s).1.clock = s.clock ∧ (calPointSpan mass s).1.link = s.link ∧
    (calPointSpan mass s).1.chP = s.chP ∧ (calPointSpan mass s).1.chB = s.chB ∧
    (calPointSpan mass s).1.txn = s.txn ∧ (calPointSpan mass s).1.pw = s.pw ∧
    (calPointSpan mass s).1.store = s.store ∧ (calPointSpan mass s).1.flash = s.flash ∧
    (calPointSpan mass s).1.bag = s.bag ∧ (calPointSpan mass s).1.card = s.card ∧
    (calPointSpan mass s).1.supply = s.supply ∧ (calPointSpan mass s).1.drw1 = s.drw1 ∧
    (calPointSpan mass s).1.drw2 = s.drw2 ∧ (calPointSpan mass s).1.noSale = s.noSale ∧
    (calPointSpan mass s).1.prn = s.prn ∧ (calPointSpan mass s).1.attn = s.attn ∧
    (calPointSpan mass s).1.pending = s.pending := by
  unfold calPointSpan
  (repeat' split) <;> simp

@[simp] theorem reqCalPoint_keeps (point mass : Nat) (s : State) :
    (reqCalPoint point mass s).1.clock = s.clock ∧ (reqCalPoint point mass s).1.link = s.link ∧
    (reqCalPoint point mass s).1.chP = s.chP ∧ (reqCalPoint point mass s).1.chB = s.chB ∧
    (reqCalPoint point mass s).1.txn = s.txn ∧ (reqCalPoint point mass s).1.pw = s.pw ∧
    (reqCalPoint point mass s).1.store = s.store ∧ (reqCalPoint point mass s).1.flash = s.flash ∧
    (reqCalPoint point mass s).1.bag = s.bag ∧ (reqCalPoint point mass s).1.card = s.card ∧
    (reqCalPoint point mass s).1.supply = s.supply ∧ (reqCalPoint point mass s).1.drw1 = s.drw1 ∧
    (reqCalPoint point mass s).1.drw2 = s.drw2 ∧ (reqCalPoint point mass s).1.noSale = s.noSale ∧
    (reqCalPoint point mass s).1.prn = s.prn ∧ (reqCalPoint point mass s).1.attn = s.attn ∧
    (reqCalPoint point mass s).1.pending = s.pending := by
  unfold reqCalPoint
  split <;> simp

@[simp] theorem reqCalParams_keeps (max : Int) (e n st tracking : Nat) (s : State) :
    (reqCalParams max e n st tracking s).1.clock = s.clock ∧ (reqCalParams max e n st tracking s).1.link = s.link ∧
    (reqCalParams max e n st tracking s).1.chP = s.chP ∧ (reqCalParams max e n st tracking s).1.chB = s.chB ∧
    (reqCalParams max e n st tracking s).1.txn = s.txn ∧ (reqCalParams max e n st tracking s).1.pw = s.pw ∧
    (reqCalParams max e n st tracking s).1.store = s.store ∧
    (reqCalParams max e n st tracking s).1.flash = s.flash ∧ (reqCalParams max e n st tracking s).1.bag = s.bag ∧
    (reqCalParams max e n st tracking s).1.card = s.card ∧
    (reqCalParams max e n st tracking s).1.supply = s.supply ∧
    (reqCalParams max e n st tracking s).1.drw1 = s.drw1 ∧ (reqCalParams max e n st tracking s).1.drw2 = s.drw2 ∧
    (reqCalParams max e n st tracking s).1.noSale = s.noSale ∧ (reqCalParams max e n st tracking s).1.prn = s.prn ∧
    (reqCalParams max e n st tracking s).1.attn = s.attn ∧
    (reqCalParams max e n st tracking s).1.pending = s.pending := by
  unfold reqCalParams
  (repeat' split) <;> simp

@[simp] theorem reqCalCommit_keeps (s : State) :
    (reqCalCommit s).1.clock = s.clock ∧ (reqCalCommit s).1.flash = s.flash ∧ (reqCalCommit s).1.card = s.card ∧
    (reqCalCommit s).1.drw1 = s.drw1 ∧ (reqCalCommit s).1.drw2 = s.drw2 ∧ (reqCalCommit s).1.noSale = s.noSale ∧
    (reqCalCommit s).1.attn = s.attn ∧ (reqCalCommit s).1.pending = s.pending := by
  unfold reqCalCommit
  (repeat' split) <;> simp

@[simp] theorem reqCalAbandon_keeps (s : State) :
    (reqCalAbandon s).1.clock = s.clock ∧ (reqCalAbandon s).1.txn = s.txn ∧ (reqCalAbandon s).1.store = s.store ∧
    (reqCalAbandon s).1.flash = s.flash ∧ (reqCalAbandon s).1.bag = s.bag ∧ (reqCalAbandon s).1.card = s.card ∧
    (reqCalAbandon s).1.supply = s.supply ∧ (reqCalAbandon s).1.drw1 = s.drw1 ∧ (reqCalAbandon s).1.drw2 = s.drw2 ∧
    (reqCalAbandon s).1.noSale = s.noSale ∧ (reqCalAbandon s).1.prn = s.prn ∧ (reqCalAbandon s).1.attn = s.attn ∧
    (reqCalAbandon s).1.pending = s.pending := by
  unfold reqCalAbandon
  split <;> simp

@[simp] theorem State.switchOpens_keeps (x : Session) (s : State) :
    (State.switchOpens x s).clock = s.clock ∧ (State.switchOpens x s).txn = s.txn ∧
    (State.switchOpens x s).store = s.store ∧ (State.switchOpens x s).flash = s.flash ∧
    (State.switchOpens x s).bag = s.bag ∧ (State.switchOpens x s).card = s.card ∧
    (State.switchOpens x s).supply = s.supply ∧ (State.switchOpens x s).drw1 = s.drw1 ∧
    (State.switchOpens x s).drw2 = s.drw2 ∧ (State.switchOpens x s).noSale = s.noSale ∧
    (State.switchOpens x s).prn = s.prn ∧ (State.switchOpens x s).attn = s.attn ∧
    (State.switchOpens x s).pending = s.pending := by
  unfold State.switchOpens
  split <;> simp

@[simp] theorem evMetrologySwitchChange_keeps (closed : Bool) (s : State) :
    (evMetrologySwitchChange closed s).clock = s.clock ∧ (evMetrologySwitchChange closed s).txn = s.txn ∧
    (evMetrologySwitchChange closed s).store = s.store ∧ (evMetrologySwitchChange closed s).flash = s.flash ∧
    (evMetrologySwitchChange closed s).bag = s.bag ∧ (evMetrologySwitchChange closed s).card = s.card ∧
    (evMetrologySwitchChange closed s).supply = s.supply ∧ (evMetrologySwitchChange closed s).drw1 = s.drw1 ∧
    (evMetrologySwitchChange closed s).drw2 = s.drw2 ∧ (evMetrologySwitchChange closed s).noSale = s.noSale ∧
    (evMetrologySwitchChange closed s).prn = s.prn ∧ (evMetrologySwitchChange closed s).attn = s.attn ∧
    (evMetrologySwitchChange closed s).pending = s.pending := by
  simp only [evMetrologySwitchChange]
  (repeat' split) <;> simp

@[simp] theorem State.raisePrint_keeps (s : State) :
    (State.raisePrint s).clock = s.clock ∧ (State.raisePrint s).chP = s.chP ∧ (State.raisePrint s).chB = s.chB ∧
    (State.raisePrint s).cal = s.cal ∧ (State.raisePrint s).txn = s.txn ∧ (State.raisePrint s).pw = s.pw ∧
    (State.raisePrint s).store = s.store ∧ (State.raisePrint s).flash = s.flash ∧ (State.raisePrint s).bag = s.bag ∧
    (State.raisePrint s).card = s.card ∧ (State.raisePrint s).supply = s.supply ∧
    (State.raisePrint s).drw1 = s.drw1 ∧ (State.raisePrint s).drw2 = s.drw2 ∧
    (State.raisePrint s).noSale = s.noSale ∧ (State.raisePrint s).prn = s.prn ∧ (State.raisePrint s).attn = s.attn ∧
    (State.raisePrint s).pending = s.pending := by
  simp [State.raisePrint]

@[simp] theorem State.completeRecord_keeps (s : State) :
    (State.completeRecord s).clock = s.clock ∧ (State.completeRecord s).link = s.link ∧
    (State.completeRecord s).chP = s.chP ∧ (State.completeRecord s).chB = s.chB ∧
    (State.completeRecord s).cal = s.cal ∧ (State.completeRecord s).txn = s.txn ∧
    (State.completeRecord s).pw = s.pw ∧ (State.completeRecord s).store = s.store ∧
    (State.completeRecord s).flash = s.flash ∧ (State.completeRecord s).bag = s.bag ∧
    (State.completeRecord s).card = s.card ∧ (State.completeRecord s).supply = s.supply ∧
    (State.completeRecord s).drw1 = s.drw1 ∧ (State.completeRecord s).drw2 = s.drw2 ∧
    (State.completeRecord s).noSale = s.noSale ∧ (State.completeRecord s).attn = s.attn ∧
    (State.completeRecord s).pending = s.pending := by
  simp [State.completeRecord]

@[simp] theorem State.startCut_keeps (partialCut : Bool) (s : State) :
    (State.startCut partialCut s).clock = s.clock ∧ (State.startCut partialCut s).link = s.link ∧ (State.startCut partialCut s).chP = s.chP ∧
    (State.startCut partialCut s).chB = s.chB ∧ (State.startCut partialCut s).cal = s.cal ∧ (State.startCut partialCut s).txn = s.txn ∧
    (State.startCut partialCut s).pw = s.pw ∧ (State.startCut partialCut s).store = s.store ∧ (State.startCut partialCut s).flash = s.flash ∧
    (State.startCut partialCut s).bag = s.bag ∧ (State.startCut partialCut s).card = s.card ∧ (State.startCut partialCut s).supply = s.supply ∧
    (State.startCut partialCut s).drw1 = s.drw1 ∧ (State.startCut partialCut s).drw2 = s.drw2 ∧ (State.startCut partialCut s).noSale = s.noSale ∧
    (State.startCut partialCut s).attn = s.attn ∧ (State.startCut partialCut s).pending = s.pending := by
  simp [State.startCut]

@[simp] theorem State.receiptPrinted_keeps (receipt : Nat) (s : State) :
    (State.receiptPrinted receipt s).clock = s.clock ∧ (State.receiptPrinted receipt s).link = s.link ∧
    (State.receiptPrinted receipt s).chP = s.chP ∧ (State.receiptPrinted receipt s).chB = s.chB ∧
    (State.receiptPrinted receipt s).cal = s.cal ∧ (State.receiptPrinted receipt s).pw = s.pw ∧
    (State.receiptPrinted receipt s).store = s.store ∧ (State.receiptPrinted receipt s).flash = s.flash ∧
    (State.receiptPrinted receipt s).card = s.card ∧ (State.receiptPrinted receipt s).supply = s.supply ∧
    (State.receiptPrinted receipt s).drw1 = s.drw1 ∧ (State.receiptPrinted receipt s).drw2 = s.drw2 ∧
    (State.receiptPrinted receipt s).noSale = s.noSale ∧ (State.receiptPrinted receipt s).prn = s.prn ∧
    (State.receiptPrinted receipt s).attn = s.attn ∧ (State.receiptPrinted receipt s).pending = s.pending := by
  unfold State.receiptPrinted
  split <;> simp

@[simp] theorem State.receiptDone_keeps (receipt : Nat) (s : State) :
    (State.receiptDone receipt s).clock = s.clock ∧ (State.receiptDone receipt s).link = s.link ∧
    (State.receiptDone receipt s).chP = s.chP ∧ (State.receiptDone receipt s).chB = s.chB ∧
    (State.receiptDone receipt s).cal = s.cal ∧ (State.receiptDone receipt s).pw = s.pw ∧
    (State.receiptDone receipt s).store = s.store ∧ (State.receiptDone receipt s).flash = s.flash ∧
    (State.receiptDone receipt s).card = s.card ∧ (State.receiptDone receipt s).supply = s.supply ∧
    (State.receiptDone receipt s).drw1 = s.drw1 ∧ (State.receiptDone receipt s).drw2 = s.drw2 ∧
    (State.receiptDone receipt s).noSale = s.noSale ∧ (State.receiptDone receipt s).attn = s.attn ∧
    (State.receiptDone receipt s).pending = s.pending := by
  simp [State.receiptDone]

@[simp] theorem State.startRecord_keeps (r : PrintRecord) (s : State) :
    (State.startRecord r s).clock = s.clock ∧ (State.startRecord r s).flash = s.flash ∧
    (State.startRecord r s).card = s.card ∧ (State.startRecord r s).drw1 = s.drw1 ∧
    (State.startRecord r s).drw2 = s.drw2 ∧ (State.startRecord r s).noSale = s.noSale ∧
    (State.startRecord r s).attn = s.attn ∧ (State.startRecord r s).pending = s.pending := by
  unfold State.startRecord
  split <;> simp

@[simp] theorem State.startNextN_keeps (k : Nat) (s : State) :
    (State.startNextN k s).clock = s.clock ∧ (State.startNextN k s).flash = s.flash ∧
    (State.startNextN k s).card = s.card ∧ (State.startNextN k s).drw1 = s.drw1 ∧
    (State.startNextN k s).drw2 = s.drw2 ∧ (State.startNextN k s).noSale = s.noSale ∧
    (State.startNextN k s).attn = s.attn ∧ (State.startNextN k s).pending = s.pending := by
  induction k generalizing s with
  | zero => simp [State.startNextN]
  | succ k ih =>
    simp only [State.startNextN]
    (repeat' split) <;> simp [ih]

@[simp] theorem State.startNext_keeps (s : State) :
    (State.startNext s).clock = s.clock ∧ (State.startNext s).flash = s.flash ∧ (State.startNext s).card = s.card ∧
    (State.startNext s).drw1 = s.drw1 ∧ (State.startNext s).drw2 = s.drw2 ∧ (State.startNext s).noSale = s.noSale ∧
    (State.startNext s).attn = s.attn ∧ (State.startNext s).pending = s.pending := by
  simp [State.startNext]

@[simp] theorem State.weighedLinePrinted_keeps (j : TextJob) (s : State) :
    (State.weighedLinePrinted j s).clock = s.clock ∧ (State.weighedLinePrinted j s).link = s.link ∧
    (State.weighedLinePrinted j s).chP = s.chP ∧ (State.weighedLinePrinted j s).chB = s.chB ∧
    (State.weighedLinePrinted j s).cal = s.cal ∧ (State.weighedLinePrinted j s).pw = s.pw ∧
    (State.weighedLinePrinted j s).store = s.store ∧ (State.weighedLinePrinted j s).flash = s.flash ∧
    (State.weighedLinePrinted j s).bag = s.bag ∧ (State.weighedLinePrinted j s).card = s.card ∧
    (State.weighedLinePrinted j s).supply = s.supply ∧ (State.weighedLinePrinted j s).drw1 = s.drw1 ∧
    (State.weighedLinePrinted j s).drw2 = s.drw2 ∧ (State.weighedLinePrinted j s).noSale = s.noSale ∧
    (State.weighedLinePrinted j s).attn = s.attn ∧ (State.weighedLinePrinted j s).pending = s.pending := by
  simp [State.weighedLinePrinted, State.ite_fields]

@[simp] theorem State.goOn_keeps (s : State) :
    (State.goOn s).clock = s.clock ∧ (State.goOn s).flash = s.flash ∧ (State.goOn s).card = s.card ∧
    (State.goOn s).drw1 = s.drw1 ∧ (State.goOn s).drw2 = s.drw2 ∧ (State.goOn s).noSale = s.noSale ∧
    (State.goOn s).attn = s.attn ∧ (State.goOn s).pending = s.pending := by
  unfold State.goOn
  (repeat' split) <;> simp

@[simp] theorem State.lineEnds_keeps (w : Work) (s : State) :
    (State.lineEnds w s).clock = s.clock ∧ (State.lineEnds w s).flash = s.flash ∧
    (State.lineEnds w s).card = s.card ∧ (State.lineEnds w s).drw1 = s.drw1 ∧ (State.lineEnds w s).drw2 = s.drw2 ∧
    (State.lineEnds w s).noSale = s.noSale ∧ (State.lineEnds w s).attn = s.attn ∧
    (State.lineEnds w s).pending = s.pending := by
  simp only [State.lineEnds]
  (repeat' split) <;> simp

@[simp] theorem evPaperAdvanceEnd_keeps (s : State) :
    (evPaperAdvanceEnd s).clock = s.clock ∧ (evPaperAdvanceEnd s).flash = s.flash ∧
    (evPaperAdvanceEnd s).card = s.card ∧ (evPaperAdvanceEnd s).drw1 = s.drw1 ∧
    (evPaperAdvanceEnd s).drw2 = s.drw2 ∧ (evPaperAdvanceEnd s).noSale = s.noSale ∧
    (evPaperAdvanceEnd s).attn = s.attn ∧ (evPaperAdvanceEnd s).pending = s.pending := by
  unfold evPaperAdvanceEnd
  (repeat' split) <;> simp

@[simp] theorem State.cycleEnds_keeps (s : State) :
    (State.cycleEnds s).clock = s.clock ∧ (State.cycleEnds s).flash = s.flash ∧ (State.cycleEnds s).card = s.card ∧
    (State.cycleEnds s).drw1 = s.drw1 ∧ (State.cycleEnds s).drw2 = s.drw2 ∧ (State.cycleEnds s).noSale = s.noSale ∧
    (State.cycleEnds s).attn = s.attn ∧ (State.cycleEnds s).pending = s.pending := by
  simp only [State.cycleEnds]
  (repeat' split) <;> simp

@[simp] theorem evCutterDriveEnd_keeps (s : State) :
    (evCutterDriveEnd s).flash = s.flash ∧ (evCutterDriveEnd s).card = s.card ∧ (evCutterDriveEnd s).drw1 = s.drw1 ∧
    (evCutterDriveEnd s).drw2 = s.drw2 ∧ (evCutterDriveEnd s).noSale = s.noSale ∧
    (evCutterDriveEnd s).attn = s.attn ∧ (evCutterDriveEnd s).pending = s.pending := by
  simp only [evCutterDriveEnd]
  (repeat' split) <;> simp

@[simp] theorem evCutterHomeChange_keeps (home : Bool) (s : State) :
    (evCutterHomeChange home s).clock = s.clock ∧ (evCutterHomeChange home s).flash = s.flash ∧
    (evCutterHomeChange home s).card = s.card ∧ (evCutterHomeChange home s).drw1 = s.drw1 ∧
    (evCutterHomeChange home s).drw2 = s.drw2 ∧ (evCutterHomeChange home s).noSale = s.noSale ∧
    (evCutterHomeChange home s).attn = s.attn ∧ (evCutterHomeChange home s).pending = s.pending := by
  simp only [evCutterHomeChange]
  (repeat' split) <;> simp

@[simp] theorem evJamTimerExpiry_keeps (s : State) :
    (evJamTimerExpiry s).flash = s.flash ∧ (evJamTimerExpiry s).card = s.card ∧ (evJamTimerExpiry s).drw1 = s.drw1 ∧
    (evJamTimerExpiry s).drw2 = s.drw2 ∧ (evJamTimerExpiry s).noSale = s.noSale ∧
    (evJamTimerExpiry s).attn = s.attn ∧ (evJamTimerExpiry s).pending = s.pending := by
  unfold evJamTimerExpiry
  (repeat' split) <;> simp

@[simp] theorem State.checkStop_keeps (s : State) :
    (State.checkStop s).clock = s.clock ∧ (State.checkStop s).link = s.link ∧ (State.checkStop s).chP = s.chP ∧
    (State.checkStop s).chB = s.chB ∧ (State.checkStop s).cal = s.cal ∧ (State.checkStop s).txn = s.txn ∧
    (State.checkStop s).pw = s.pw ∧ (State.checkStop s).store = s.store ∧ (State.checkStop s).flash = s.flash ∧
    (State.checkStop s).bag = s.bag ∧ (State.checkStop s).card = s.card ∧ (State.checkStop s).supply = s.supply ∧
    (State.checkStop s).drw1 = s.drw1 ∧ (State.checkStop s).drw2 = s.drw2 ∧ (State.checkStop s).noSale = s.noSale ∧
    (State.checkStop s).attn = s.attn ∧ (State.checkStop s).pending = s.pending := by
  simp [State.checkStop, State.ite_fields]

@[simp] theorem State.coverStop_keeps (s : State) :
    (State.coverStop s).clock = s.clock ∧ (State.coverStop s).link = s.link ∧ (State.coverStop s).chP = s.chP ∧
    (State.coverStop s).chB = s.chB ∧ (State.coverStop s).cal = s.cal ∧ (State.coverStop s).pw = s.pw ∧
    (State.coverStop s).store = s.store ∧ (State.coverStop s).flash = s.flash ∧ (State.coverStop s).card = s.card ∧
    (State.coverStop s).noSale = s.noSale ∧ (State.coverStop s).attn = s.attn ∧
    (State.coverStop s).pending = s.pending := by
  simp only [State.coverStop]
  split <;> simp

@[simp] theorem evCoverSensorChange_keeps (isOpen : Bool) (s : State) :
    (evCoverSensorChange isOpen s).clock = s.clock ∧ (evCoverSensorChange isOpen s).link = s.link ∧
    (evCoverSensorChange isOpen s).chP = s.chP ∧ (evCoverSensorChange isOpen s).chB = s.chB ∧
    (evCoverSensorChange isOpen s).cal = s.cal ∧ (evCoverSensorChange isOpen s).pw = s.pw ∧
    (evCoverSensorChange isOpen s).store = s.store ∧ (evCoverSensorChange isOpen s).flash = s.flash ∧
    (evCoverSensorChange isOpen s).card = s.card ∧ (evCoverSensorChange isOpen s).noSale = s.noSale ∧
    (evCoverSensorChange isOpen s).attn = s.attn ∧ (evCoverSensorChange isOpen s).pending = s.pending := by
  simp only [evCoverSensorChange]
  (repeat' split) <;> simp

@[simp] theorem evPaperSensorChange_keeps (present : Bool) (s : State) :
    (evPaperSensorChange present s).clock = s.clock ∧ (evPaperSensorChange present s).link = s.link ∧
    (evPaperSensorChange present s).chP = s.chP ∧ (evPaperSensorChange present s).chB = s.chB ∧
    (evPaperSensorChange present s).cal = s.cal ∧ (evPaperSensorChange present s).txn = s.txn ∧
    (evPaperSensorChange present s).pw = s.pw ∧ (evPaperSensorChange present s).store = s.store ∧
    (evPaperSensorChange present s).flash = s.flash ∧ (evPaperSensorChange present s).bag = s.bag ∧
    (evPaperSensorChange present s).card = s.card ∧ (evPaperSensorChange present s).supply = s.supply ∧
    (evPaperSensorChange present s).drw1 = s.drw1 ∧ (evPaperSensorChange present s).drw2 = s.drw2 ∧
    (evPaperSensorChange present s).noSale = s.noSale ∧ (evPaperSensorChange present s).attn = s.attn ∧
    (evPaperSensorChange present s).pending = s.pending := by
  simp [evPaperSensorChange, State.ite_fields]

@[simp] theorem evPaperLowChange_keeps (low : Bool) (s : State) :
    (evPaperLowChange low s).clock = s.clock ∧ (evPaperLowChange low s).link = s.link ∧
    (evPaperLowChange low s).chP = s.chP ∧ (evPaperLowChange low s).chB = s.chB ∧
    (evPaperLowChange low s).cal = s.cal ∧ (evPaperLowChange low s).txn = s.txn ∧
    (evPaperLowChange low s).pw = s.pw ∧ (evPaperLowChange low s).store = s.store ∧
    (evPaperLowChange low s).flash = s.flash ∧ (evPaperLowChange low s).bag = s.bag ∧
    (evPaperLowChange low s).card = s.card ∧ (evPaperLowChange low s).supply = s.supply ∧
    (evPaperLowChange low s).drw1 = s.drw1 ∧ (evPaperLowChange low s).drw2 = s.drw2 ∧
    (evPaperLowChange low s).noSale = s.noSale ∧ (evPaperLowChange low s).attn = s.attn ∧
    (evPaperLowChange low s).pending = s.pending := by
  simp [evPaperLowChange]

@[simp] theorem State.resume_keeps (s : State) :
    (State.resume s).clock = s.clock ∧ (State.resume s).flash = s.flash ∧ (State.resume s).card = s.card ∧
    (State.resume s).drw1 = s.drw1 ∧ (State.resume s).drw2 = s.drw2 ∧ (State.resume s).noSale = s.noSale ∧
    (State.resume s).attn = s.attn ∧ (State.resume s).pending = s.pending := by
  simp only [State.resume]
  (repeat' split) <;> simp

@[simp] theorem State.tryResume_keeps (s : State) :
    (State.tryResume s).clock = s.clock ∧ (State.tryResume s).flash = s.flash ∧ (State.tryResume s).card = s.card ∧
    (State.tryResume s).drw1 = s.drw1 ∧ (State.tryResume s).drw2 = s.drw2 ∧ (State.tryResume s).noSale = s.noSale ∧
    (State.tryResume s).attn = s.attn ∧ (State.tryResume s).pending = s.pending := by
  unfold State.tryResume
  split <;> simp

@[simp] theorem evHeadMonitorSample_keeps (v : SupplySamples) (temp : TempSamples) (s : State) :
    (evHeadMonitorSample v temp s).clock = s.clock ∧ (evHeadMonitorSample v temp s).flash = s.flash ∧
    (evHeadMonitorSample v temp s).card = s.card ∧ (evHeadMonitorSample v temp s).drw1 = s.drw1 ∧
    (evHeadMonitorSample v temp s).drw2 = s.drw2 ∧ (evHeadMonitorSample v temp s).noSale = s.noSale ∧
    (evHeadMonitorSample v temp s).attn = s.attn ∧ (evHeadMonitorSample v temp s).pending = s.pending := by
  simp [evHeadMonitorSample, State.ite_fields]

@[simp] theorem reqPrintResume_keeps (s : State) :
    (reqPrintResume s).1.clock = s.clock ∧ (reqPrintResume s).1.flash = s.flash ∧
    (reqPrintResume s).1.card = s.card ∧ (reqPrintResume s).1.drw1 = s.drw1 ∧ (reqPrintResume s).1.drw2 = s.drw2 ∧
    (reqPrintResume s).1.noSale = s.noSale ∧ (reqPrintResume s).1.attn = s.attn ∧
    (reqPrintResume s).1.pending = s.pending := by
  simp only [reqPrintResume]
  (repeat' split) <;> simp

@[simp] theorem State.dropRecord_keeps (s : State) :
    (State.dropRecord s).clock = s.clock ∧ (State.dropRecord s).flash = s.flash ∧
    (State.dropRecord s).card = s.card ∧ (State.dropRecord s).drw1 = s.drw1 ∧ (State.dropRecord s).drw2 = s.drw2 ∧
    (State.dropRecord s).noSale = s.noSale ∧ (State.dropRecord s).attn = s.attn ∧
    (State.dropRecord s).pending = s.pending := by
  simp [State.dropRecord, State.ite_fields]

@[simp] theorem State.endRecord_keeps (s : State) :
    (State.endRecord s).clock = s.clock ∧ (State.endRecord s).flash = s.flash ∧ (State.endRecord s).card = s.card ∧
    (State.endRecord s).drw1 = s.drw1 ∧ (State.endRecord s).drw2 = s.drw2 ∧ (State.endRecord s).noSale = s.noSale ∧
    (State.endRecord s).attn = s.attn ∧ (State.endRecord s).pending = s.pending := by
  unfold State.endRecord
  (repeat' split) <;> simp

@[simp] theorem reqPrintCancel_keeps (s : State) :
    (reqPrintCancel s).1.clock = s.clock ∧ (reqPrintCancel s).1.flash = s.flash ∧
    (reqPrintCancel s).1.card = s.card ∧ (reqPrintCancel s).1.drw1 = s.drw1 ∧ (reqPrintCancel s).1.drw2 = s.drw2 ∧
    (reqPrintCancel s).1.noSale = s.noSale ∧ (reqPrintCancel s).1.attn = s.attn ∧
    (reqPrintCancel s).1.pending = s.pending := by
  simp [reqPrintCancel]

@[simp] theorem State.cancelReceipt_keeps (receipt : Nat) (s : State) :
    (State.cancelReceipt receipt s).clock = s.clock ∧ (State.cancelReceipt receipt s).flash = s.flash ∧
    (State.cancelReceipt receipt s).card = s.card ∧ (State.cancelReceipt receipt s).drw1 = s.drw1 ∧
    (State.cancelReceipt receipt s).drw2 = s.drw2 ∧ (State.cancelReceipt receipt s).noSale = s.noSale ∧
    (State.cancelReceipt receipt s).attn = s.attn ∧ (State.cancelReceipt receipt s).pending = s.pending := by
  simp [State.cancelReceipt, State.ite_fields]

@[simp] theorem State.resetPrinter_keeps (s : State) :
    (State.resetPrinter s).clock = s.clock ∧ (State.resetPrinter s).link = s.link ∧
    (State.resetPrinter s).chP = s.chP ∧ (State.resetPrinter s).chB = s.chB ∧ (State.resetPrinter s).cal = s.cal ∧
    (State.resetPrinter s).txn = s.txn ∧ (State.resetPrinter s).pw = s.pw ∧ (State.resetPrinter s).flash = s.flash ∧
    (State.resetPrinter s).bag = s.bag ∧ (State.resetPrinter s).card = s.card ∧
    (State.resetPrinter s).drw1 = s.drw1 ∧ (State.resetPrinter s).drw2 = s.drw2 ∧
    (State.resetPrinter s).noSale = s.noSale ∧ (State.resetPrinter s).attn = s.attn ∧
    (State.resetPrinter s).pending = s.pending := by
  simp [State.resetPrinter]

@[simp] theorem State.takeRecords_keeps (t : Trial) (s : State) :
    (State.takeRecords t s).clock = s.clock ∧ (State.takeRecords t s).link = s.link ∧
    (State.takeRecords t s).chP = s.chP ∧ (State.takeRecords t s).chB = s.chB ∧
    (State.takeRecords t s).cal = s.cal ∧ (State.takeRecords t s).pw = s.pw ∧
    (State.takeRecords t s).store = s.store ∧ (State.takeRecords t s).flash = s.flash ∧
    (State.takeRecords t s).card = s.card ∧ (State.takeRecords t s).supply = s.supply ∧
    (State.takeRecords t s).drw1 = s.drw1 ∧ (State.takeRecords t s).drw2 = s.drw2 ∧
    (State.takeRecords t s).noSale = s.noSale ∧ (State.takeRecords t s).attn = s.attn ∧
    (State.takeRecords t s).pending = s.pending := by
  simp [State.takeRecords, State.ite_fields]

@[simp] theorem reqPrintRecords_keeps (rs : List PrintRecord) (s : State) :
    (reqPrintRecords rs s).1.clock = s.clock ∧ (reqPrintRecords rs s).1.flash = s.flash ∧
    (reqPrintRecords rs s).1.card = s.card ∧ (reqPrintRecords rs s).1.drw1 = s.drw1 ∧
    (reqPrintRecords rs s).1.drw2 = s.drw2 ∧ (reqPrintRecords rs s).1.noSale = s.noSale ∧
    (reqPrintRecords rs s).1.attn = s.attn ∧ (reqPrintRecords rs s).1.pending = s.pending := by
  simp only [reqPrintRecords]
  (repeat' split) <;> simp

@[simp] theorem State.raiseCard_keeps (event : CardEvent) (s : State) :
    (State.raiseCard event s).clock = s.clock ∧ (State.raiseCard event s).chP = s.chP ∧
    (State.raiseCard event s).chB = s.chB ∧ (State.raiseCard event s).cal = s.cal ∧
    (State.raiseCard event s).txn = s.txn ∧ (State.raiseCard event s).pw = s.pw ∧
    (State.raiseCard event s).store = s.store ∧ (State.raiseCard event s).flash = s.flash ∧
    (State.raiseCard event s).bag = s.bag ∧ (State.raiseCard event s).card = s.card ∧
    (State.raiseCard event s).supply = s.supply ∧ (State.raiseCard event s).drw1 = s.drw1 ∧
    (State.raiseCard event s).drw2 = s.drw2 ∧ (State.raiseCard event s).noSale = s.noSale ∧
    (State.raiseCard event s).prn = s.prn ∧ (State.raiseCard event s).attn = s.attn ∧
    (State.raiseCard event s).pending = s.pending := by
  simp [State.raiseCard]

@[simp] theorem State.releaseCardLeft_keeps (s : State) :
    (State.releaseCardLeft s).clock = s.clock ∧ (State.releaseCardLeft s).link = s.link ∧
    (State.releaseCardLeft s).chP = s.chP ∧ (State.releaseCardLeft s).chB = s.chB ∧
    (State.releaseCardLeft s).cal = s.cal ∧ (State.releaseCardLeft s).txn = s.txn ∧
    (State.releaseCardLeft s).pw = s.pw ∧ (State.releaseCardLeft s).store = s.store ∧
    (State.releaseCardLeft s).flash = s.flash ∧ (State.releaseCardLeft s).bag = s.bag ∧
    (State.releaseCardLeft s).supply = s.supply ∧ (State.releaseCardLeft s).drw1 = s.drw1 ∧
    (State.releaseCardLeft s).drw2 = s.drw2 ∧ (State.releaseCardLeft s).noSale = s.noSale ∧
    (State.releaseCardLeft s).prn = s.prn ∧ (State.releaseCardLeft s).pending = s.pending := by
  unfold State.releaseCardLeft
  split <;> simp

@[simp] theorem evCardSwitchChange_keeps (switch : CardSwitch) (closed : Bool) (s : State) :
    (evCardSwitchChange switch closed s).clock = s.clock ∧ (evCardSwitchChange switch closed s).chP = s.chP ∧
    (evCardSwitchChange switch closed s).chB = s.chB ∧ (evCardSwitchChange switch closed s).cal = s.cal ∧
    (evCardSwitchChange switch closed s).txn = s.txn ∧ (evCardSwitchChange switch closed s).pw = s.pw ∧
    (evCardSwitchChange switch closed s).store = s.store ∧ (evCardSwitchChange switch closed s).flash = s.flash ∧
    (evCardSwitchChange switch closed s).bag = s.bag ∧ (evCardSwitchChange switch closed s).supply = s.supply ∧
    (evCardSwitchChange switch closed s).drw1 = s.drw1 ∧ (evCardSwitchChange switch closed s).drw2 = s.drw2 ∧
    (evCardSwitchChange switch closed s).noSale = s.noSale ∧ (evCardSwitchChange switch closed s).prn = s.prn ∧
    (evCardSwitchChange switch closed s).pending = s.pending := by
  simp only [evCardSwitchChange]
  (repeat' split) <;> simp

@[simp] theorem evFluxTransition_keeps (k : Track) (elapsed : Nat) (s : State) :
    (evFluxTransition k elapsed s).clock = s.clock ∧ (evFluxTransition k elapsed s).link = s.link ∧
    (evFluxTransition k elapsed s).chP = s.chP ∧ (evFluxTransition k elapsed s).chB = s.chB ∧
    (evFluxTransition k elapsed s).cal = s.cal ∧ (evFluxTransition k elapsed s).txn = s.txn ∧
    (evFluxTransition k elapsed s).pw = s.pw ∧ (evFluxTransition k elapsed s).store = s.store ∧
    (evFluxTransition k elapsed s).flash = s.flash ∧ (evFluxTransition k elapsed s).bag = s.bag ∧
    (evFluxTransition k elapsed s).supply = s.supply ∧ (evFluxTransition k elapsed s).drw1 = s.drw1 ∧
    (evFluxTransition k elapsed s).drw2 = s.drw2 ∧ (evFluxTransition k elapsed s).noSale = s.noSale ∧
    (evFluxTransition k elapsed s).prn = s.prn ∧ (evFluxTransition k elapsed s).attn = s.attn ∧
    (evFluxTransition k elapsed s).pending = s.pending := by
  unfold evFluxTransition
  split <;> simp

@[simp] theorem evFluxGap_keeps (k : Track) (s : State) :
    (evFluxGap k s).clock = s.clock ∧ (evFluxGap k s).link = s.link ∧ (evFluxGap k s).chP = s.chP ∧
    (evFluxGap k s).chB = s.chB ∧ (evFluxGap k s).cal = s.cal ∧ (evFluxGap k s).txn = s.txn ∧
    (evFluxGap k s).pw = s.pw ∧ (evFluxGap k s).store = s.store ∧ (evFluxGap k s).flash = s.flash ∧
    (evFluxGap k s).bag = s.bag ∧ (evFluxGap k s).supply = s.supply ∧ (evFluxGap k s).drw1 = s.drw1 ∧
    (evFluxGap k s).drw2 = s.drw2 ∧ (evFluxGap k s).noSale = s.noSale ∧ (evFluxGap k s).prn = s.prn ∧
    (evFluxGap k s).attn = s.attn ∧ (evFluxGap k s).pending = s.pending := by
  unfold evFluxGap
  split <;> simp

@[simp] theorem evDecodeEnd_keeps (s : State) :
    (evDecodeEnd s).clock = s.clock ∧ (evDecodeEnd s).chP = s.chP ∧ (evDecodeEnd s).chB = s.chB ∧
    (evDecodeEnd s).cal = s.cal ∧ (evDecodeEnd s).txn = s.txn ∧ (evDecodeEnd s).pw = s.pw ∧
    (evDecodeEnd s).store = s.store ∧ (evDecodeEnd s).flash = s.flash ∧ (evDecodeEnd s).bag = s.bag ∧
    (evDecodeEnd s).supply = s.supply ∧ (evDecodeEnd s).drw1 = s.drw1 ∧ (evDecodeEnd s).drw2 = s.drw2 ∧
    (evDecodeEnd s).noSale = s.noSale ∧ (evDecodeEnd s).prn = s.prn ∧ (evDecodeEnd s).attn = s.attn ∧
    (evDecodeEnd s).pending = s.pending := by
  unfold evDecodeEnd
  split <;> simp

@[simp] theorem State.eraseRead_keeps (event : CardEvent) (s : State) :
    (State.eraseRead event s).clock = s.clock ∧ (State.eraseRead event s).chP = s.chP ∧
    (State.eraseRead event s).chB = s.chB ∧ (State.eraseRead event s).cal = s.cal ∧
    (State.eraseRead event s).txn = s.txn ∧ (State.eraseRead event s).pw = s.pw ∧
    (State.eraseRead event s).store = s.store ∧ (State.eraseRead event s).flash = s.flash ∧
    (State.eraseRead event s).bag = s.bag ∧ (State.eraseRead event s).supply = s.supply ∧
    (State.eraseRead event s).drw1 = s.drw1 ∧ (State.eraseRead event s).drw2 = s.drw2 ∧
    (State.eraseRead event s).noSale = s.noSale ∧ (State.eraseRead event s).prn = s.prn ∧
    (State.eraseRead event s).attn = s.attn ∧ (State.eraseRead event s).pending = s.pending := by
  simp [State.eraseRead]

@[simp] theorem evHoldTimerExpiry_keeps (s : State) :
    (evHoldTimerExpiry s).chP = s.chP ∧ (evHoldTimerExpiry s).chB = s.chB ∧ (evHoldTimerExpiry s).cal = s.cal ∧
    (evHoldTimerExpiry s).txn = s.txn ∧ (evHoldTimerExpiry s).pw = s.pw ∧ (evHoldTimerExpiry s).store = s.store ∧
    (evHoldTimerExpiry s).flash = s.flash ∧ (evHoldTimerExpiry s).bag = s.bag ∧
    (evHoldTimerExpiry s).supply = s.supply ∧ (evHoldTimerExpiry s).drw1 = s.drw1 ∧
    (evHoldTimerExpiry s).drw2 = s.drw2 ∧ (evHoldTimerExpiry s).noSale = s.noSale ∧
    (evHoldTimerExpiry s).prn = s.prn ∧ (evHoldTimerExpiry s).attn = s.attn ∧
    (evHoldTimerExpiry s).pending = s.pending := by
  unfold evHoldTimerExpiry
  split <;> simp

@[simp] theorem evCardLeftTimerExpiry_keeps (s : State) :
    (evCardLeftTimerExpiry s).chP = s.chP ∧ (evCardLeftTimerExpiry s).chB = s.chB ∧
    (evCardLeftTimerExpiry s).cal = s.cal ∧ (evCardLeftTimerExpiry s).txn = s.txn ∧
    (evCardLeftTimerExpiry s).pw = s.pw ∧ (evCardLeftTimerExpiry s).store = s.store ∧
    (evCardLeftTimerExpiry s).flash = s.flash ∧ (evCardLeftTimerExpiry s).bag = s.bag ∧
    (evCardLeftTimerExpiry s).supply = s.supply ∧ (evCardLeftTimerExpiry s).drw1 = s.drw1 ∧
    (evCardLeftTimerExpiry s).drw2 = s.drw2 ∧ (evCardLeftTimerExpiry s).noSale = s.noSale ∧
    (evCardLeftTimerExpiry s).prn = s.prn ∧ (evCardLeftTimerExpiry s).pending = s.pending := by
  simp only [evCardLeftTimerExpiry]
  (repeat' split) <;> simp

@[simp] theorem reqCardArm_keeps (tracks : Nat) (s : State) :
    (reqCardArm tracks s).1.clock = s.clock ∧ (reqCardArm tracks s).1.chP = s.chP ∧
    (reqCardArm tracks s).1.chB = s.chB ∧ (reqCardArm tracks s).1.cal = s.cal ∧
    (reqCardArm tracks s).1.txn = s.txn ∧ (reqCardArm tracks s).1.pw = s.pw ∧
    (reqCardArm tracks s).1.store = s.store ∧ (reqCardArm tracks s).1.flash = s.flash ∧
    (reqCardArm tracks s).1.bag = s.bag ∧ (reqCardArm tracks s).1.supply = s.supply ∧
    (reqCardArm tracks s).1.drw1 = s.drw1 ∧ (reqCardArm tracks s).1.drw2 = s.drw2 ∧
    (reqCardArm tracks s).1.noSale = s.noSale ∧ (reqCardArm tracks s).1.prn = s.prn ∧
    (reqCardArm tracks s).1.attn = s.attn ∧ (reqCardArm tracks s).1.pending = s.pending := by
  simp only [reqCardArm]
  (repeat' split) <;> simp

@[simp] theorem reqCardDisarm_keeps (s : State) :
    (reqCardDisarm s).1.clock = s.clock ∧ (reqCardDisarm s).1.chP = s.chP ∧ (reqCardDisarm s).1.chB = s.chB ∧
    (reqCardDisarm s).1.cal = s.cal ∧ (reqCardDisarm s).1.txn = s.txn ∧ (reqCardDisarm s).1.pw = s.pw ∧
    (reqCardDisarm s).1.store = s.store ∧ (reqCardDisarm s).1.flash = s.flash ∧ (reqCardDisarm s).1.bag = s.bag ∧
    (reqCardDisarm s).1.supply = s.supply ∧ (reqCardDisarm s).1.drw1 = s.drw1 ∧ (reqCardDisarm s).1.drw2 = s.drw2 ∧
    (reqCardDisarm s).1.noSale = s.noSale ∧ (reqCardDisarm s).1.prn = s.prn ∧ (reqCardDisarm s).1.attn = s.attn ∧
    (reqCardDisarm s).1.pending = s.pending := by
  simp [reqCardDisarm, State.ite_fields]

@[simp] theorem reqCardFetch_keeps (s : State) :
    (reqCardFetch s).1.clock = s.clock ∧ (reqCardFetch s).1.chP = s.chP ∧ (reqCardFetch s).1.chB = s.chB ∧
    (reqCardFetch s).1.cal = s.cal ∧ (reqCardFetch s).1.txn = s.txn ∧ (reqCardFetch s).1.pw = s.pw ∧
    (reqCardFetch s).1.store = s.store ∧ (reqCardFetch s).1.flash = s.flash ∧ (reqCardFetch s).1.bag = s.bag ∧
    (reqCardFetch s).1.supply = s.supply ∧ (reqCardFetch s).1.drw1 = s.drw1 ∧ (reqCardFetch s).1.drw2 = s.drw2 ∧
    (reqCardFetch s).1.noSale = s.noSale ∧ (reqCardFetch s).1.prn = s.prn ∧ (reqCardFetch s).1.attn = s.attn ∧
    (reqCardFetch s).1.pending = s.pending := by
  unfold reqCardFetch
  split <;> simp

@[simp] theorem State.resetCard_keeps (s : State) :
    (State.resetCard s).clock = s.clock ∧ (State.resetCard s).link = s.link ∧ (State.resetCard s).chP = s.chP ∧
    (State.resetCard s).chB = s.chB ∧ (State.resetCard s).cal = s.cal ∧ (State.resetCard s).txn = s.txn ∧
    (State.resetCard s).pw = s.pw ∧ (State.resetCard s).store = s.store ∧ (State.resetCard s).flash = s.flash ∧
    (State.resetCard s).bag = s.bag ∧ (State.resetCard s).supply = s.supply ∧ (State.resetCard s).drw1 = s.drw1 ∧
    (State.resetCard s).drw2 = s.drw2 ∧ (State.resetCard s).noSale = s.noSale ∧ (State.resetCard s).prn = s.prn ∧
    (State.resetCard s).pending = s.pending := by
  simp [State.resetCard]

@[simp] theorem reqTxnOpen_keeps (laneTime : Nat) (s : State) :
    (reqTxnOpen laneTime s).1.clock = s.clock ∧ (reqTxnOpen laneTime s).1.cal = s.cal ∧
    (reqTxnOpen laneTime s).1.store = s.store ∧ (reqTxnOpen laneTime s).1.flash = s.flash ∧
    (reqTxnOpen laneTime s).1.card = s.card ∧ (reqTxnOpen laneTime s).1.supply = s.supply ∧
    (reqTxnOpen laneTime s).1.drw1 = s.drw1 ∧ (reqTxnOpen laneTime s).1.drw2 = s.drw2 ∧
    (reqTxnOpen laneTime s).1.noSale = s.noSale ∧ (reqTxnOpen laneTime s).1.prn = s.prn ∧
    (reqTxnOpen laneTime s).1.attn = s.attn ∧ (reqTxnOpen laneTime s).1.pending = s.pending := by
  simp only [reqTxnOpen]
  (repeat' split) <;> simp

@[simp] theorem reqTxnTender_keeps (kind : Nat) (s : State) :
    (reqTxnTender kind s).1.clock = s.clock ∧ (reqTxnTender kind s).1.chP = s.chP ∧
    (reqTxnTender kind s).1.chB = s.chB ∧ (reqTxnTender kind s).1.cal = s.cal ∧ (reqTxnTender kind s).1.pw = s.pw ∧
    (reqTxnTender kind s).1.store = s.store ∧ (reqTxnTender kind s).1.flash = s.flash ∧
    (reqTxnTender kind s).1.card = s.card ∧ (reqTxnTender kind s).1.supply = s.supply ∧
    (reqTxnTender kind s).1.drw1 = s.drw1 ∧ (reqTxnTender kind s).1.drw2 = s.drw2 ∧
    (reqTxnTender kind s).1.noSale = s.noSale ∧ (reqTxnTender kind s).1.prn = s.prn ∧
    (reqTxnTender kind s).1.attn = s.attn ∧ (reqTxnTender kind s).1.pending = s.pending := by
  unfold reqTxnTender
  (repeat' split) <;> simp

@[simp] theorem reqTxnResume_keeps (s : State) :
    (reqTxnResume s).1.clock = s.clock ∧ (reqTxnResume s).1.link = s.link ∧ (reqTxnResume s).1.chP = s.chP ∧
    (reqTxnResume s).1.chB = s.chB ∧ (reqTxnResume s).1.cal = s.cal ∧ (reqTxnResume s).1.pw = s.pw ∧
    (reqTxnResume s).1.store = s.store ∧ (reqTxnResume s).1.flash = s.flash ∧ (reqTxnResume s).1.bag = s.bag ∧
    (reqTxnResume s).1.card = s.card ∧ (reqTxnResume s).1.supply = s.supply ∧ (reqTxnResume s).1.drw1 = s.drw1 ∧
    (reqTxnResume s).1.drw2 = s.drw2 ∧ (reqTxnResume s).1.noSale = s.noSale ∧ (reqTxnResume s).1.prn = s.prn ∧
    (reqTxnResume s).1.attn = s.attn ∧ (reqTxnResume s).1.pending = s.pending := by
  unfold reqTxnResume
  (repeat' split) <;> simp

@[simp] theorem reqTxnClose_keeps (s : State) :
    (reqTxnClose s).1.clock = s.clock ∧ (reqTxnClose s).1.link = s.link ∧ (reqTxnClose s).1.chP = s.chP ∧
    (reqTxnClose s).1.chB = s.chB ∧ (reqTxnClose s).1.cal = s.cal ∧ (reqTxnClose s).1.pw = s.pw ∧
    (reqTxnClose s).1.store = s.store ∧ (reqTxnClose s).1.flash = s.flash ∧ (reqTxnClose s).1.card = s.card ∧
    (reqTxnClose s).1.supply = s.supply ∧ (reqTxnClose s).1.drw1 = s.drw1 ∧ (reqTxnClose s).1.drw2 = s.drw2 ∧
    (reqTxnClose s).1.noSale = s.noSale ∧ (reqTxnClose s).1.prn = s.prn ∧
    (reqTxnClose s).1.pending = s.pending := by
  unfold reqTxnClose
  (repeat' split) <;> simp

@[simp] theorem State.endWeighing_keeps (s : State) :
    (State.endWeighing s).clock = s.clock ∧ (State.endWeighing s).chP = s.chP ∧ (State.endWeighing s).chB = s.chB ∧
    (State.endWeighing s).cal = s.cal ∧ (State.endWeighing s).store = s.store ∧
    (State.endWeighing s).flash = s.flash ∧ (State.endWeighing s).card = s.card ∧
    (State.endWeighing s).supply = s.supply ∧ (State.endWeighing s).drw1 = s.drw1 ∧
    (State.endWeighing s).drw2 = s.drw2 ∧ (State.endWeighing s).noSale = s.noSale ∧
    (State.endWeighing s).prn = s.prn ∧ (State.endWeighing s).pending = s.pending := by
  unfold State.endWeighing
  split <;> simp

@[simp] theorem reqTxnAbort_keeps (s : State) :
    (reqTxnAbort s).1.clock = s.clock ∧ (reqTxnAbort s).1.flash = s.flash ∧ (reqTxnAbort s).1.card = s.card ∧
    (reqTxnAbort s).1.drw1 = s.drw1 ∧ (reqTxnAbort s).1.drw2 = s.drw2 ∧ (reqTxnAbort s).1.noSale = s.noSale ∧
    (reqTxnAbort s).1.pending = s.pending := by
  simp only [reqTxnAbort]
  (repeat' split) <;> simp

@[simp] theorem State.resetTxn_keeps (s : State) :
    (State.resetTxn s).clock = s.clock ∧ (State.resetTxn s).link = s.link ∧ (State.resetTxn s).chP = s.chP ∧
    (State.resetTxn s).chB = s.chB ∧ (State.resetTxn s).cal = s.cal ∧ (State.resetTxn s).pw = s.pw ∧
    (State.resetTxn s).store = s.store ∧ (State.resetTxn s).flash = s.flash ∧ (State.resetTxn s).card = s.card ∧
    (State.resetTxn s).supply = s.supply ∧ (State.resetTxn s).drw1 = s.drw1 ∧ (State.resetTxn s).drw2 = s.drw2 ∧
    (State.resetTxn s).noSale = s.noSale ∧ (State.resetTxn s).prn = s.prn ∧ (State.resetTxn s).attn = s.attn ∧
    (State.resetTxn s).pending = s.pending := by
  unfold State.resetTxn
  split <;> simp

end Sys2Proof.Machine
end

