-- ==== Sys2Proof/Laws/LinkFrames.lean ====
section
/-! SUPPORT. What the operations of the settings, lane reset, recovery, the link interface and the conversions leave as it was. -/

namespace Sys2Proof.Machine

@[simp] theorem State.putPolarity_keeps (p : Port) (v : Bool) (s : State) :
    (State.putPolarity p v s).clock = s.clock ∧ (State.putPolarity p v s).link = s.link ∧
    (State.putPolarity p v s).chP = s.chP ∧ (State.putPolarity p v s).chB = s.chB ∧
    (State.putPolarity p v s).cal = s.cal ∧ (State.putPolarity p v s).pw = s.pw ∧
    (State.putPolarity p v s).store = s.store ∧ (State.putPolarity p v s).flash = s.flash ∧
    (State.putPolarity p v s).card = s.card ∧ (State.putPolarity p v s).noSale = s.noSale ∧
    (State.putPolarity p v s).pending = s.pending := by
  simp [State.putPolarity, State.ite_fields]

@[simp] theorem State.putDrawer_keeps (p : Port) (setting v : Nat) (s : State) :
    (State.putDrawer p setting v s).clock = s.clock ∧ (State.putDrawer p setting v s).link = s.link ∧
    (State.putDrawer p setting v s).chP = s.chP ∧ (State.putDrawer p setting v s).chB = s.chB ∧
    (State.putDrawer p setting v s).cal = s.cal ∧ (State.putDrawer p setting v s).pw = s.pw ∧
    (State.putDrawer p setting v s).store = s.store ∧ (State.putDrawer p setting v s).flash = s.flash ∧
    (State.putDrawer p setting v s).card = s.card ∧ (State.putDrawer p setting v s).noSale = s.noSale ∧
    (State.putDrawer p setting v s).pending = s.pending := by
  unfold State.putDrawer
  split <;> simp

@[simp] theorem State.putEnable_keeps (v : Bool) (s : State) :
    (State.putEnable v s).clock = s.clock ∧ (State.putEnable v s).link = s.link ∧
    (State.putEnable v s).chP = s.chP ∧ (State.putEnable v s).chB = s.chB ∧ (State.putEnable v s).cal = s.cal ∧
    (State.putEnable v s).txn = s.txn ∧ (State.putEnable v s).pw = s.pw ∧ (State.putEnable v s).store = s.store ∧
    (State.putEnable v s).flash = s.flash ∧ (State.putEnable v s).card = s.card ∧
    (State.putEnable v s).supply = s.supply ∧ (State.putEnable v s).drw1 = s.drw1 ∧
    (State.putEnable v s).drw2 = s.drw2 ∧ (State.putEnable v s).noSale = s.noSale ∧
    (State.putEnable v s).prn = s.prn ∧ (State.putEnable v s).attn = s.attn ∧
    (State.putEnable v s).pending = s.pending := by
  simp only [State.putEnable]
  (repeat' split) <;> simp

@[simp] theorem State.putSetting_keeps (block setting v : Nat) (s : State) :
    (State.putSetting block setting v s).clock = s.clock ∧ (State.putSetting block setting v s).flash = s.flash ∧
    (State.putSetting block setting v s).noSale = s.noSale ∧
    (State.putSetting block setting v s).pending = s.pending := by
  unfold State.putSetting
  split <;> simp

@[simp] theorem reqSettingPut_keeps (block setting value : Nat) (s : State) :
    (reqSettingPut block setting value s).1.clock = s.clock ∧
    (reqSettingPut block setting value s).1.flash = s.flash ∧
    (reqSettingPut block setting value s).1.noSale = s.noSale ∧
    (reqSettingPut block setting value s).1.pending = s.pending := by
  unfold reqSettingPut
  split <;> simp

@[simp] theorem reqSettingGet_keeps (block setting : Nat) (s : State) :
    (reqSettingGet block setting s).1.clock = s.clock ∧ (reqSettingGet block setting s).1.link = s.link ∧
    (reqSettingGet block setting s).1.chP = s.chP ∧ (reqSettingGet block setting s).1.chB = s.chB ∧
    (reqSettingGet block setting s).1.cal = s.cal ∧ (reqSettingGet block setting s).1.txn = s.txn ∧
    (reqSettingGet block setting s).1.pw = s.pw ∧ (reqSettingGet block setting s).1.store = s.store ∧
    (reqSettingGet block setting s).1.flash = s.flash ∧ (reqSettingGet block setting s).1.bag = s.bag ∧
    (reqSettingGet block setting s).1.card = s.card ∧ (reqSettingGet block setting s).1.supply = s.supply ∧
    (reqSettingGet block setting s).1.drw1 = s.drw1 ∧ (reqSettingGet block setting s).1.drw2 = s.drw2 ∧
    (reqSettingGet block setting s).1.noSale = s.noSale ∧ (reqSettingGet block setting s).1.prn = s.prn ∧
    (reqSettingGet block setting s).1.attn = s.attn ∧ (reqSettingGet block setting s).1.pending = s.pending := by
  unfold reqSettingGet
  split <;> simp

@[simp] theorem reqNoticeMask_keeps (mask : Nat) (s : State) :
    (reqNoticeMask mask s).1.clock = s.clock ∧ (reqNoticeMask mask s).1.chP = s.chP ∧
    (reqNoticeMask mask s).1.chB = s.chB ∧ (reqNoticeMask mask s).1.cal = s.cal ∧
    (reqNoticeMask mask s).1.txn = s.txn ∧ (reqNoticeMask mask s).1.pw = s.pw ∧
    (reqNoticeMask mask s).1.store = s.store ∧ (reqNoticeMask mask s).1.flash = s.flash ∧
    (reqNoticeMask mask s).1.bag = s.bag ∧ (reqNoticeMask mask s).1.card = s.card ∧
    (reqNoticeMask mask s).1.supply = s.supply ∧ (reqNoticeMask mask s).1.drw1 = s.drw1 ∧
    (reqNoticeMask mask s).1.drw2 = s.drw2 ∧ (reqNoticeMask mask s).1.noSale = s.noSale ∧
    (reqNoticeMask mask s).1.prn = s.prn ∧ (reqNoticeMask mask s).1.attn = s.attn ∧
    (reqNoticeMask mask s).1.pending = s.pending := by
  simp [reqNoticeMask]

@[simp] theorem State.resetBlocks_keeps (s : State) :
    (State.resetBlocks s).clock = s.clock ∧ (State.resetBlocks s).flash = s.flash ∧
    (State.resetBlocks s).noSale = s.noSale ∧ (State.resetBlocks s).pending = s.pending := by
  simp [State.resetBlocks]

@[simp] theorem State.endReset_keeps (tag : Byte) (s : State) :
    (State.endReset tag s).clock = s.clock ∧ (State.endReset tag s).cal = s.cal ∧
    (State.endReset tag s).txn = s.txn ∧ (State.endReset tag s).pw = s.pw ∧ (State.endReset tag s).store = s.store ∧
    (State.endReset tag s).flash = s.flash ∧ (State.endReset tag s).bag = s.bag ∧
    (State.endReset tag s).card = s.card ∧ (State.endReset tag s).supply = s.supply ∧
    (State.endReset tag s).drw1 = s.drw1 ∧ (State.endReset tag s).drw2 = s.drw2 ∧
    (State.endReset tag s).noSale = s.noSale ∧ (State.endReset tag s).prn = s.prn ∧
    (State.endReset tag s).attn = s.attn ∧ (State.endReset tag s).pending = s.pending := by
  simp [State.endReset]

@[simp] theorem State.applyLaneReset_keeps (tag : Byte) (s : State) :
    (State.applyLaneReset tag s).clock = s.clock ∧ (State.applyLaneReset tag s).flash = s.flash ∧
    (State.applyLaneReset tag s).noSale = s.noSale ∧ (State.applyLaneReset tag s).pending = s.pending := by
  simp [State.applyLaneReset]

@[simp] theorem State.installCal_keeps (c : Ch) (s : State) :
    (State.installCal c s).clock = s.clock ∧ (State.installCal c s).txn = s.txn ∧
    (State.installCal c s).store = s.store ∧ (State.installCal c s).flash = s.flash ∧
    (State.installCal c s).bag = s.bag ∧ (State.installCal c s).card = s.card ∧
    (State.installCal c s).supply = s.supply ∧ (State.installCal c s).drw1 = s.drw1 ∧
    (State.installCal c s).drw2 = s.drw2 ∧ (State.installCal c s).noSale = s.noSale ∧
    (State.installCal c s).prn = s.prn ∧ (State.installCal c s).attn = s.attn ∧
    (State.installCal c s).pending = s.pending := by
  unfold State.installCal
  split <;> simp

@[simp] theorem State.reportRecovery_keeps (s : State) :
    (State.reportRecovery s).clock = s.clock ∧ (State.reportRecovery s).chP = s.chP ∧
    (State.reportRecovery s).chB = s.chB ∧ (State.reportRecovery s).cal = s.cal ∧
    (State.reportRecovery s).txn = s.txn ∧ (State.reportRecovery s).pw = s.pw ∧
    (State.reportRecovery s).store = s.store ∧ (State.reportRecovery s).flash = s.flash ∧
    (State.reportRecovery s).bag = s.bag ∧ (State.reportRecovery s).card = s.card ∧
    (State.reportRecovery s).supply = s.supply ∧ (State.reportRecovery s).drw1 = s.drw1 ∧
    (State.reportRecovery s).drw2 = s.drw2 ∧ (State.reportRecovery s).noSale = s.noSale ∧
    (State.reportRecovery s).prn = s.prn ∧ (State.reportRecovery s).attn = s.attn ∧
    (State.reportRecovery s).pending = s.pending := by
  simp only [State.reportRecovery]
  (repeat' split) <;> simp

@[simp] theorem evRecoveryScanEnd_keeps (scan : Scan) (s : State) :
    (evRecoveryScanEnd scan s).clock = s.clock ∧ (evRecoveryScanEnd scan s).card = s.card ∧
    (evRecoveryScanEnd scan s).drw1 = s.drw1 ∧ (evRecoveryScanEnd scan s).drw2 = s.drw2 ∧
    (evRecoveryScanEnd scan s).noSale = s.noSale ∧ (evRecoveryScanEnd scan s).attn = s.attn ∧
    (evRecoveryScanEnd scan s).pending = s.pending := by
  unfold evRecoveryScanEnd
  split <;> simp

@[simp] theorem reqPing_keeps (s : State) :
    (reqPing s).1.clock = s.clock ∧ (reqPing s).1.link = s.link ∧ (reqPing s).1.chP = s.chP ∧
    (reqPing s).1.chB = s.chB ∧ (reqPing s).1.cal = s.cal ∧ (reqPing s).1.txn = s.txn ∧ (reqPing s).1.pw = s.pw ∧
    (reqPing s).1.store = s.store ∧ (reqPing s).1.flash = s.flash ∧ (reqPing s).1.bag = s.bag ∧
    (reqPing s).1.card = s.card ∧ (reqPing s).1.supply = s.supply ∧ (reqPing s).1.drw1 = s.drw1 ∧
    (reqPing s).1.drw2 = s.drw2 ∧ (reqPing s).1.noSale = s.noSale ∧ (reqPing s).1.prn = s.prn ∧
    (reqPing s).1.attn = s.attn ∧ (reqPing s).1.pending = s.pending := by
  simp [reqPing]

@[simp] theorem reqStatusGet_keeps (s : State) :
    (reqStatusGet s).1.clock = s.clock ∧ (reqStatusGet s).1.link = s.link ∧ (reqStatusGet s).1.chP = s.chP ∧
    (reqStatusGet s).1.chB = s.chB ∧ (reqStatusGet s).1.cal = s.cal ∧ (reqStatusGet s).1.txn = s.txn ∧
    (reqStatusGet s).1.pw = s.pw ∧ (reqStatusGet s).1.store = s.store ∧ (reqStatusGet s).1.flash = s.flash ∧
    (reqStatusGet s).1.bag = s.bag ∧ (reqStatusGet s).1.card = s.card ∧ (reqStatusGet s).1.supply = s.supply ∧
    (reqStatusGet s).1.drw1 = s.drw1 ∧ (reqStatusGet s).1.drw2 = s.drw2 ∧ (reqStatusGet s).1.noSale = s.noSale ∧
    (reqStatusGet s).1.prn = s.prn ∧ (reqStatusGet s).1.attn = s.attn ∧ (reqStatusGet s).1.pending = s.pending := by
  simp [reqStatusGet]

@[simp] theorem serveCalBegin_keeps (c : Nat) (s : State) :
    (serveCalBegin c s).1.clock = s.clock ∧ (serveCalBegin c s).1.txn = s.txn ∧
    (serveCalBegin c s).1.store = s.store ∧ (serveCalBegin c s).1.flash = s.flash ∧
    (serveCalBegin c s).1.bag = s.bag ∧ (serveCalBegin c s).1.card = s.card ∧
    (serveCalBegin c s).1.supply = s.supply ∧ (serveCalBegin c s).1.drw1 = s.drw1 ∧
    (serveCalBegin c s).1.drw2 = s.drw2 ∧ (serveCalBegin c s).1.noSale = s.noSale ∧
    (serveCalBegin c s).1.prn = s.prn ∧ (serveCalBegin c s).1.attn = s.attn ∧
    (serveCalBegin c s).1.pending = s.pending := by
  simp only [serveCalBegin, forChannel]
  (repeat' split) <;> simp

@[simp] theorem serveDrawerOpen_keeps (p reason : Nat) (s : State) :
    (serveDrawerOpen p reason s).1.clock = s.clock ∧ (serveDrawerOpen p reason s).1.link = s.link ∧
    (serveDrawerOpen p reason s).1.chP = s.chP ∧ (serveDrawerOpen p reason s).1.chB = s.chB ∧
    (serveDrawerOpen p reason s).1.cal = s.cal ∧ (serveDrawerOpen p reason s).1.pw = s.pw ∧
    (serveDrawerOpen p reason s).1.store = s.store ∧ (serveDrawerOpen p reason s).1.flash = s.flash ∧
    (serveDrawerOpen p reason s).1.card = s.card ∧ (serveDrawerOpen p reason s).1.attn = s.attn ∧
    (serveDrawerOpen p reason s).1.pending = s.pending := by
  unfold serveDrawerOpen
  split <;> simp

@[simp] theorem State.answerUnknown_keeps (tag kind : Byte) (s : State) :
    (State.answerUnknown tag kind s).clock = s.clock ∧ (State.answerUnknown tag kind s).chP = s.chP ∧
    (State.answerUnknown tag kind s).chB = s.chB ∧ (State.answerUnknown tag kind s).cal = s.cal ∧
    (State.answerUnknown tag kind s).txn = s.txn ∧ (State.answerUnknown tag kind s).pw = s.pw ∧
    (State.answerUnknown tag kind s).store = s.store ∧ (State.answerUnknown tag kind s).flash = s.flash ∧
    (State.answerUnknown tag kind s).bag = s.bag ∧ (State.answerUnknown tag kind s).card = s.card ∧
    (State.answerUnknown tag kind s).supply = s.supply ∧ (State.answerUnknown tag kind s).drw1 = s.drw1 ∧
    (State.answerUnknown tag kind s).drw2 = s.drw2 ∧ (State.answerUnknown tag kind s).noSale = s.noSale ∧
    (State.answerUnknown tag kind s).prn = s.prn ∧ (State.answerUnknown tag kind s).attn = s.attn ∧
    (State.answerUnknown tag kind s).pending = s.pending := by
  simp [State.answerUnknown]

@[simp] theorem State.raiseChanges_keeps (s before : State) :
    (State.raiseChanges s before).clock = s.clock ∧ (State.raiseChanges s before).chP = s.chP ∧
    (State.raiseChanges s before).chB = s.chB ∧ (State.raiseChanges s before).cal = s.cal ∧
    (State.raiseChanges s before).txn = s.txn ∧ (State.raiseChanges s before).pw = s.pw ∧
    (State.raiseChanges s before).store = s.store ∧ (State.raiseChanges s before).flash = s.flash ∧
    (State.raiseChanges s before).bag = s.bag ∧ (State.raiseChanges s before).card = s.card ∧
    (State.raiseChanges s before).supply = s.supply ∧ (State.raiseChanges s before).drw1 = s.drw1 ∧
    (State.raiseChanges s before).drw2 = s.drw2 ∧ (State.raiseChanges s before).noSale = s.noSale ∧
    (State.raiseChanges s before).prn = s.prn ∧ (State.raiseChanges s before).attn = s.attn ∧
    (State.raiseChanges s before).pending = s.pending := by
  simp [State.raiseChanges, State.ite_fields]

@[simp] theorem State.finish_keeps (s before : State) :
    (State.finish s before).clock = s.clock ∧ (State.finish s before).chP = s.chP ∧
    (State.finish s before).chB = s.chB ∧ (State.finish s before).cal = s.cal ∧
    (State.finish s before).txn = s.txn ∧ (State.finish s before).pw = s.pw ∧
    (State.finish s before).store = s.store ∧ (State.finish s before).flash = s.flash ∧
    (State.finish s before).bag = s.bag ∧ (State.finish s before).card = s.card ∧
    (State.finish s before).supply = s.supply ∧ (State.finish s before).drw1 = s.drw1 ∧
    (State.finish s before).drw2 = s.drw2 ∧ (State.finish s before).noSale = s.noSale ∧
    (State.finish s before).prn = s.prn ∧ (State.finish s before).attn = s.attn ∧
    (State.finish s before).pending = s.pending := by
  simp [State.finish]

@[simp] theorem evByteReceived_keeps (byte : Byte) (gap framingError : Bool) (s : State) :
    (evByteReceived byte gap framingError s).clock = s.clock ∧
    (evByteReceived byte gap framingError s).chP = s.chP ∧ (evByteReceived byte gap framingError s).chB = s.chB ∧
    (evByteReceived byte gap framingError s).cal = s.cal ∧ (evByteReceived byte gap framingError s).txn = s.txn ∧
    (evByteReceived byte gap framingError s).pw = s.pw ∧ (evByteReceived byte gap framingError s).store = s.store ∧
    (evByteReceived byte gap framingError s).flash = s.flash ∧
    (evByteReceived byte gap framingError s).bag = s.bag ∧ (evByteReceived byte gap framingError s).card = s.card ∧
    (evByteReceived byte gap framingError s).supply = s.supply ∧
    (evByteReceived byte gap framingError s).drw1 = s.drw1 ∧
    (evByteReceived byte gap framingError s).drw2 = s.drw2 ∧
    (evByteReceived byte gap framingError s).noSale = s.noSale ∧
    (evByteReceived byte gap framingError s).prn = s.prn ∧ (evByteReceived byte gap framingError s).attn = s.attn ∧
    (evByteReceived byte gap framingError s).pending = s.pending := by
  simp [evByteReceived, State.ite_fields]

@[simp] theorem evCandidateAbandoned_keeps (s : State) :
    (evCandidateAbandoned s).clock = s.clock ∧ (evCandidateAbandoned s).chP = s.chP ∧
    (evCandidateAbandoned s).chB = s.chB ∧ (evCandidateAbandoned s).cal = s.cal ∧
    (evCandidateAbandoned s).txn = s.txn ∧ (evCandidateAbandoned s).pw = s.pw ∧
    (evCandidateAbandoned s).store = s.store ∧ (evCandidateAbandoned s).flash = s.flash ∧
    (evCandidateAbandoned s).bag = s.bag ∧ (evCandidateAbandoned s).card = s.card ∧
    (evCandidateAbandoned s).supply = s.supply ∧ (evCandidateAbandoned s).drw1 = s.drw1 ∧
    (evCandidateAbandoned s).drw2 = s.drw2 ∧ (evCandidateAbandoned s).noSale = s.noSale ∧
    (evCandidateAbandoned s).prn = s.prn ∧ (evCandidateAbandoned s).attn = s.attn ∧
    (evCandidateAbandoned s).pending = s.pending := by
  simp [evCandidateAbandoned]

@[simp] theorem evHrdyChange_keeps (asserted : Bool) (s : State) :
    (evHrdyChange asserted s).clock = s.clock ∧ (evHrdyChange asserted s).chP = s.chP ∧
    (evHrdyChange asserted s).chB = s.chB ∧ (evHrdyChange asserted s).cal = s.cal ∧
    (evHrdyChange asserted s).txn = s.txn ∧ (evHrdyChange asserted s).pw = s.pw ∧
    (evHrdyChange asserted s).store = s.store ∧ (evHrdyChange asserted s).flash = s.flash ∧
    (evHrdyChange asserted s).bag = s.bag ∧ (evHrdyChange asserted s).card = s.card ∧
    (evHrdyChange asserted s).supply = s.supply ∧ (evHrdyChange asserted s).drw1 = s.drw1 ∧
    (evHrdyChange asserted s).drw2 = s.drw2 ∧ (evHrdyChange asserted s).noSale = s.noSale ∧
    (evHrdyChange asserted s).prn = s.prn ∧ (evHrdyChange asserted s).attn = s.attn ∧
    (evHrdyChange asserted s).pending = s.pending := by
  simp [evHrdyChange]

@[simp] theorem evByteSent_keeps (s : State) :
    (evByteSent s).clock = s.clock ∧ (evByteSent s).chP = s.chP ∧ (evByteSent s).chB = s.chB ∧
    (evByteSent s).cal = s.cal ∧ (evByteSent s).txn = s.txn ∧ (evByteSent s).pw = s.pw ∧
    (evByteSent s).store = s.store ∧ (evByteSent s).flash = s.flash ∧ (evByteSent s).bag = s.bag ∧
    (evByteSent s).card = s.card ∧ (evByteSent s).supply = s.supply ∧ (evByteSent s).drw1 = s.drw1 ∧
    (evByteSent s).drw2 = s.drw2 ∧ (evByteSent s).noSale = s.noSale ∧ (evByteSent s).prn = s.prn ∧
    (evByteSent s).attn = s.attn ∧ (evByteSent s).pending = s.pending := by
  unfold evByteSent
  (repeat' split) <;> simp

@[simp] theorem evFrameSent_keeps (s : State) :
    (evFrameSent s).clock = s.clock ∧ (evFrameSent s).chP = s.chP ∧ (evFrameSent s).chB = s.chB ∧
    (evFrameSent s).cal = s.cal ∧ (evFrameSent s).txn = s.txn ∧ (evFrameSent s).pw = s.pw ∧
    (evFrameSent s).store = s.store ∧ (evFrameSent s).flash = s.flash ∧ (evFrameSent s).bag = s.bag ∧
    (evFrameSent s).card = s.card ∧ (evFrameSent s).supply = s.supply ∧ (evFrameSent s).drw1 = s.drw1 ∧
    (evFrameSent s).drw2 = s.drw2 ∧ (evFrameSent s).noSale = s.noSale ∧ (evFrameSent s).prn = s.prn ∧
    (evFrameSent s).attn = s.attn ∧ (evFrameSent s).pending = s.pending := by
  unfold evFrameSent
  (repeat' split) <;> simp

@[simp] theorem State.handOnB_keeps (wasFault formed : Bool) (s : State) :
    (State.handOnB wasFault formed s).clock = s.clock ∧ (State.handOnB wasFault formed s).link = s.link ∧
    (State.handOnB wasFault formed s).chP = s.chP ∧ (State.handOnB wasFault formed s).chB = s.chB ∧
    (State.handOnB wasFault formed s).cal = s.cal ∧ (State.handOnB wasFault formed s).txn = s.txn ∧
    (State.handOnB wasFault formed s).pw = s.pw ∧ (State.handOnB wasFault formed s).store = s.store ∧
    (State.handOnB wasFault formed s).flash = s.flash ∧ (State.handOnB wasFault formed s).card = s.card ∧
    (State.handOnB wasFault formed s).supply = s.supply ∧ (State.handOnB wasFault formed s).drw1 = s.drw1 ∧
    (State.handOnB wasFault formed s).drw2 = s.drw2 ∧ (State.handOnB wasFault formed s).noSale = s.noSale ∧
    (State.handOnB wasFault formed s).prn = s.prn ∧ (State.handOnB wasFault formed s).pending = s.pending := by
  simp [State.handOnB, State.ite_fields]

@[simp] theorem evConversionComplete_keeps (c : Ch) (raw : BitVec 24) (s : State) :
    (evConversionComplete c raw s).clock = s.clock ∧ (evConversionComplete c raw s).flash = s.flash ∧
    (evConversionComplete c raw s).card = s.card ∧ (evConversionComplete c raw s).drw1 = s.drw1 ∧
    (evConversionComplete c raw s).drw2 = s.drw2 ∧ (evConversionComplete c raw s).noSale = s.noSale ∧
    (evConversionComplete c raw s).pending = s.pending := by
  simp only [evConversionComplete]
  (repeat' split) <;> simp

@[simp] theorem evConversionWatchdogExpiry_keeps (c : Ch) (s : State) :
    (evConversionWatchdogExpiry c s).cal = s.cal ∧ (evConversionWatchdogExpiry c s).txn = s.txn ∧
    (evConversionWatchdogExpiry c s).pw = s.pw ∧ (evConversionWatchdogExpiry c s).store = s.store ∧
    (evConversionWatchdogExpiry c s).flash = s.flash ∧ (evConversionWatchdogExpiry c s).card = s.card ∧
    (evConversionWatchdogExpiry c s).supply = s.supply ∧ (evConversionWatchdogExpiry c s).drw1 = s.drw1 ∧
    (evConversionWatchdogExpiry c s).drw2 = s.drw2 ∧ (evConversionWatchdogExpiry c s).noSale = s.noSale ∧
    (evConversionWatchdogExpiry c s).prn = s.prn ∧ (evConversionWatchdogExpiry c s).pending = s.pending := by
  unfold evConversionWatchdogExpiry
  (repeat' split) <;> simp

@[simp] theorem State.tick_keeps (s : State) :
    (State.tick s).chP = s.chP ∧ (State.tick s).chB = s.chB ∧ (State.tick s).cal = s.cal ∧
    (State.tick s).txn = s.txn ∧ (State.tick s).pw = s.pw ∧ (State.tick s).store = s.store ∧
    (State.tick s).flash = s.flash ∧ (State.tick s).bag = s.bag ∧ (State.tick s).card = s.card ∧
    (State.tick s).supply = s.supply ∧ (State.tick s).drw1 = s.drw1 ∧ (State.tick s).drw2 = s.drw2 ∧
    (State.tick s).noSale = s.noSale ∧ (State.tick s).prn = s.prn ∧ (State.tick s).attn = s.attn ∧
    (State.tick s).pending = s.pending := by
  simp [State.tick]

end Sys2Proof.Machine
end

