-- ==== Sys2Proof/Laws/StoreQueue.lean ====
section
/-! SUPPORT. What an access handed over to the alibi store leaves: the relation State.receives of the statements, proved of
State.enqueue. And what the spare check and the end of a release access leave. -/

namespace Sys2Proof.Machine

/-- The marks left of a release are those of the FULL sectors that are not yet released (R110). -/
theorem Store.mem_marksLeft {x : Store} {l : List Nat} {i : Nat} :
    i ∈ x.marksLeft l ↔ x.failed = false ∧ i ∈ l ∧ (x.entry i).state = .full ∧ (x.entry i).released = false := by
  unfold Store.marksLeft
  cases x.failed <;> simp

/-- The end of a mark takes the release access at the head from the queue when none of its marks is left, and changes nothing
else (R100, R110). -/
theorem Store.endRelease_cases (x : Store) :
    (∃ l rest, x.queue = .release l :: rest ∧ x.marksLeft l = [] ∧ x.endRelease = { x with queue := rest })
      ∨ x.endRelease = x ∧ ∀ l rest, x.queue = .release l :: rest → x.marksLeft l ≠ [] := by
  unfold Store.endRelease
  split
  · rename_i l rest hq
    split
    · exact .inl ⟨l, rest, hq, ‹_›, rfl⟩
    · exact .inr ⟨rfl, fun l' rest' h => by rw [hq] at h; cases h; assumption⟩
  · rename_i h
    exact .inr ⟨rfl, fun l rest hq => absurd hq (h l rest)⟩

/-- What the end of a mark leaves of the store: all of it but the queue. -/
theorem Store.endRelease_eq (x : Store) : x.endRelease = { x with queue := x.endRelease.queue } := by
  rcases x.endRelease_cases with ⟨l, rest, -, -, h⟩ | ⟨h, -⟩ <;> rw [h]

/-- The condition re-evaluated is that of the tests of R99, and nothing else of the store changes. -/
theorem State.evalCondition_store (s : State) :
    s.evalCondition.store = { s.store with condition := s.store.judge } := by
  simp only [State.evalCondition]
  split
  · rename_i h; rw [h]
  · simp [State.raiseStore]

/-- The store after the spare check and the condition behind it (R105, R99). -/
theorem State.spareCheck_store (s : State) :
    s.spareCheck.store = { s.store.spareCheck with condition := s.store.spareCheck.judge } := by
  simp [State.spareCheck, State.evalCondition_store]

/-- Where the idle flash's first choice starts an operation, or leaves it nothing to do, that choice is what it does (R100). -/
theorem State.pump_of_choose1 {s u : State} (hs : s.link.starting = false) (ho : s.store.op = .idle)
    (hc : s.choose1 = (u, false)) : s.pump = u := by
  simp [State.pump, hs, State.pumpN, ho, hc]

/-- A number that a sector bears is found in a slot. -/
theorem Store.locate_slot {x : Store} {n : Nat} (h : ∃ e ∈ x.table, e.bears n = true) : ∃ i k, x.locate n = .slot i k := by
  obtain ⟨e, he, hn⟩ := h
  unfold Store.locate
  cases hf : x.table.findIdx? fun e => e.bears n with
  | some i => exact ⟨i, _, rfl⟩
  | none => exact absurd hn (by simpa using List.findIdx?_eq_none_iff.1 hf e he)

/-- A read of which some sector bears a number needs the flash. -/
theorem Store.readsSlot_of_bears {x : Store} {ns : List Nat} (h : ∃ n ∈ ns, ∃ e ∈ x.table, e.bears n = true) :
    x.readsSlot ns = true := by
  obtain ⟨n, hn, h⟩ := h
  obtain ⟨i, k, hl⟩ := Store.locate_slot h
  exact List.any_eq_true.2 ⟨n, hn, by rw [hl]⟩

/-- An access that can begin does not wait for an erase (R101). -/
theorem Store.headBlocked_of_begins {x : Store} {a : Access} {op : FlashOp} (hq : x.queue = [a]) (h : x.begins a op) :
    x.headBlocked = false := by
  cases a with
  | write r =>
    obtain ⟨-, -, -, i, hi, hu⟩ := h
    have hroom : x.room = 128 - (x.entry i).used := by simp [Store.room, hi, Config.slotsPerSector]
    simp only [Store.headBlocked, hq]
    rcases hu with hu | ⟨-, e, he, hs⟩
    · have : ¬ x.room ≤ Config.reserveSlots := by rw [hroom]; simp only [Config.reserveSlots]; omega
      simp [this]
    · have : x.anyErased = true := List.any_eq_true.2 ⟨e, he, by simp [hs]⟩
      simp [this]
  | _ => simp [Store.headBlocked, hq]

/-- The idle flash begins what the only access of its queue needs. -/
theorem State.choose1_of_begins {s : State} {a : Access} {op : FlashOp} (hq : s.store.queue = [a])
    (hr : s.store.rotation = .none) (hc : s.store.copies = []) (h : s.store.begins a op) :
    s.choose1 = (s.setStore { s.store with op := op }, false) := by
  cases a with
  | write r =>
    have hb := Store.headBlocked_of_begins hq h
    obtain ⟨rfl, h1, h2, i, hi, hu⟩ := h
    have hroom : s.store.room = 128 - (s.store.entry i).used := by simp [Store.room, hi, Config.slotsPerSector]
    have h0 : s.store.room ≠ 0 := by rw [hroom]; omega
    simp [State.choose1, hr, hc, hq, h1, h2, hb, h0]
  | readHost t f c => simp [State.choose1, hr, hc, hq, h.1, Store.readsSlot_of_bears h.2]
  | readPrinter n l => simp [State.choose1, hr, hc, hq, h.1, Store.readsSlot_of_bears h.2]
  | release l =>
    obtain ⟨hf, hl, i, hi, rfl⟩ := h
    have hm : s.store.marksLeft l = l := by
      simp only [Store.marksLeft, hf]
      exact List.filter_eq_self.2 fun j hj => by simp [hl j hj]
    obtain ⟨rest, rfl⟩ : ∃ rest, l = i :: rest := by cases l <;> simp_all
    simp [State.choose1, hr, hc, hq, hm]

/-- An access handed over leaves the store that State.receives says (R100, R101, R102, R107, R110). -/
theorem State.enqueue_of_receives {s : State} {a : Access} {x : Store} (h : s.receives a x) : s.enqueue a = s.setStore x := by
  have begun : ∀ {y : Store} {op : FlashOp}, s.link.starting = false → y.op = .idle → y.queue = [a] → y.rotation = .none →
      y.copies = [] → y.begins a op → (s.setStore y).pump = s.setStore { y with op := op } := by
    intro y op hs ho hq hr hc hb
    exact State.pump_of_choose1 (by simpa using hs) ho (State.choose1_of_begins (s := s.setStore y) hq hr hc hb)
  rcases h with ⟨ho, hk, rfl⟩ | ⟨hs, hq, hr, hc, op, hb, ⟨ho, rfl⟩ | ⟨ho, he, rfl⟩⟩
  · have hj : s.store.join a = { s.store with queue := s.store.queue ++ [a] } := by
      simp only [Store.join]
      rw [if_neg]
      rintro ⟨h1, h2, h3⟩
      rcases hk with hk | hk | hk <;> simp_all
    simp [State.enqueue, hj, State.pump, State.pumpN, ho]
  · have hj : s.store.join a = { s.store with queue := s.store.queue ++ [a] } := by simp [Store.join, ho]
    rw [State.enqueue, hj]
    exact begun (y := { s.store with queue := s.store.queue ++ [a] }) hs ho (by simp [hq]) hr hc hb
  · have hk : ({ s.store with queue := s.store.queue ++ [a] } : Store).headBlocked = false :=
      Store.headBlocked_of_begins (by simp [hq]) hb
    rw [State.enqueue, show s.store.join a = { s.store with
      queue := s.store.queue ++ [a], op := .idle, erase := s.store.erase.map fun e => { e with next := .reapply } } by
        exact if_pos ⟨ho, by simp [he], by simp [show _ = false from hk]⟩]
    exact begun (y := { s.store with
      queue := s.store.queue ++ [a], op := .idle, erase := s.store.erase.map fun e => { e with next := .reapply } })
      hs rfl (by simp [hq]) hr hc hb

end Sys2Proof.Machine
end

