-- ==== Sys2Proof/WellFormed.lean ====
section
/-! DEFINITION. The commands that can reach the part: the bounds that the manual puts on an operand and that its type does not
carry. Link fields need none: they are the bits of the frame. -/

namespace Sys2Proof

/-- A scan names the eight sectors and at most 128 slots of each (R96). -/
def Scan.wellFormed (scan : Scan) : Bool :=
  scan.sectors.length == Config.sectors && scan.sectors.all (fun x => x.slots.length ≤ Config.slotsPerSector)

/-- The bounds on a command's operands:
the body of a frame that can be taken holds at most 1,024 bytes (R5); a queue position is 0 to 15 (R120); an interval is at
most 65,535 µs, past which a GAP has been marked (R147); a read access covers at most eight slots (R111); a scan covers the
array (R96). -/
def Instr.wellFormed : Instr → Bool
  | .printRecords _ body => body.length ≤ Config.maxBody
  | .deadlineExpiry index => index < Config.expectPlaces
  | .fluxTransition _ elapsed => elapsed ≤ 65535
  | .recordReadEnd slots => slots.length ≤ 8
  | .recoveryScanEnd scan => scan.wellFormed
  | _ => true

end Sys2Proof
end

