-- ==== Sys2Proof/Tests/Slice0.lean ====
section
/-! SUPPORT. Tests: the smoke tests of WellFormed, what the table's bits spell, small tests of the commands against values taken
from the manual or worked out by hand from its rules, and, for each statement with hypotheses, states and operands that meet
them (clause by clause, at a boundary of its range where it has one). -/

namespace Sys2Proof.Tests

set_option Elab.async false

open Sys2Proof.Machine

/-! ## Small states -/

/-- The part after its start-up period. -/
def up : State := { State.reset with link := { Link.reset with starting := false } }

/-- A calibration by which a count is a gram: e 5 g, Max 6,000 g, N 4, S 4. -/
def cal0 : Calibration := { zc := 0, cs := 6000, ms := 6000000, params := { max := 6000, e := 5, n := 4, s := 4, tracking := true } }

/-- A channel that weighs a steady load of `a` counts. -/
def steady (a : Int) : Channel :=
  { Channel.reset with
    state := .weighing, samples := [a, a, a, a], window := [1000 * a, 1000 * a, 1000 * a, 1000 * a],
    latest := some { a := a, stable := true } }

/-- Both channels weigh; nothing lies on the bagging scale. -/
def scales (a : Int) : State :=
  { up with
    chP := steady a, chB := steady 0
    cal := { Calib.reset with inForceP := some cal0, inForceB := some cal0, counterP := 1, counterB := 1 } }

/-- A transaction in a state, number 7. -/
def sale (st : TxnState) (s : State) : State := { s with txn := { Txn.reset with number := 7, state := st } }

/-- The verifier watches from 0. -/
def watching (l : List Expect) (s : State) : State := { s with bag := { Bag.reset with state := .watching, entries := l } }

/-- An ADD entry of the host. -/
def item (ref : Nat) (grams : Int) (skip : Bool) : Expect :=
  { dir := .add, ref := ref, origin := .host, expected := grams, tolerance := 5, skippable := skip, deadline := some 15000,
    overdue := false, held := false }

/-- Does a command answer a next state with a property? -/
def after (o : Host.Outcome State Fault Refusal) (p : State → Bool) : Bool :=
  match o with
  | .next t => p t
  | .fault _ | .refused _ => false

/-- The last reply that stands in the queue. -/
def lastReply (s : State) : Option Frame := s.link.replies.getLast?

/-- What a scan of eight blank sectors finds. -/
def blankScan : Scan :=
  { sectors := List.replicate 8 (SectorScan.mk none [] true true), marks := [] }

/-! ## WellFormed refuses -/

theorem test_wf_printBody : (Instr.printRecords 0 (List.replicate 1025 5)).wellFormed = false := by decide +kernel
theorem test_wf_deadline : (Instr.deadlineExpiry 16).wellFormed = false := by decide
theorem test_wf_interval : (Instr.fluxTransition .a 65536).wellFormed = false := by decide
theorem test_wf_readSlots : (Instr.recordReadEnd (List.replicate 9 .clean)).wellFormed = false := by decide
theorem test_wf_scanSectors : (Instr.recoveryScanEnd { sectors := [], marks := [] }).wellFormed = false := by decide
theorem test_wf_scanSlots : (Instr.recoveryScanEnd
    { blankScan with sectors := List.replicate 8 (SectorScan.mk none (List.replicate 129 .clean) true true) }).wellFormed = false := by
  decide +kernel
theorem test_wf_accepts : (Instr.printRecords 0 (List.replicate 1024 5)).wellFormed = true
    ∧ (Instr.deadlineExpiry 15).wellFormed = true ∧ (Instr.fluxTransition .b 65535).wellFormed = true
    ∧ (Instr.recordReadEnd (List.replicate 8 .clean)).wellFormed = true := by decide +kernel

/-! ## The table gives no row bits -/

theorem test_decode_none : decodeTableWord 8 0x01 = none ∧ decodeTableWord 0 0 = none := by decide
theorem test_withFetchWord : State.reset.withFetchWord 8 1 = State.reset := by decide +kernel

/-! ## The formats of the manual -/

/-- The CRC of R4 is CRC-16/CCITT-FALSE, whose value for the digits 1 to 9 is 0x29B1 (general knowledge). -/
theorem test_crc : crc16 [0x31, 0x32, 0x33, 0x34, 0x35, 0x36, 0x37, 0x38, 0x39] = 0x29B1#16 := by decide +kernel

/-- Nearest, ties away from zero (00_scope.md). -/
theorem test_rounding : roundAway 25 10 = 3 ∧ roundAway (-25) 10 = -3 ∧ roundAway 24 10 = 2 ∧ roundAway (-24) 10 = -2 := by decide

/-- Little-endian, two's complement (section 1.7). -/
theorem test_bytes : le32 0x12345678 = [0x78, 0x56, 0x34, 0x12] ∧ leI16 (-2) = [0xFE, 0xFF] := by decide +kernel

/-! ## Commands, one step each -/

/-- R14: in the start-up period a request other than PING, STATUS_GET and CAL_BEGIN is refused STARTING (code 0x13). -/
theorem test_starting : after (exec (.zero 9 0) State.reset) (fun t => (lastReply t).map (·.body) == some [Byte.of Result.starting.code]) = true := by
  decide +kernel
/-- R15. -/
theorem test_ping : after (exec (.ping 9) State.reset) (fun t => lastReply t == some ⟨0x41, 9, [0, 0x40, 0x03, 0x01, 0]⟩) = true := by
  decide +kernel
/-- R17: printer/darkness is clamped to 8. -/
theorem test_settingPut_clamps :
    after (exec (.settingPut 3 9 1 200) up) (fun t => lastReply t == some ⟨0x44, 3, [0, 8, 0, 0, 0]⟩) = true := by decide +kernel
/-- R31: zero of a load of 100 g, within 2% of 6,000 g. -/
theorem test_zero : after (exec (.zero 1 0) (scales 100)) (fun t => t.chP.zo == 100000 && (t.report .p).gross == 0) = true := by
  decide +kernel
/-- R31: 121 g lie outside 2% of 6,000 g. -/
theorem test_zero_outOfRange :
    after (exec (.zero 1 0) (scales 121)) (fun t => t.chP.zo == 0 && (lastReply t).map (·.body) == some [0x0E]) = true := by
  decide +kernel
/-- R38: a preset tare of 47 g is rounded to 45 g. -/
theorem test_tarePreset :
    after (exec (.tarePreset 1 47) (scales 500)) (fun t => t.chP.tare == 45000 && lastReply t == some ⟨0x52, 1, [0, 45, 0, 0, 0]⟩)
      = true := by decide +kernel
/-- R22: the watchdog's expiry. -/
theorem test_watchdog : after (exec (.conversionWatchdogExpiry .p) (scales 500)) (fun t => t.chP.state == .fault && t.clock == 100)
    = true := by decide +kernel
/-- R26: (3 + 4 + 4 + 4) / 4 rounds to 4; (3 + 3 + 4 + 4) / 4 = 3.5 rounds up to 4. -/
theorem test_filter : filtered 4 [3, 4, 4, 4] = 4 ∧ filtered 4 [3, 3, 4, 4] = 4 ∧ filtered 4 [-3, -3, -4, -4] = -3 := by
  decide +kernel
/-- The worked windows of 02_weighing_channels.md, with N = 4. -/
theorem test_filter_manual :
    filtered 4 [3, 4, 3, 3] = 3 ∧ filtered 4 [2, 3, 2, 3] = 3 ∧ filtered 4 [-3, -4, -3, -3] = -3 ∧ filtered 4 [-2, -3, -2, -3] = -2 := by
  decide +kernel
/-- The worked scaling of 02_weighing_channels.md: one count is 2.5 mg. -/
theorem test_scale_manual :
    let k : Calibration := { cal0 with zc := 0, cs := 6000000, ms := 15000000 }
    k.scale 1 = 3 ∧ k.scale (-1) = -3 ∧ k.scale 3 = 8 := by decide +kernel
/-- The worked prices of 05_priced_weighings.md. -/
theorem test_price_manual : salePrice 875 398 = 348 ∧ salePrice 750 398 = 299 := by decide +kernel
/-- The worked strobe widths of 10_the_receipt_printer.md. -/
theorem test_strobe_manual :
    strobeWidth 4 216 40 = 377 ∧ strobeWidth 6 240 20 = 440 ∧ strobeWidth 8 180 25 = 924 ∧ strobeWidth 1 300 64 = 100 := by
  decide +kernel
/-- The worked intervals of the card reader's chapter. -/
theorem test_flux_manual : segmentBits [200, 100, 98, 51, 49, 103, 50, 52, 47] = [false, false, true, false, true] := by decide +kernel
/-- R88: 1,000 g at 2,995 a kilogram latch 2,995; the record goes into the store's queue while the flash is busy. -/
theorem test_latch :
    after (exec (.conversionComplete .p 1000) { sale .opened (scales 1000) with
        pw := { Pricing.reset with state := .waitStable, unitPrice := 2995, txn := 7, settle := some 10000 }
        store := { Store.reset with op := .read } })
      (fun t => t.pw.state == .storing && t.pw.latch == some ⟨1000, 0, 2995, 1⟩ && t.store.queue.length == 1) = true := by
  decide +kernel
/-- R65, R66: the first transaction of a part with number 7 is number 8. -/
theorem test_open : after (exec (.txnOpen 1 0) (sale .idle (scales 0)))
    (fun t => t.txn.number == 8 && t.bag.state == .watching && lastReply t == some ⟨0x60, 1, [0, 8, 0, 0, 0]⟩) = true := by
  decide +kernel
/-- R130: 100 g on the bag match the first ADD entry whose range holds them. -/
theorem test_settle : after (exec (.conversionComplete .b 100)
      { watching [item 1 300 false, item 2 98 false] (sale .opened (scales 0)) with chB := steady 100 })
    (fun t => t.bag.entries.map (·.ref) == [1] && t.bag.baseline == 100 && t.bag.lastMatched == some 2) = true := by decide +kernel
/-- R142: the first switch to close is the front one. -/
theorem test_cardIn : after (exec (.cardSwitchChange .front true) up) (fun t => t.card.seat == .entering) = true := by decide +kernel
/-- R141: the rear switch alone is READER_FAULT. -/
theorem test_cardFault : after (exec (.cardSwitchChange .rear true) up) (fun t => t.card.seat == .readerFault) = true := by
  decide +kernel
/-- R169: a NO_SALE kick starts at once, holds 256 loads, and ends after 80 ms. -/
theorem test_drawerOpen : after (exec (.drawerOpen 1 1 1) up)
    (fun t => t.drw1.state == .kick && t.drw1.grant == 256 && t.drw1.kickTimer == some 80 && t.noSale == 1) = true := by
  decide +kernel
/-- R170: a kick whose drawer has not opened goes on as HOLD with a load of 25% of 256. -/
theorem test_kickEnds : after (exec (.kickTimerExpiry .one) { up with drw1 := { Drawer.reset true with
      state := .kick, grant := 256, holdLoad := 64, kickTimer := some 80 } })
    (fun t => t.drw1.state == .hold && t.drw1.grant == 64 && t.drw1.holdTimer == some 480 && t.clock == 80) = true := by
  decide +kernel
/-- R178, R179: a slip (RECEIPT_BEGIN 0, FEED 3, RECEIPT_END). -/
theorem test_print : after (exec (.printRecords 1 [1, 0, 0, 0, 0, 3, 3, 0, 6]) up) (fun t => t.prn.work == some (.feed 3) && t.prn.engine == .printing)
    = true := by decide +kernel
/-- R190: a lifted cover suspends the engine. -/
theorem test_cover : after (exec (.coverSensorChange true) up) (fun t => t.prn.engine == .suspended && t.prn.reasons.coverOpen)
    = true := by decide +kernel
/-- R202: three beeps last 600 ms. -/
theorem test_beep : after (exec (.attnBeep 1 3 0) up) (fun t => t.attn.beepEnd == some 600 && t.toneOutput == some 2000) = true := by
  decide +kernel
/-- Recovery of a blank array brings sector 0 into use and ends the start-up period (R115, R14). -/
theorem test_recovery : after (exec (.recoveryScanEnd blankScan) State.reset)
    (fun t => !t.link.starting && t.store.next == 1 && (t.store.entry 0).state == .active && t.store.condition == .normal) = true := by
  decide +kernel
/-- The queue runs first in, first out, and an empty one lets a millisecond pass (log entry 2). -/
theorem test_step : after (step { up with pending := [.ping 1, .ping 2] }) (fun t => t.pending == [.ping 2]) = true
    ∧ after (step up) (fun t => t.clock == 1) = true := by decide +kernel

/-! ## The statements' hypotheses are met

One theorem for each statement that has hypotheses: for each clause, a state and operands that meet its hypotheses together. -/

/-- A frame being sent, at its byte `i`. -/
def sending (i : Nat) (reply : Bool) : TxFrame := { bytes := [0xA5, 0, 0], index := i, inFlight := true, isReply := reply }

theorem test_hyp_EmptyQueueLetsAMillisecondPass : up.pending = [] := rfl

theorem test_hyp_TransmitterChoosesAndSendsOneFrame :
    ({ Link.reset with tx := some (sending 0 true) } : Link).tx.isSome = true
    ∧ (Link.reset.tx = none ∧ ({ Link.reset with replies := [⟨0x41, 1, [0]⟩] } : Link).replies = ⟨0x41, 1, [0]⟩ :: [])
    ∧ (∀ l : Link, l = { Link.reset with slots := { Slots.empty with weightB := some [] } } →
        l.tx = none ∧ l.replies = [] ∧ (∀ j ∈ Slot.order.dropLast, l.slots.get j = none)
        ∧ Slot.order = Slot.order.dropLast ++ [Slot.weightB] ∧ l.slots.get .weightB = some [])
    ∧ (∀ k, Slots.empty.get k = none)
    ∧ ((sending 1 true).inFlight = true ∧ (sending 1 true).index + 1 < (sending 1 true).bytes.length)
    ∧ ((sending 2 true).inFlight = true ∧ (sending 2 true).index + 1 = (sending 2 true).bytes.length)
    ∧ up.link.tx = none := by
  refine ⟨rfl, ⟨rfl, rfl⟩, ?_, fun k => by cases k <;> rfl, by decide, by decide, rfl⟩
  rintro l rfl; exact ⟨rfl, rfl, by decide, by decide, rfl⟩

theorem test_hyp_ReceivedByteIsStoredOrLost :
    (2048 ≤ ({ Link.reset with rx := List.replicate 2048 ⟨0xA5, false, false⟩ } : Link).rx.length)
    ∧ ({ Link.reset with rx := List.replicate 2047 ⟨0xA5, false, false⟩ } : Link).rx.length < 2048 := by decide +kernel

theorem test_hyp_LrdyRisesOnlyOnAnEmptyBuffer :
    let s : State := { up with link := { up.link with rx := [⟨0xA5, false, false⟩], lrdy := false }, pending := [.candidateAbandoned] }
    after (step s) (fun t => s.link.lrdy == false && t.link.lrdy) = true := by decide +kernel

/-- A buffer that holds a frame behind a sync byte. -/
def holding (f : Frame) : Link :=
  { up.link with rx := ⟨0xA5, true, true⟩ :: f.bytes.tail.map (fun b => ⟨b, false, false⟩) }

theorem test_hyp_FrameBytesReadBackAsTheFrame :
    (List.replicate 1024 (0 : Byte)).length ≤ 1024
    ∧ (holding ⟨0x01, 5, []⟩).rx = ⟨0xA5, true, true⟩ :: ((⟨0x01, 5, []⟩ : Frame).bytes.tail.map fun b => ⟨b, false, false⟩) ++ []
    ∧ (holding ⟨0x01, 5, []⟩).headFrame = some (⟨0x01, 5, []⟩, []) := by decide +kernel

theorem test_hyp_RequestFrameRunsItsRow :
    (Instr.zero 5 1).frame? = some ⟨0x11, 5, [1]⟩ ∧ (0x11 : Byte) ≠ 0x03
    ∧ (holding ⟨0x11, 5, [1]⟩).headFrame = some (⟨0x11, 5, [1]⟩, []) ∧ (holding ⟨0x11, 5, [1]⟩).mayTake = true := by decide +kernel

theorem test_hyp_FrameWaitsOrIsRefusedByTheLink :
    (({ holding ⟨0x01, 5, []⟩ with reserved := 8 } : Link).headFrame = some (⟨0x01, 5, []⟩, [])
      ∧ ({ holding ⟨0x01, 5, []⟩ with reserved := 8 } : Link).mayTake = false)
    ∧ ((holding ⟨0x39, 5, []⟩).headFrame = some (⟨0x39, 5, []⟩, []) ∧ (holding ⟨0x39, 5, []⟩).mayTake = true ∧ knownKind 0x39 = false)
    ∧ ((holding ⟨0x38, 5, [0]⟩).headFrame = some (⟨0x38, 5, [0]⟩, []) ∧ (holding ⟨0x38, 5, [0]⟩).mayTake = true
      ∧ knownKind 0x38 = true ∧ parseBody 0x38 [0] = none) := by decide +kernel

theorem test_hyp_Ping_and_Report : up.link.mayTake = true ∧ up.link.starting = false := by decide
theorem test_ready : up.ready := ⟨rfl, rfl⟩

theorem test_hyp_SettingsAreClampedAndReadBack : up.ready
    ∧ (∃ row ∈ settingRows, row.block = 1 ∧ row.setting = 1) ∧ (∃ row ∈ settingRows, row.block = 11 ∧ row.setting = 1)
    ∧ (∀ row ∈ settingRows, ¬ (row.block = 11 ∧ row.setting = 2))
    ∧ after (exec (.settingPut 1 6 1 160) up) (fun _ => true) = true := by
  exact ⟨⟨rfl, rfl⟩, by decide, by decide, by decide, by decide +kernel⟩

theorem test_hyp_NoticeMaskEmptiesWhatItDisables : up.ready ∧ (1023#16).toNat ≤ 1023 ∧ 1023 < (1024#16).toNat :=
  ⟨⟨rfl, rfl⟩, by decide, by decide⟩

theorem test_hyp_LaneReset : (sale .opened up).ready ∧ (sale .opened up).txn.state ≠ .idle
    ∧ ((sale .opened up).drw .one).fitted = true := ⟨⟨rfl, rfl⟩, by decide, rfl⟩

theorem test_hyp_LaneResetInTwoSteps :
    ((holding ⟨0x03, 9, []⟩).headFrame = some (⟨0x03, 9, []⟩, []) ∧ ({ up with link := holding ⟨0x03, 9, []⟩ } : State).ready)
    ∧ ({ up.link with resetTag := some 9, reserved := 1 } : Link).resetTag = some 9 := ⟨⟨by decide +kernel, rfl, rfl⟩, rfl⟩

theorem test_hyp_PowerOnAndRecovery : up.store.op = .idle ∧ State.reset.link.starting = true ∧ up.link.starting = false
    ∧ up.store.queue = [] := ⟨rfl, rfl, rfl, rfl⟩

theorem test_hyp_AttentionSourcesBeginMuteAndEnd : up.ready ∧ 1 ≤ (1#8).toNat ∧ (9#8).toNat ≤ 9 ∧ (2#8).toNat ≤ 2
    ∧ (0#8).toNat = 0 ∧ 9 < (10#8).toNat ∧ 2 < (3#8).toNat
    ∧ ({ Attention.reset with beepEnd := some 200 } : Attention).beepEnd = some 200
    ∧ ({ Attention.reset with acceptEnd := some 40 } : Attention).acceptEnd = some 40 :=
  ⟨⟨rfl, rfl⟩, by decide, by decide, by decide, by decide, by decide, by decide, rfl, rfl⟩

theorem test_hyp_ToneIsThePlayedSourceAndTheLampStays : up.ready
    ∧ after (exec (.attnSilence 1) up) (fun t => t.toneOutput == none) = true
    ∧ after (exec (.attnBeep 1 9 2) up) (fun t => t.toneOutput == some 3000) = true
    ∧ (∀ k, k ≠ .hostBeep → (up.attn.get k).active = true → (up.attn.get k).muted = true)
    ∧ ({ up with attn := { Attention.reset with bagHold := { active := true, muted := false, start := 0 } } } : State).toneOutput.isSome
      = true := by
  exact ⟨⟨rfl, rfl⟩, by decide +kernel, by decide +kernel, fun k _ => by cases k <;> decide, by decide +kernel⟩

/-! ### Weighing and calibration -/

theorem test_hyp_WeightGetReportsTheRoundedReading : (scales 7).ready
    ∧ (Channel.reset.latest = none) ∧ ((scales 7).ch .p).latest = some { a := 7, stable := true }
    ∧ (scales 7).inForce .p = some cal0 ∧ ((scales 7).ch .p).state = .weighing ∧ ((scales 7).ch .p).saturated = 0 ∧ 0 < cal0.params.e
    ∧ ((scales 7).report .p).condition = .valid
    ∧ ((scales 6046).report .p).condition = .over ∧ ((scales 6045).report .p).condition = .valid
    ∧ ((scales (-101)).report .p).condition = .under ∧ ((scales (-100)).report .p).condition = .valid
    ∧ ((({ scales 7 with chP := { steady 7 with saturated := 1 } } : State)).report .p).condition = .saturated := by
  exact ⟨⟨rfl, rfl⟩, rfl, rfl, rfl, rfl, rfl, by decide, by decide +kernel, by decide +kernel, by decide +kernel, by decide +kernel,
    by decide +kernel, by decide +kernel⟩

theorem test_hyp_ZeroTakesThePresentLoad : (scales 120).ready ∧ ((scales 120).ch .p).state = .weighing
    ∧ ((scales 120).pw.inFlight = false ∧ (scales 120).chP.tare = 0) ∧ (scales 120).bag.state = .inactive
    ∧ ((scales 120).ch .p).latest = some { a := 120, stable := true } ∧ ((scales 120).ch .p).saturated = 0
    ∧ (((scales 120).scale .p 120 - ((scales 120).ch .p).zoInit).natAbs : Int) ≤ 20 * ((scales 120).params .p).max := by
  exact ⟨⟨rfl, rfl⟩, rfl, ⟨rfl, rfl⟩, rfl, rfl, rfl, by decide +kernel⟩

theorem test_hyp_TareActionsSetTheTare : (scales 6000).ready ∧ (scales 6000).pw.inFlight = false
    ∧ ((scales 6000).chP.state = .weighing ∧ 0 < (6000#32).toInt ∧ (6000#32).toInt ≤ ((scales 6000).params .p).max
        ∧ (6000000 : Int) = 1000 * ((scales 6000).params .p).e * roundAway (1000 * (6000#32).toInt) (1000 * ((scales 6000).params .p).e)
        ∧ (6000000 : Int) ≤ 1000 * ((scales 6000).params .p).max)
    ∧ ((scales 6000).chP.latest = some { a := 6000, stable := true } ∧ (scales 6000).chP.saturated = 0
        ∧ 0 < (scales 6000).scale .p 6000 - (scales 6000).chP.zo
        ∧ (scales 6000).scale .p 6000 - (scales 6000).chP.zo ≤ 1000 * ((scales 6000).params .p).max
        ∧ (6000000 : Int) = 1000 * ((scales 6000).params .p).e
            * roundAway ((scales 6000).scale .p 6000 - (scales 6000).chP.zo) (1000 * ((scales 6000).params .p).e)) := by
  exact ⟨⟨rfl, rfl⟩, rfl, by decide +kernel, by decide +kernel⟩

theorem test_hyp_ConversionFormsTheReading : ((scales 0).ch .p).state ≠ .fault
    ∧ ((scales 0).pw.state ≠ .waitRearm ∧ (scales 0).pw.state ≠ .waitStable) ∧ (scales 0).bag.state = .inactive
    ∧ (up.ch .p).samples.length + 1 < (up.params .p).n ∧ ((scales 0).params .p).n ≤ ((scales 0).ch .p).samples.length + 1
    ∧ after (exec (.conversionComplete .p 300) { scales 300 with chP := { steady 300 with state := .noZero } })
        (fun t => t.chP.state == .weighing && t.chP.zo == 300000) = true := by decide +kernel

theorem test_hyp_WatchdogFaultsAndTrackingStepsTheZero :
    ((scales 0).ch .b).watchdog = some 100 ∧ (watching [] (scales 0)).bag.state = .watching ∧ (watching [] (scales 0)).bag.kind = .none
    ∧ ((({ scales 0 with chP := { steady 0 with state := .fault, watchdog := none } } : State)).ch .p).state = .fault
    ∧ 1 < ((scales 0).params .p).n
    ∧ ({ steady 2 with tracking := some 1000 } : Channel).tracking = some 1000
    ∧ ({ steady 2 with tracking := some 1000 } : Channel).latest = some { a := 2, stable := true } := by decide +kernel

/-- A session of channel P, staged whole. -/
def session : Session :=
  { channel := .p, home := .weighing, zc := some 0, span := some (6000, 6000000), params := cal0.params, zeroStaged := true,
    spanStaged := true, paramsStaged := false, committing := false, endMark := false, cause := .request }

/-- Channel P is under calibration, the metrology switch closed. -/
def calibrating : State :=
  { scales 1000 with
    chP := { steady 1000 with state := .calibrating }
    cal := { (scales 1000).cal with switchClosed := true, session := some session } }

theorem test_hyp_SwitchChangeReportsAndEndsAnOpenSession :
    up.cal.switchClosed = false ∧ up.cal.switchClosed ≠ true ∧ up.cal.session = none
    ∧ (calibrating.cal.switchClosed = true ∧ calibrating.cal.session = some session ∧ session.committing = false)
    ∧ ({ session with committing := true } : Session).committing = true := by decide +kernel

theorem test_hyp_CalibrationSessionBeginsAndIsAbandoned : calibrating.ready
    ∧ (∀ s : State, s = { scales 0 with cal := { (scales 0).cal with switchClosed := true } } →
        s.cal.switchClosed = true ∧ s.txn.state = .idle ∧ s.cal.session = none)
    ∧ calibrating.cal.session = some session ∧ session.committing = false ∧ session.home ≠ .noZero := by
  refine ⟨⟨rfl, rfl⟩, ?_, rfl, rfl, by decide⟩
  rintro s rfl; exact ⟨rfl, rfl, rfl⟩

theorem test_hyp_PointsAndParametersAreStaged : calibrating.ready ∧ calibrating.cal.session = some session
    ∧ (calibrating.ch .p).latest = some { a := 1000, stable := true } ∧ (calibrating.ch .p).saturated = 0
    ∧ 1000 ≤ (1000#32).toNat ∧ (60000000#32).toNat ≤ 60000000 ∧ (999#32).toNat < 1000 ∧ 60000000 < (60000001#32).toNat
    ∧ (6000 % 1 = 0 ∧ 6000 / 1 ≤ 6000 ∧ 60000 % 10 = 0 ∧ 60000 / 10 ≤ 6000 ∧ ¬ 6005 / 1 ≤ 6000) := by
  exact ⟨⟨rfl, rfl⟩, rfl, rfl, rfl, by decide, by decide, by decide, by decide, by decide⟩

theorem test_hyp_CommitHandsOverTheStagedCalibration : calibrating.ready ∧ session.zc = some 0 ∧ session.span = some (6000, 6000000)
    ∧ ((0 : Int) < 6000 ∧ 1000 * (cal0.params.max : Int) ≤ 10 * 6000000 ∧ 4 * (6000000 : Int) ≤ (6000 - 0) * (1000 * cal0.params.e))
    ∧ ¬ (4 * (6000000 : Int) ≤ (4799 - 0) * (1000 * cal0.params.e))
    ∧ (∀ s : State, s = { calibrating with store := { Store.reset with op := .read } } →
        s.store.condition ≠ .storeFull ∧ s.store.condition ≠ .failed ∧ s.store.queue.length + s.store.waiters.length < 4 ∧ s.flashBusy)
    ∧ 4 ≤ [Waiter.sale, .line, .line, .line].length := by
  refine ⟨⟨rfl, rfl⟩, rfl, rfl, by decide, by decide, ?_, by decide⟩
  rintro s rfl; exact ⟨by decide, by decide, by decide, by decide, Or.inl (by decide)⟩

/-! ### The transaction -/

theorem test_hyp_OpenBeginsAFreshTransaction : (sale .idle (scales 0)).ready ∧ (sale .idle (scales 0)).txn.state = .idle
    ∧ (∀ p, ((sale .idle (scales 0)).drw p).state = .closed ∨ ((sale .idle (scales 0)).drw p).state = .noOpen)
    ∧ (sale .idle (scales 0)).txn.number < 4294967295
    ∧ (∀ s : State, s = { sale .idle (scales 0) with chB := steady 10 } → s.bag.enabled = true ∧ s.chB.state = .weighing
        ∧ s.chB.isStable = true ∧ (s.report .b).condition = .valid ∧ s.bag.requireClear = true
        ∧ ((s.report .b).gross.natAbs : Int) ≤ s.bag.band * (s.params .b).e) := by
  refine ⟨⟨rfl, rfl⟩, rfl, fun p => by cases p <;> decide, by decide, ?_⟩
  rintro s rfl; decide +kernel

theorem test_hyp_TenderSetsItsKindAndDropsSkippables : (sale .opened up).ready ∧ (sale .opened up).txn.state = .opened
    ∧ (2#8).toNat ≤ 2 ∧ (sale .opened up).txn.inFlight = false
    ∧ ({ (sale .opened up).txn with inFlight := true } : Txn).inFlight = true
    ∧ (up.bag.enabled = true ∧ ({ Bag.reset with state := .hold } : Bag).state = .hold)
    ∧ ((watching [item 1 100 false] up).bag.state ≠ .hold ∧ ∃ e ∈ (watching [item 1 100 false] up).bag.entries,
        e.dir = .remove ∨ e.skippable = false)
    ∧ ¬ (∃ e ∈ (watching [item 1 100 true] up).bag.entries, e.dir = .remove ∨ e.skippable = false) := by
  exact ⟨⟨rfl, rfl⟩, rfl, by decide, rfl, rfl, ⟨rfl, rfl⟩, by decide, by decide⟩

theorem test_hyp_ResumeReturnsATenderToOpen : (sale .tender up).ready ∧ (sale .idle up).txn.state ≠ .tender
    ∧ (sale .tender up).txn.state = .tender ∧ ({ (sale .tender up).txn with fired2 := true } : Txn).fired2 = true
    ∧ ((sale .tender up).txn.fired1 = false ∧ (sale .tender up).txn.fired2 = false) :=
  ⟨⟨rfl, rfl⟩, by decide, rfl, rfl, rfl, rfl⟩

/-- A sale whose cash drawer, port 1, was fired. -/
def fired (d : DrawerState) (r : ReceiptState) (l : List Sale) : State :=
  { sale .tender up with
    txn := { (sale .tender up).txn with tenderCash := true, fired1 := true, receipt := r, sales := l }
    drw1 := { Drawer.reset true with state := d, reason := .sale } }

theorem test_hyp_CloseEndsOrWaitsForReceiptAndDrawers : (sale .opened up).txn.state ≠ .tender
    ∧ ((fired .waitSupply .none []).ready ∧ (fired .waitSupply .none []).txn.fired .one = true
        ∧ ((fired .waitSupply .none []).drw .one).state = .waitSupply)
    ∧ (∀ s, s = fired .closed .none [⟨1, 2, 3, false, false⟩] → (¬ ∃ p, s.txn.fired p = true ∧ (s.drw p).state = .waitSupply)
        ∧ s.txn.sales ≠ [] ∧ s.txn.receipt = .none)
    ∧ (∀ s, s = fired .closed .printed [] → (¬ ∃ p, s.txn.fired p = true ∧ (s.drw p).state = .waitSupply)
        ∧ s.txn.receipt = .printed ∧ ∀ p, s.txn.fired p = true → (s.drw p).state = .closed ∨ (s.drw p).state = .noOpen)
    ∧ (∀ s, s = fired .kick .queued [] → (¬ ∃ p, s.txn.fired p = true ∧ (s.drw p).state = .waitSupply) ∧ s.txn.receipt ≠ .none
        ∧ s.txn.receipt = .queued)
    ∧ up.bag.state = .inactive ∧ (watching [] up).bag.state ≠ .inactive := by
  refine ⟨by decide, ⟨⟨rfl, rfl⟩, rfl, rfl⟩, ?_, ?_, ?_, rfl, by decide⟩ <;> rintro s rfl
  · exact ⟨by rintro ⟨p, h⟩; revert h; cases p <;> decide, by decide, rfl⟩
  · exact ⟨by rintro ⟨p, h⟩; revert h; cases p <;> decide, rfl, fun p => by cases p <;> decide⟩
  · exact ⟨by rintro ⟨p, h⟩; revert h; cases p <;> decide, by decide, rfl⟩

theorem test_hyp_AbortEndsTheTransaction : up.ready ∧ up.txn.state = .idle
    ∧ ((fired .waitSupply .opened []).txn.state ≠ .idle ∧ (fired .waitSupply .opened []).txn.fired .one = true
        ∧ ((fired .waitSupply .opened []).drw .one).state = .waitSupply)
    ∧ (∀ s, s = fired .kick .opened [] → s.txn.state ≠ .idle ∧ (¬ ∃ p, s.txn.fired p = true ∧ (s.drw p).state = .waitSupply)
        ∧ s.txn.receipt = .opened ∧ s.prn.work = none ∧ s.pw.inFlight = s.txn.inFlight ∧ s.bag.state = .inactive)
    ∧ (({ (sale .opened up).txn with inFlight := true } : Txn).inFlight = true
        ∧ ({ Pricing.reset with state := .storing } : Pricing).state = .storing
        ∧ ({ Pricing.reset with state := .waitStable } : Pricing).state = .waitStable) := by
  refine ⟨⟨rfl, rfl⟩, rfl, ⟨by decide, rfl, rfl⟩, ?_, rfl, rfl, rfl⟩
  rintro s rfl
  exact ⟨by decide, by rintro ⟨p, h⟩; revert h; cases p <;> decide, rfl, rfl, rfl, rfl⟩

/-! ### Priced weighings -/

theorem test_hyp_PriceWeighBeginsToWait :
    ∀ s, s = sale .opened (scales 0) → s.ready ∧ s.pw.state = .idle ∧ s.txn.state = .opened ∧ s.txn.receipt = .none
      ∧ s.chP.state = .weighing ∧ 1 ≤ (999999#32).toNat ∧ (999999#32).toNat ≤ 999999
      ∧ ((0#32).toInt = 0 ∧ (0 : Int) = s.chP.tare)
      ∧ (0 < (3#32).toInt ∧ (3#32).toInt ≤ (s.params .p).max
          ∧ (5000 : Int) = 1000 * (s.params .p).e * roundAway (1000 * (3#32).toInt) (1000 * (s.params .p).e)
          ∧ (5000 : Int) ≤ 1000 * (s.params .p).max)
      ∧ s.txn.sales.length < 32 ∧ (1#8).toNat ≤ 1 ∧ s.bag.enabled = true ∧ s.bag.entries.length + s.bag.reserved < 16
      ∧ s.store.condition ≠ .failed ∧ s.store.condition ≠ .storeFull := by
  rintro s rfl; exact ⟨⟨rfl, rfl⟩, by decide +kernel⟩

/-- A weighing that waits on channel P. -/
def weighing (st : PwState) (rearm : Bool) (price : Nat) (s : State) : State :=
  { sale .opened s with
    txn := { (sale .opened s).txn with inFlight := true }
    pw := { Pricing.reset with state := st, rearm := rearm, reference := 500, unitPrice := price, txn := 7, settle := some 10000 } }

/-- The report of the reading that a conversion forms on channel P. -/
def formed (raw : BitVec 24) (s : State) : Report := (s.convert .p raw.toInt).report .p

theorem test_hyp_ReadingLatchesAWaitingWeighing :
    (∀ s, s = weighing .waitRearm false 1000 (scales 520) →
      (s.convert .p 520).chP.samples.length = (s.params .p).n ∧ (formed 520 s).state = .weighing ∧ (formed 520 s).condition = .valid
      ∧ ¬ ((formed 520 s).gross.natAbs ≤ 5 * 5) ∧ ¬ (20 * 5 ≤ ((formed 520 s).net - s.pw.reference).natAbs))
    ∧ (∀ s, s = weighing .waitRearm false 1000 (scales 600) → 20 * 5 ≤ ((formed 600 s).net - s.pw.reference).natAbs
      ∧ (formed 600 s).stable = true ∧ 20 * 5 ≤ (formed 600 s).net)
    ∧ (∀ s, s = weighing .waitRearm false 1000 (scales 25) → (formed 25 s).gross.natAbs ≤ 5 * 5 ∧ ¬ 20 * 5 ≤ (formed 25 s).net)
    ∧ (∀ s, s = weighing .waitStable true 1000 (scales 95) → (formed 95 s).stable = true ∧ ¬ 20 * 5 ≤ (formed 95 s).net)
    ∧ (∀ s, s = weighing .waitStable true 100000 (scales 100) → (formed 100 s).stable = true ∧ 20 * 5 ≤ (formed 100 s).net
      ∧ roundAway ((formed 100 s).net * s.pw.unitPrice) 1000 ≤ 9999999
      ∧ s.store.condition ≠ .failed ∧ s.store.condition ≠ .storeFull ∧ s.store.queue.length + s.store.waiters.length < 4)
    ∧ (∀ s, s = weighing .waitStable true 2000000 (scales 5000) → (formed 5000 s).stable = true
      ∧ 9999999 < roundAway ((formed 5000 s).net * s.pw.unitPrice) 1000)
    ∧ ({ up with store := { Store.reset with op := .read } } : State).flashBusy
    ∧ 4 ≤ [Waiter.sale, .line, .line, .line].length := by
  refine ⟨?_, ?_, ?_, ?_, ?_, ?_, ⟨by decide, Or.inl (by decide)⟩, by decide⟩ <;> rintro s rfl <;> decide +kernel

theorem test_hyp_WaitingWeighingIsCancelledOrExpires :
    (weighing .waitRearm false 1 up).ready ∧ (weighing .waitRearm false 1 up).pw.state = .waitRearm
    ∧ (weighing .storing false 1 up).pw.state = .storing ∧ up.pw.state = .idle
    ∧ (weighing .waitStable true 1 up).pw.settle = some 10000 ∧ (weighing .waitStable true 1 up).pw.state ≠ .waitRearm
    ∧ up.chP.latest = none ∧ (scales 5).chP.latest ≠ none
    ∧ ((scales 6050).report .p).condition = .over ∧ ((scales (-105)).report .p).condition = .under
    ∧ (((scales 95).report .p).condition = .valid ∧ ((scales 95).report .p).stable = true
        ∧ ((scales 95).report .p).net < 20 * (((scales 95).params .p).e : Int)) := by
  exact ⟨⟨rfl, rfl⟩, by decide +kernel⟩

/-! ### The alibi store -/

/-- A store whose flash is busy with a read. -/
def busyStore (q : List Access) (w : List Waiter) (s : State) : State := { s with store := { Store.reset with op := .read, queue := q, waiters := w } }

/-- A SALE record: 100 g at 1,000 a kilogram. -/
def record : SaleFields :=
  { presetTare := false, tarePresent := false, counter := 1, txn := 7, laneTime := 0, unitPrice := 1000, tare := 0, net := 100,
    price := 100 }

def threeReads : List Access := [.readHost 1 1 1, .readHost 2 1 1, .readHost 3 1 1]

theorem test_hyp_WaitersAreHandedOverInOrder :
    (∀ s, s = { busyStore threeReads [.sale] up with pw := { Pricing.reset with waiting := some record } } →
      s.pw.waiting = some record ∧ s.store.waiters = [.sale] ∧ s.store.queue.length < 4 ∧ s.flashBusy
      ∧ s.store.condition ≠ .failed ∧ s.store.condition ≠ .storeFull)
    ∧ (∀ s, s = { busyStore threeReads [.line] up with prn := { Printer.reset with work := some (.reading 3) } } →
      s.prn.work = some (.reading 3) ∧ s.store.waiters = [.line] ∧ s.store.queue.length < 4 ∧ s.flashBusy)
    ∧ 4 ≤ (busyStore (.readHost 4 1 1 :: threeReads) [] up).store.queue.length
    ∧ (busyStore [] [] up).store.waiters.head? ≠ some .line := by
  refine ⟨?_, ?_, by decide, by decide⟩ <;> rintro s rfl
  · exact ⟨rfl, rfl, by decide, ⟨by decide, Or.inl (by decide)⟩, by decide, by decide⟩
  · exact ⟨rfl, rfl, by decide, ⟨by decide, Or.inl (by decide)⟩⟩

/-- A store with sector 0 FULL with numbers 1 to 128, sector 1 ACTIVE, and an operation. -/
def filledStore (op : FlashOp) (e : Option Erase) : Store :=
  { Store.reset with
    op := op, erase := e, next := 129, lastSeq := 2
    table := [⟨.full, 1, some 1, 128, false, false⟩, ⟨.active, 2, none, 0, false, false⟩] ++ List.replicate 6 SectorEntry.blank }

theorem test_hyp_AlibiReadJoinsTheQueueAndCutsAPulse : up.ready ∧ (0#8).toNat = 0 ∧ 8 < (9#8).toNat
    ∧ (1 ≤ (8#8).toNat ∧ (8#8).toNat ≤ 8)
    ∧ 4 ≤ (busyStore threeReads [.line] up).store.queue.length + (busyStore threeReads [.line] up).store.waiters.length
    ∧ ((busyStore threeReads [] up).store.queue.length + (busyStore threeReads [] up).store.waiters.length < 4
        ∧ (busyStore threeReads [] up).flashBusy)
    ∧ (∀ x, x = filledStore (.pulse false) (some ⟨5, 0, .pulse⟩) → x.op = .pulse false ∧ x.eraseFirst = false ∧ x.queue = []
        ∧ x.rotation = .none ∧ x.copies = [] ∧ x.erase = some ⟨5, 0, .pulse⟩
        ∧ (∃ y ∈ x.table, y.bears 1 = true) ∧ ∃ y ∈ x.table, y.bears 128 = true) := by
  refine ⟨⟨rfl, rfl⟩, by decide, by decide, by decide, by decide, ⟨by decide, ⟨by decide, Or.inl (by decide)⟩⟩, ?_⟩
  rintro x rfl; exact ⟨rfl, rfl, rfl, rfl, rfl, rfl, by decide +kernel, by decide +kernel⟩

theorem test_hyp_AlibiReleaseOwesTheMarks : up.ready
    ∧ (∀ x, x = filledStore .read none → x.condition ≠ .failed ∧ x.table[0]? = some ⟨.full, 1, some 1, 128, false, false⟩
        ∧ 1 + 128 - 1 ≤ max (min (128#32).toNat (x.next - 1)) x.releasePoint ∧ (∀ l, Access.release l ∉ x.queue)
        ∧ x.queue.length + x.waiters.length < 4)
    ∧ ({ up with store := filledStore .read none } : State).flashBusy
    ∧ after (exec (.alibiRelease 1 128) { up with store := filledStore .read none })
        (fun t => t.store.releasePoint == 128 && t.store.queue == [.release [0]]) = true
    ∧ after (exec (.alibiRelease 1 127) { up with store := filledStore .read none })
        (fun t => t.store.releasePoint == 127 && t.store.queue == []) = true
    ∧ 4 ≤ [Waiter.sale, .line, .line, .line].length := by
  refine ⟨⟨rfl, rfl⟩, ?_, ⟨by decide, Or.inl (by decide)⟩, by decide +kernel, by decide +kernel, by decide⟩
  rintro x rfl; exact ⟨by decide, by decide, by decide, fun l h => by simp [filledStore, Store.reset] at h, by decide⟩

/-- The store at the end of a program: sector 1 ACTIVE, its array programmed as the table says. -/
def programming (b : RecordBody) (s : State) : State :=
  { s with
    store := { filledStore .programHead none with queue := [.write b] }
    flash := [⟨.marked (some 1) true false, List.replicate 128 .cleared⟩, ⟨.marked (some 2) false false, []⟩]
      ++ List.replicate 6 ⟨.blank, []⟩ }

/-- The record that a calibration of channel P commits. -/
def calRecord : CalFields := { channel := .p, carried := false, counter := 2, cal := cal0 }

theorem test_hyp_RecordProgramTakesItsSlotAndNumber :
    (∀ s, s = programming (.sale record) { weighing .storing false 1000 up with bag := { Bag.reset with reserved := 1 } } →
      s.store.op = .programHead ∧ s.store.queue = [.write (.sale record)] ∧ s.store.active = some 1
      ∧ s.flash[1]? = some ⟨.marked (some 2) false false, []⟩ ∧ s.pw.state = .storing ∧ 0 < s.bag.reserved
      ∧ s.store.failed = false ∧ s.store.failures < 2 ∧ s.store.next < 4294967295 ∧ s.store.copies = [] ∧ s.store.rotation = .none
      ∧ s.link.starting = false ∧ 2 < 128 - ((s.store.entry 1).used + 1))
    ∧ ({ (weighing .storing false 1000 up).pw with latch := some ⟨100, 0, 100, 1⟩, reserved := true } : Pricing).latch
        = some ⟨100, 0, 100, 1⟩
    ∧ (∀ s, s = programming (.cal calRecord) calibrating → s.store.op = .programHead
      ∧ s.store.queue = [.write (.cal calRecord)] ∧ s.store.active = some 1 ∧ s.cal.session = some session
      ∧ (s.ch calRecord.channel).state ≠ .fault) := by
  refine ⟨?_, rfl, ?_⟩ <;> rintro s rfl <;> decide +kernel

theorem test_hyp_HeaderMarksTakeEffectWhenVerified :
    (∀ s, s = { programming (.sale record) up with store := filledStore (.markFull 1 true) none } →
      s.flash[1]? = some ⟨.marked (some 2) false false, []⟩ ∧ s.store.op = .markFull 1 true)
    ∧ (∀ x, x = { filledStore (.markInUse 2 3) none with rotation := .owesInUse 1 true } →
      x.op = .markInUse 2 3 ∧ x.rotation = .owesInUse 1 true ∧ 2 < x.table.length ∧ x.erase = none)
    ∧ (∀ x, x = { filledStore (.markReleased 0) none with failures := 1 } → x.op = .markReleased 0 ∧ 0 < x.table.length
      ∧ x.failed = false ∧ x.failures < 2)
    ∧ 2 ≤ ({ filledStore (.markReleased 0) none with failures := 2 } : Store).failures := by
  refine ⟨?_, ?_, ?_, by decide⟩ <;> rintro s rfl <;> decide +kernel

/-- The RELEASED mark of sector 0 being programmed for a release access, with accesses behind it. -/
def releasing (x : Store) (l : List Nat) (rest : List Access) (s : State) : State :=
  { programming (.sale record) s with store := { x with op := .markReleased 0, queue := .release l :: rest } }

/-- A full store: sector 0 FULL with the current CAL record of channel P, sector 1 FULL behind it, sector 2 ACTIVE, the others RETIRED. -/
def exportStore (used : Nat) : Store :=
  { Store.reset with
    next := 257 + used, lastSeq := 3, currentP := some { number := 5, fields := calRecord }, holdUnexported := true
    table := [⟨.full, 1, some 1, 128, false, false⟩, ⟨.full, 2, some 129, 128, false, false⟩,
      ⟨.active, 3, some 257, used, false, false⟩] ++ List.replicate 5 ⟨.retired, 0, none, 0, false, false⟩ }

theorem test_hyp_ReleaseAccessEndsWithItsLastMark :
    (∀ s, s = releasing (filledStore .idle none) [0] [] up →
      s.store.queue = .release [0] :: [] ∧ s.store.op = .markReleased 0
      ∧ s.flash[0]? = some ⟨.marked (some 1) true false, List.replicate 128 .cleared⟩
      ∧ (∀ j, ¬ (j ∈ [0] ∧ j ≠ 0 ∧ (s.store.entry j).state = .full ∧ (s.store.entry j).released = false))
      ∧ after (exec (.headerMarkEnd true) s) (fun t => t.store.queue == [] && t.store.op == .idle) = true)
    ∧ (∀ s, s = releasing (exportStore 127) [0] threeReads up →
      s.store.queue = .release [0] :: threeReads ∧ s.link.starting = false ∧ s.store.rotation = .none ∧ ¬ s.store.spared
      ∧ s.store.oldestFullIs 0 ∧ s.store.holdsCurrent 0 .p ∧ s.store.active = some 2 ∧ (s.store.entry 2).used < 128
      ∧ after (exec (.headerMarkEnd true) s) (fun t => t.store.queue == threeReads && t.store.op == .programCopy .p
          && (t.store.entry 0).pending) = true)
    ∧ (∀ s, s = releasing { exportStore 127 with table := (exportStore 127).table.set 7 SectorEntry.blank } [0, 1] [] up →
      s.store.queue = .release ([0] ++ 1 :: []) :: [] ∧ (s.store.entry 1).state = .full ∧ (s.store.entry 1).released = false
      ∧ s.store.rotation = .none ∧ s.store.copies = [] ∧ s.store.spared ∧ s.store.failed = false
      ∧ after (exec (.headerMarkEnd true) s) (fun t => t.store.op == .markReleased 1 && t.store.queue == [.release [1]]) = true) := by
  refine ⟨?_, ?_, ?_⟩
  · rintro s rfl
    exact ⟨rfl, rfl, by decide +kernel, by rintro j ⟨h, h0, -⟩; simp at h; exact h0 h, by decide +kernel⟩
  · rintro s rfl
    refine ⟨rfl, rfl, rfl, ?_, ⟨_, rfl, rfl, ?_⟩, ⟨_, rfl, by decide +kernel⟩, by decide +kernel, by decide +kernel, by decide +kernel⟩
    · rintro (h | ⟨e, he, h⟩)
      · cases h
      · revert e; decide +kernel
    · rintro j y hj hy
      match j with
      | 0 => cases hj; exact .inr ⟨rfl, by decide⟩
      | 1 => cases hj; exact .inl (by decide)
      | 2 => cases hj; cases hy
      | j + 3 =>
        have h : y = ⟨.retired, 0, none, 0, false, false⟩ :=
          List.eq_of_mem_replicate (n := 5) (List.mem_of_getElem? (i := j) hj)
        subst h; cases hy
  · rintro s rfl
    exact ⟨rfl, rfl, rfl, rfl, rfl, .inr ⟨SectorEntry.blank, by decide +kernel, .inl rfl⟩, rfl, by decide +kernel⟩

/-- A release access that has ended frees its place while a copy is being programmed: a request is not answered BUSY (R100). -/
theorem test_endedReleaseFreesItsPlace :
    after (exec (.headerMarkEnd true) (releasing (exportStore 127) [0] threeReads up)) (fun t =>
      after (exec (.alibiRead 1 5 1) t) fun u => u.store.queue.length == 4 && u.store.op == .programCopy .p) = true := by
  decide +kernel

theorem test_hyp_ReadAccessReportsEachNumber :
    (∀ x, x = { filledStore .read none with queue := [.readHost 1 128 2] } → x.op = .read ∧ x.queue = [.readHost 1 128 2]
      ∧ (∀ e ∈ x.table, e.bears 129 = false)
      ∧ x.table.findIdx? (fun y => y.bears 128) = some 0 ∧ x.table[0]? = some ⟨.full, 1, some 1, 128, false, false⟩)
    ∧ (programming (.sale record) up).flash[0]? = some ⟨.marked (some 1) true false, List.replicate 128 .cleared⟩
    ∧ (List.replicate 128 UsedSlot.cleared)[128 - 1]? = some .cleared
    ∧ (∀ e ∈ Store.reset.table, e.inUse = true → 0 < e.used → 1 < e.first.getD 0) := by
  refine ⟨?_, by decide +kernel, by decide +kernel, by decide +kernel⟩
  rintro x rfl; decide +kernel

theorem test_hyp_EraseGoesByPulseAndVerify :
    (∀ s, s = { programming (.sale record) up with store := filledStore (.pulse true) (some ⟨0, 5, .pulse⟩) } →
      s.store.erase = some ⟨0, 5, .pulse⟩ ∧ 0 < s.flash.length ∧ 0 < s.store.table.length ∧ s.store.op = .pulse true
      ∧ s.store.queue = [] ∧ s.store.rotation = .none ∧ s.store.copies = [] ∧ s.link.starting = false)
    ∧ (∀ x, x = filledStore .verify (some ⟨0, 5, .verify⟩) → x.op = .verify ∧ x.erase = some ⟨0, 5, .verify⟩ ∧ 5 < 6 ∧ x.queue = [])
    ∧ (filledStore .verify (some ⟨0, 6, .verify⟩)).erase = some ⟨0, 6, .verify⟩
    ∧ ([⟨.full, 1, some 1, 128, false, false⟩, SectorEntry.blank] : List SectorEntry).countP (fun y => y.state != .retired) ≤ 2 := by
  refine ⟨?_, ?_, rfl, by decide⟩ <;> rintro s rfl <;> decide +kernel

/-! ### Bagging -/

/-- The scales with an open sale and a verifier that watches. -/
def bagging (l : List Expect) : State := watching l (sale .opened (scales 0))

theorem test_hyp_ExpectationsJoinAndAreWithdrawn : (bagging []).ready ∧ (bagging []).bag.state ≠ .inactive
    ∧ ((bagging []).txn.state = .opened ∧ 1 ≤ (1#32).toInt ∧ (6000#32).toInt ≤ ((bagging []).params .b).max ∧ (1#8).toNat ≤ 1
        ∧ (bagging []).bag.entries.length + (bagging []).bag.reserved < 16)
    ∧ ¬ (bagging (List.replicate 16 (item 1 100 false))).bag.entries.length < 16
    ∧ ((bagging [item 1 100 false, item 2 100 false]).bag.entries = [item 1 100 false] ++ item 2 100 false :: []
        ∧ (item 2 100 false).dir = .add ∧ (item 2 100 false).ref = (2#32).toNat ∧ (item 2 100 false).held = false
        ∧ ∀ y ∈ [item 1 100 false], ¬ (y.dir = .add ∧ y.ref = (2#32).toNat))
    ∧ ((0#32).toInt = 0 ∧ ∀ y ∈ (bagging []).bag.bagged, y.ref ≠ (2#32).toNat)
    ∧ (∃ before y after, [(⟨1, 50, 5⟩ : Bagged), ⟨2, 60, 5⟩] = before ++ y :: after ∧ y.ref = (2#32).toNat ∧ 60 = y.expected
        ∧ ∀ z ∈ before, z.ref ≠ (2#32).toNat) := by
  exact ⟨⟨rfl, rfl⟩, by decide, by decide +kernel, by decide, by decide, by decide, [⟨1, 50, 5⟩], ⟨2, 60, 5⟩, [], by decide⟩

/-- An exception held over some entries. -/
def holdingBag (k : ExceptionKind) (l : List Expect) : State :=
  { bagging l with bag := { (bagging l).bag with state := .hold, kind := k } }

theorem test_hyp_ClearAndSkipEndTheException :
    (∀ s, s = holdingBag .notPlaced [{ item 1 100 false with deadline := none, overdue := true, held := true }, item 2 50 false] →
      s.ready ∧ s.bag.state = .hold ∧ s.bag.kind ≠ .bagOverload ∧ s.bag.kind ≠ .scaleFault ∧ s.chB.isStable = true
      ∧ (s.report .b).condition = .valid ∧ (∀ e ∈ s.bag.entries, e.overdue = true → e.held = true) ∧ s.bag.kind = .notPlaced)
    ∧ (∀ s, s = holdingBag .unexpectedAdd [item 2 50 false] → s.bag.state = .hold ∧ s.bag.kind ≠ .notPlaced
      ∧ ∀ e ∈ s.bag.entries, e.overdue = false)
    ∧ ((holdingBag .scaleFault []).bag.state = .hold ∧ (holdingBag .scaleFault []).bag.kind = .scaleFault)
    ∧ ((bagging [item 2 100 false]).txn.state = .opened ∧ (bagging [item 2 100 false]).bag.state ≠ .inactive
      ∧ (bagging [item 2 100 false]).bag.entries = [] ++ item 2 100 false :: [] ∧ (item 2 100 false).ref = (2#32).toNat
      ∧ (item 2 100 false).held = false ∧ (item 2 100 false).dir = .add)
    ∧ (∀ e : Expect, e = { item 2 100 false with dir := .remove, deadline := none } → e.dir = .remove
      ∧ ∀ y ∈ (bagging [e]).bag.entries, ¬ (y.dir = .add ∧ y.ref = (2#32).toNat)) := by
  refine ⟨?_, ?_, ⟨rfl, rfl⟩, by decide, ?_⟩ <;> rintro s rfl
  · exact ⟨⟨rfl, rfl⟩, by decide +kernel⟩
  · decide
  · decide

theorem test_hyp_DeadlineDropsOrHoldsItsEntry :
    ((bagging [item 1 5 false, item 2 100 true]).bag.entries = [item 1 5 false] ++ item 2 100 true :: []
      ∧ (item 2 100 true).dir = .add ∧ (item 2 100 true).deadline = some 15000 ∧ (item 2 100 true).skippable = true
      ∧ (bagging []).bag.state ≠ .inactive)
    ∧ ((item 2 100 false).skippable = false ∧ (holdingBag .unexpectedAdd [item 2 100 false]).bag.state = .hold
      ∧ (bagging [item 2 100 false]).bag.state = .watching)
    ∧ ({ (bagging [item 2 100 true]).bag with state := .inactive } : Bag).state = .inactive := by decide

/-- The report of the reading that a conversion forms on channel B. -/
def formedB (raw : BitVec 24) (s : State) : Report := (s.convert .b raw.toInt).report .b

/-- The bagging scale settles at `a` counts. -/
def settling (a : Int) (l : List Expect) : State := { bagging l with chB := steady a }

theorem test_hyp_SettleIsMatchedOrHeld :
    (∀ s, s = settling 100 [item 1 106 false, item 2 105 false] →
      s.bag.state = .watching ∧ s.chB.state ≠ .fault ∧ (s.convert .b 100).chB.samples.length = (s.params .b).n
      ∧ (formedB 100 s).condition = .valid ∧ (formedB 100 s).stable = true
      ∧ s.bag.band * 5 < ((formedB 100 s).gross - s.bag.baseline).natAbs
      ∧ s.bag.entries = [item 1 106 false] ++ item 2 105 false :: []
      ∧ (105 : Int) - 5 ≤ (formedB 100 s).gross ∧ ¬ ((106 : Int) - 5 ≤ (formedB 100 s).gross) ∧ s.bag.acceptChirp = true)
    ∧ (∀ s, s = settling 10 [] → ¬ s.bag.band * 5 < ((formedB 10 s).gross - s.bag.baseline).natAbs
      ∧ (formedB 10 s).condition ≠ .over)
    ∧ (∀ s, s = settling 6050 [] → (formedB 6050 s).condition = .over)
    ∧ (∀ s, s = { settling 0 [] with bag := { (settling 0 []).bag with baseline := 15 } } →
      (formedB 0 s).condition = .valid ∧ (formedB 0 s).stable = true ∧ (formedB 0 s).gross - s.bag.baseline = -15
      ∧ s.bag.band * 5 < ((formedB 0 s).gross - s.bag.baseline).natAbs)
    ∧ (∀ s, s = { settling 15 [] with bag := { (settling 15 []).bag with pairMatch := false } } →
      s.bag.pairMatch = false ∧ s.bag.band * 5 < ((formedB 15 s).gross - s.bag.baseline).natAbs ∧ (formedB 15 s).stable = true
      ∧ 0 < (formedB 15 s).gross - s.bag.baseline)
    ∧ (∀ s, s = settling 100 [item 1 55 false, item 2 55 false] → s.bag.pairMatch = true
      ∧ (55 : Int) + 55 - (5 + 5) ≤ (formedB 100 s).gross - s.bag.baseline
      ∧ ∀ y ∈ s.bag.entries, ¬ (y.expected - y.tolerance ≤ (formedB 100 s).gross ∧ (formedB 100 s).gross ≤ y.expected + y.tolerance)) := by
  refine ⟨?_, ?_, ?_, ?_, ?_, ?_⟩ <;> rintro s rfl <;> decide +kernel

/-! ### The card reader -/

/-- A card slot in a seat, with its switches. -/
def slot (x : Seat) (f r : Bool) : Card := { Card.reset with seat := x, frontClosed := f, rearClosed := r }

/-- A stream with `n` entries, being timed. -/
def capture (n : Nat) : Machine.Stream := { entries := List.replicate n (some 100), overflow := false, phase := .timing }

theorem test_hyp_CardSlotMovesAndCaptures :
    ((slot .empty false false).seat = .empty ∧ (slot .empty false false).frontClosed = false ∧ (slot .empty false false).rearClosed = false)
    ∧ ((slot .entering true false).seat = .entering ∧ (slot .entering true false).frontClosed = true
      ∧ (slot .entering true false).rearClosed = false)
    ∧ ((slot .seated true true).seat = .seated ∧ (slot .seated true true).rearClosed = true ∧ (slot .seated true true).frontClosed = true)
    ∧ ((slot .withdrawing true false).seat = .withdrawing ∧ (slot .withdrawing true false).rearClosed = false
      ∧ (slot .withdrawing true false).frontClosed = true)
    ∧ (({ slot .entering true false with pass := some .insertion, streams := { Streams.none with insertA := some (capture 2048) } }
        : Card).capturing .a = some (capture 2048))
    ∧ (({ slot .entering true false with pass := some .insertion, streams := { Streams.none with insertA := some (capture 2047) } }
        : Card).capturing .a = some (capture 2047)) := by decide +kernel

/-- A read that is held. -/
def heldRead : CardRead := { number := 255, txn := 0, trackA := none, trackB := none, replaced := false, overflow := false }

theorem test_hyp_CardReadIsHeldFetchedOrExpires : up.ready
    ∧ ({ Card.reset with decoder := some { Streams.none with insertA := some (capture 3) }, counter := 255 } : Card).decoder
        = some { Streams.none with insertA := some (capture 3) }
    ∧ ({ Card.reset with holdTimer := some 30000, held := some heldRead } : Card).holdTimer = some 30000
    ∧ ({ Card.reset with leftTimer := some 60000 } : Card).leftTimer = some 60000
    ∧ up.card.held = none ∧ (2#8).toNat ≤ 2
    ∧ (({ Card.reset with armedA := true, armedB := true } : Card).armedA = ((2#8).toNat != 1)
      ∧ ({ Card.reset with armedA := true, armedB := true } : Card).armedB = ((2#8).toNat != 0))
    ∧ ¬ (Card.reset.armedA = ((2#8).toNat != 1))
    ∧ ({ Streams.none with insertA := some (capture 0) } : Streams) ≠ ⟨none, none, none, none⟩
    ∧ Card.reset.streams = ⟨none, none, none, none⟩ := by
  exact ⟨⟨rfl, rfl⟩, rfl, rfl, rfl, rfl, by decide, by decide, by decide, by decide, rfl⟩

/-! ### Drawers -/

/-- Port 1 fitted and in a state; port 2 fitted and in another. -/
def ports (a b : DrawerState) (s : State) : State :=
  { s with drw1 := { Drawer.reset true with state := a }, drw2 := { Drawer.reset true with state := b } }

/-- A printer that holds the supply with a strobe phase of load `n`. -/
def strobing (n : Nat) (first : Bool) (s : State) : State :=
  { s with supply := { Supply.reset with kickFirst := first, phase := some ⟨[0], n, 300, false⟩ } }

theorem test_hyp_DrawerOpenKicksOrWaits : up.ready ∧ Port.one ≠ .two ∧ (1#8).toNat ≤ 1
    ∧ (Drawer.reset false).fitted = false
    ∧ ((ports .opened .closed up).drw1.fitted = true ∧ (ports .opened .closed up).drw1.state ≠ .closed
      ∧ (ports .opened .closed up).drw1.state ≠ .noOpen)
    ∧ ((sale .tender up).txn.state ≠ .idle ∧ (fired .closed .none []).txn.tenderCash = true)
    ∧ (∀ s, s = strobing 128 false (ports .noOpen .closed up) → s.drw1.fitted = true ∧ s.drw1.state = .noOpen
      ∧ s.txn.state = .idle ∧ (s.drw .two).state ≠ .waitSupply ∧ (s.drw .two).state ≠ .kick
      ∧ min s.drw1.kickLoad s.supply.budget + s.granted ≤ s.supply.budget)
    ∧ (ports .closed .kick up).drw2.state = .kick
    ∧ (∀ s, s = strobing 129 false (ports .closed .closed up) →
      s.supply.budget < min s.drw1.kickLoad s.supply.budget + s.granted ∧ s.supply.kickFirst = false)
    ∧ (∀ s, s = strobing 129 true (ports .closed .closed up) →
      s.supply.budget < min s.drw1.kickLoad s.supply.budget + s.granted ∧ s.supply.kickFirst = true
      ∧ s.supply.phase = some ⟨[0], 129, 300, false⟩
      ∧ min s.drw1.kickLoad s.supply.budget + s.drw1.grant + s.drw2.grant ≤ s.supply.budget) := by
  refine ⟨⟨rfl, rfl⟩, by decide, by decide, rfl, by decide, by decide, ?_, rfl, ?_, ?_⟩ <;> rintro s rfl <;> decide +kernel

theorem test_hyp_DrawerFollowsItsSensorAndTimers :
    (∀ s, s = ports .kick .closed up → (s.drw .one).fitted = true ∧ (s.drw .one).fittedSet = true
      ∧ (s.drw .two).state ≠ .waitSupply ∧ s.prn.engine ≠ .waitSupply ∧ s.txn.state ≠ .closing ∧ (s.drw .one).state = .kick)
    ∧ ({ Drawer.reset true with state := .kick, kickTimer := some 80, sensorOpen := true } : Drawer).sensorOpen = true
    ∧ ({ Drawer.reset true with state := .hold, holdTimer := some 400 } : Drawer).holdTimer = some 400
    ∧ ({ Drawer.reset true with state := .opened, overdueTimer := some 120000 } : Drawer).overdueTimer = some 120000
    ∧ ((Drawer.reset true).levelHigh ≠ true ∧ (Drawer.reset true).sensorOpen = false ∧ (true != (Drawer.reset true).polarity) = true
      ∧ (Drawer.reset true).state = .closed)
    ∧ (∀ d : Drawer, d = { Drawer.reset true with state := .overdue, levelHigh := true, sensorOpen := true } →
      d.levelHigh ≠ false ∧ d.sensorOpen = true ∧ (false != d.polarity) = false ∧ d.state = .overdue)
    ∧ ((ports .overdue .closed up).drw2.forced = false ∧ (ports .overdue .closed up).drw2.state ≠ .overdue) := by
  refine ⟨?_, rfl, rfl, rfl, by decide, ?_, by decide⟩ <;> rintro s rfl <;> decide

/-! ### The printer -/

/-- A line of which block 0 is being heated, with block loads 0 to 4. -/
def heating (loads : List Nat) (w : Work) : State :=
  { strobing 100 false up with
    prn := { Printer.reset with
      engine := .printing, work := some w, queue := [⟨.feed 1, 0⟩]
      line := some { loads := loads, printed := loads.map (· == 0), advancing := false, temp := 25 } } }

/-- A line whose paper is advancing. -/
def advancing (w : Work) : State :=
  { up with prn := { Printer.reset with
      engine := .printing, work := some w, queue := [⟨.feed 1, 0⟩]
      line := some { loads := [], printed := [], advancing := true, temp := 25 } } }

theorem test_hyp_LinesPrintByPhasesWithinTheBudget :
    (∀ s, s = heating [100, 0, 0, 0, 0] (.raster 1 []) →
      s.prn.line.isSome = true ∧ s.prn.work = some (.raster 1 []) ∧ s.prn.reasons.any = false ∧ s.supply.phase = some ⟨[0], 100, 300, false⟩
      ∧ s.supply.owed = none ∧ (∀ p, (s.drw p).state ≠ .waitSupply) ∧ 180 ≤ s.prn.supplyInput.headD s.prn.headSupply
      ∧ after (exec .strobePhaseEnd s) (fun t => t.supply.phase == none) = true)
    ∧ (∀ s, s = heating [100, 384, 1, 0, 0] (.raster 1 []) →
      after (exec .strobePhaseEnd s) (fun t => t.supply.phase.map (·.blocks) == some [1]) = true)
    ∧ (∀ s, s = heating [100, 385, 1, 0, 0] (.raster 1 []) →
      after (exec .strobePhaseEnd s) (fun t => t.supply.phase == none && t.prn.engine == .waitSupply) = true)
    ∧ (∀ s, s = advancing (.feed 1) → s.prn.cutter = none ∧ s.prn.ending = false ∧ (Work.feed 1).afterLine = none
      ∧ s.prn.queue = [⟨.feed 1, 0⟩] ∧ s.prn.reasons.any = false)
    ∧ (∀ j : TextJob, j = { number := 3, lines := [[]], row := 23, damaged := true } → (Work.text j).afterLine = none)
    ∧ ((advancing (.raster 2 [])).prn.work = some (.raster 2 []) ∧ 1 < 2)
    ∧ ((advancing (.feed 2)).prn.work = some (.feed 2)) := by
  refine ⟨?_, ?_, ?_, ?_, ?_, by decide +kernel, rfl⟩ <;> rintro s rfl
  · exact ⟨rfl, rfl, rfl, rfl, rfl, fun p => by cases p <;> decide, by decide, by decide +kernel⟩
  all_goals decide +kernel

/-- A slip of one feed line. -/
def slip : List Byte := [1, 0, 0, 0, 0, 3, 1, 0, 6]

/-- The printer stands suspended with some reasons. -/
def suspended (r : Reasons) (paper : Bool) : State :=
  { up with prn := { Printer.reset with engine := .suspended, reasons := r, paperPresent := paper } }

theorem test_hyp_PrintRequestsQueueCancelAndResume : up.ready ∧ parseRecords [] = none
    ∧ (∃ rs tr, parseRecords slip = some rs ∧ rs.all (·.2) = true
        ∧ Trial.run up.txn (rs.map (·.1)) { opened := none, receipt := .none, records := [] } = .ok tr
        ∧ (254 + tr.records.length ≤ 256 ∨ 256 < 254 + tr.records.length))
    ∧ ((suspended Reasons.none true).prn.engine ≠ .idle ∧ (suspended Reasons.none true).txn.state ≠ .closing)
    ∧ (∃ rs, parseRecords [6] = some rs ∧ rs.all (·.2) = true
        ∧ (match Trial.run up.txn (rs.map (·.1)) { opened := none, receipt := .none, records := [] } with
            | .error e => e = .wrongState | .ok _ => False))
    ∧ up.prn.work = none
    ∧ (Reasons.none.paperOut = false ∧ Reasons.none.coverOpen = false ∧ Reasons.none.cutterJam = false)
    ∧ ((suspended { Reasons.none with paperOut := true } false).prn.reasons.paperOut = true
        ∧ (suspended { Reasons.none with paperOut := true } false).prn.paperPresent = false)
    ∧ ((suspended { Reasons.none with paperOut := true } true).prn.paperPresent = true
        ∧ (suspended { Reasons.none with paperOut := true } true).prn.queue = []
        ∧ (suspended { Reasons.none with paperOut := true } true).prn.restart = .none)
    ∧ ({ Reasons.none with paperOut := true, headHot := true } : Reasons).any = true := by
  exact ⟨⟨rfl, rfl⟩, by decide, ⟨_, _, rfl, by decide, rfl, by decide⟩, by decide, ⟨_, rfl, by decide, rfl⟩, rfl, by decide, by decide,
    by decide, by decide⟩

/-- A CUT in progress. -/
def cutting (driving home : Bool) : State :=
  { up with prn := { Printer.reset with
      engine := .cutting, work := some (.cut true), queue := [⟨.cut true, 0⟩], cutter := some ⟨true, driving⟩, jamTimer := some 500
      cutterHome := home } }

theorem test_hyp_CutterAndSensorsDriveTheEngine :
    (∀ s, s = cutting true false → s.prn.cutter = some ⟨true, true⟩ ∧ s.prn.jamTimer = some 500 ∧ s.prn.work = some (.cut true)
      ∧ s.prn.cutterHome = false ∧ s.prn.queue = [⟨.cut true, 0⟩] ∧ s.prn.reasons.any = false)
    ∧ (cutting true true).prn.cutterHome = true
    ∧ (cutting false false).prn.cutter = some ⟨true, false⟩ ∧ (∀ kind, up.prn.cutter ≠ some ⟨kind, false⟩)
    ∧ (up.prn.coverOpen = false ∧ up.prn.reasons.coverOpen = false ∧ up.prn.engine ≠ .suspended
      ∧ ∀ p, (up.drw p).state ≠ .waitSupply)
    ∧ (up.prn.paperPresent = true ∧ up.prn.cutter = none ∧ up.prn.line = none)
    ∧ (∀ s, s = suspended { Reasons.none with lowSupply := true } true → s.prn.restart = .none ∧ s.prn.work = none ∧ s.prn.queue = []
      ∧ after (exec (.headMonitorSample ⟨190, []⟩ ⟨25, []⟩) s) (fun t => t.prn.engine == .idle) = true
      ∧ after (exec (.headMonitorSample ⟨189, []⟩ ⟨25, []⟩) s) (fun t => t.prn.engine == .suspended) = true)
    ∧ (after (exec (.headMonitorSample ⟨180, []⟩ ⟨64, []⟩) up) (fun t => t.prn.engine == .idle) = true)
    ∧ up.supply.phase = none := by
  refine ⟨?_, rfl, rfl, by decide, ⟨rfl, rfl, by decide, fun p => by cases p <;> decide⟩, by decide, ?_, by decide +kernel, rfl⟩
    <;> rintro s rfl <;> decide +kernel

/-! ### The clauses that were widened -/

/-- The flash array of a store in use: sector 0 FULL with a SALE record, number 1, and a CAL record, number 2; sector 1 ACTIVE with a
SALE record, number 3; sector 2 with a header that reads DAMAGED; the others blank. -/
def usedFlash : List FlashSector :=
  [⟨.marked (some 1) true true, [.record 1 (.sale record), .record 2 (.cal calRecord)]⟩,
    ⟨.marked (some 2) false false, [.record 3 (.sale { record with txn := 9 })]⟩, ⟨.damaged, []⟩] ++ List.replicate 5 ⟨.blank, []⟩

/-- The start-up period over that array. -/
def recovering : State := { State.reset with flash := usedFlash }

/-- The scan finds sector 2 worn out. -/
def wornScan : Scan := { sectors := (List.replicate 8 (SectorScan.mk none [] true true)).set 2 ⟨none, [], true, false⟩, marks := [] }

/-- The next state that a command answers, or a state in its place. -/
def resultOf (s : State) (o : Host.Outcome State Fault Refusal) : State :=
  match o with
  | .next t => t
  | .fault _ | .refused _ => s

theorem resultOf_next (s : State) (o : Host.Outcome State Fault Refusal) (h : after o (fun _ => true) = true) :
    o = .next (resultOf s o) := by
  cases o with
  | next t => rfl
  | fault x => cases h
  | refused x => cases h

/-- The part after that recovery. -/
def recovered : State := resultOf recovering (exec (.recoveryScanEnd wornScan) recovering)

theorem test_recovered_table : recovered.store.table =
    [⟨.full, 1, some 1, 2, true, false⟩, ⟨.active, 2, some 3, 1, false, false⟩, { SectorEntry.blank with state := .retired }]
      ++ List.replicate 5 SectorEntry.blank := by decide +kernel

theorem test_recovered_cal (n : Nat) (k : CalFields) (h : recovering.scanned recovered wornScan n (.cal k)) : n = 2 ∧ k = calRecord := by
  obtain ⟨i, j, e, f, x, h1, h2, h3, h4, h5, -⟩ := h
  rw [test_recovered_table] at h1
  match i with
  | 0 => match j with
    | 0 => simp [recovering, usedFlash] at h3; subst h3; simp at h4
    | 1 => simp [recovering, usedFlash] at h3; subst h3; simp at h4; exact ⟨h4.1.symm, h4.2.symm⟩
    | j + 2 => simp [recovering, usedFlash] at h3; subst h3; simp at h4
  | 1 => match j with
    | 0 => simp [recovering, usedFlash] at h3; subst h3; simp at h4
    | j + 1 => simp [recovering, usedFlash] at h3; subst h3; simp at h4
  | 2 => simp [recovering, usedFlash] at h3; subst h3; simp at h4
  | i + 3 =>
    have h3' : (List.replicate 5 (⟨.blank, []⟩ : FlashSector))[i]? = some x := h3
    rw [List.getElem?_replicate] at h3'
    split at h3'
    · cases h3'; simp at h4
    · cases h3'

theorem test_hyp_RecoveryEndsTheStartUpPeriod :
    (recovering.link.starting = true ∧ recovering.store.quiet) ∧ exec (.recoveryScanEnd wornScan) recovering = .next recovered
    ∧ recovering.scanned recovered wornScan 3 (.sale { record with txn := 9 }) ∧ recovered.txn.number = 9
    ∧ recovering.chosen recovered wornScan 2 calRecord ∧ (recovering.ch calRecord.channel).state ≠ .fault
    ∧ (∀ n k, recovering.scanned recovered wornScan n (.cal k) → k.channel = .b → ¬ k.sound)
    ∧ (scanHeader wornScan 0 (usedFlash.getD 0 ⟨.blank, []⟩) = .marked (some 1) true true ∧ 0 < 2 ∧ 1 < 2
        ∧ scanHealth wornScan 0 1 ≠ .uncorrectable)
    ∧ (scanHeader wornScan 2 ⟨.damaged, []⟩ = .damaged ∧ (wornScan.sectors.map (·.eraseOk))[2]? = some false)
    ∧ (scanHeader wornScan 3 ⟨.blank, []⟩ = .blank ∧ (wornScan.sectors.map (·.blankOk))[3]? = some true)
    ∧ (usedFlash.length = 8 ∧ wornScan.sectors.length = 8 ∧ recovered.store.failed = false ∧ recovered.store.op = .idle
        ∧ recovered.store.next = 4)
    ∧ after (exec (.recoveryScanEnd { blankScan with marks := [false] }) State.reset) (fun t => t.store.failed) = true
    ∧ up.link.starting = false := by
  refine ⟨⟨rfl, rfl, rfl, rfl, rfl, rfl, rfl, rfl⟩, resultOf_next _ _ (by decide +kernel),
    ⟨1, 0, _, 3, _, by rw [test_recovered_table]; rfl, rfl, rfl, rfl, rfl, by decide +kernel⟩, by decide +kernel,
    ⟨⟨0, 1, _, 1, _, by rw [test_recovered_table]; rfl, rfl, rfl, rfl, rfl, by decide +kernel⟩, by unfold CalFields.sound; decide, fun n k h _ _ => .inr
      (test_recovered_cal n k h)⟩, by decide, fun n k h hc => ?_, by decide +kernel, by decide +kernel, by decide +kernel,
    by decide +kernel, by decide +kernel, rfl⟩
  have := (test_recovered_cal n k h).2
  subst this; cases hc

theorem test_hyp_WeightGetInTheStartUpPeriod : State.reset.link.mayTake = true ∧ State.reset.link.starting = true := by decide

theorem test_hyp_SwitchClosesWhileASessionCommits :
    ∀ s : State, s = { calibrating with cal := { calibrating.cal with
        switchClosed := false, session := some { session with committing := true, endMark := true, cause := .switch } } } →
      s.cal.switchClosed = false ∧ s.cal.session = some { session with committing := true, endMark := true, cause := .switch } := by
  rintro s rfl; exact ⟨rfl, rfl⟩

theorem test_hyp_SettingsOfADrawerAndTheStore :
    (∀ s, s = ports .closed .closed up → s.ready ∧ (s.drw .one).fitted = true ∧ (s.drw .one).fittedSet = true
      ∧ ((s.drw .one).levelHigh != decide (1 ≤ (1#32).toNat)) = true ∧ (s.drw .one).sensorOpen = false ∧ (s.drw .one).state = .closed
      ∧ s.txn.state ≠ .closing ∧ ((s.drw .one).levelHigh != decide (1 ≤ (0#32).toNat)) = (s.drw .one).sensorOpen
      ∧ decide (1 ≤ (0#32).toNat) = false)
    ∧ (up.drw2.fitted = false ∧ up.drw2.state = .closed ∧ decide (1 ≤ (1#32).toNat) = true)
    ∧ ((ports .kick .closed up).drw .one).state = .kick
    ∧ (∀ x : Store, x = { filledStore .read none with
          table := [⟨.full, 4, some 129, 128, false, false⟩, ⟨.full, 1, some 1, 128, false, false⟩,
            ⟨.active, 5, some 257, 9, false, false⟩]
          currentP := some { number := 128, fields := calRecord } } →
      x.op ≠ .idle ∧ ¬ x.spared ∧ x.oldestFullIs 1 ∧ ((1#32).toNat ≠ 0 ∧ (x.entry 1).released = false)
        ∧ ¬ ((0#32).toNat ≠ 0 ∧ (x.entry 1).released = false) ∧ x.holdsCurrent 1 .p ∧ ¬ x.holdsCurrent 1 .b)
    ∧ (filledStore .read none).spared := by
  refine ⟨?_, by decide, rfl, ?_, .inr ⟨SectorEntry.blank, by decide, .inl rfl⟩⟩
  · rintro s rfl; exact ⟨⟨rfl, rfl⟩, by decide +kernel⟩
  · rintro x rfl
    refine ⟨by decide, fun h => ?_, ⟨_, rfl, rfl, fun j y hj hy => ?_⟩, by decide, by decide, ⟨_, rfl, by decide +kernel⟩, ?_⟩
    · rcases h with h | ⟨e, he, h⟩
      · cases h
      · simp at he; rcases he with rfl | rfl | rfl <;> simp at h
    · match j with
      | 0 => cases hj; exact .inl (by decide)
      | 1 => cases hj; exact .inr ⟨rfl, by decide⟩
      | 2 => cases hj; cases hy
      | j + 3 => cases hj
    · rintro ⟨k, h, -⟩; cases h

/-- A CARRIED copy of channel P being programmed in sector 1, of which `used` slots are used, for the erase of sector 0. -/
def copying (used : Nat) (copies : List Ch) : State :=
  { programming (.sale record) up with
    store := { filledStore (.programCopy .p) (some ⟨0, 0, .pulse⟩) with
      copies := copies, currentP := some { number := 5, fields := calRecord }
      table := [⟨.full, 1, some 1, 128, false, true⟩, ⟨.active, 2, some 129, used, false, false⟩] } }

theorem test_hyp_CopiesAreCarriedOutOfASector :
    (∀ s, s = copying 126 [.p] → s.store.active = some 1 ∧ s.flash[1]? = some ⟨.marked (some 2) false false, []⟩
      ∧ s.store.op = .programCopy .p ∧ s.store.current .p = some { number := 5, fields := calRecord } ∧ s.store.copies = .p :: []
      ∧ s.store.erase = some ⟨0, 0, .pulse⟩ ∧ s.store.rotation = .none ∧ s.store.failed = false ∧ s.link.starting = false
      ∧ s.store.next < 4294967295 ∧ s.store.queue = [] ∧ (s.store.entry 1).used < 127 ∧ s.store.failures < 2)
    ∧ (copying 127 [.p, .b]).store.copies = .p :: [.b] ∧ (copying 126 [.p]).store.holdsCurrent 0 .p
    ∧ ((copying 127 [.p]).store.holdsCurrent 0 .p ∧ ((copying 127 [.p]).store.entry 1).used = 127
      ∧ ∀ y ∈ (copying 127 [.p]).store.table, y.state ≠ .erased)
    ∧ ({ (copying 126 [.p]).store with next := 4294967295 } : Store).next = 4294967295
    ∧ after (exec (.recordProgramEnd true) { copying 126 [.p] with store := { (copying 126 [.p]).store with next := 4294967295 } })
        (fun t => t.store.failed && t.store.erase.isSome && t.store.next == 4294967296) = true
    ∧ (∀ x, x = { filledStore .programHead none with
          table := (filledStore .programHead none).table.set 1 ⟨.active, 2, some 1, 127, false, false⟩ } →
        x.active = some 1 ∧ (x.entry 1).used = 127 ∧ ∃ e ∈ x.table, e.state = .erased) := by
  refine ⟨?_, rfl, ⟨_, rfl, by decide +kernel⟩, ⟨⟨_, rfl, by decide +kernel⟩, rfl, by decide +kernel⟩, rfl, by decide +kernel, ?_⟩
  · rintro s rfl; decide +kernel
  · rintro x rfl; exact ⟨by decide +kernel, by decide +kernel, SectorEntry.blank, by decide, rfl⟩

theorem test_hyp_FullAndInUseMarksFail :
    (∀ x, x = { filledStore (.markFull 1 false) none with rotation := .owesFull 1, failures := 1 } → x.op = .markFull 1 false
      ∧ x.failed = false ∧ x.failures < 2 ∧ x.erase = none ∧ x.firstErasedAfter 1 2)
    ∧ (∀ x, x = { filledStore (.markInUse 2 3) none with rotation := .owesInUse 1 false, failures := 2 } → x.op = .markInUse 2 3
      ∧ x.failed = false ∧ 2 ≤ x.failures)
    ∧ (filledStore (.markFull 7 false) none).firstErasedAfter 7 2 := by
  refine ⟨?_, ?_, 2, by decide, by decide, rfl, fun m hm => ?_⟩
  · rintro x rfl
    exact ⟨rfl, rfl, by decide, rfl, 0, by decide, by decide, rfl, fun m hm => absurd hm (by omega)⟩
  · rintro x rfl; exact ⟨rfl, rfl, by decide⟩
  · match m with
    | 0 => decide
    | 1 => decide
    | m + 2 => omega

theorem test_hyp_NumbersAboveAndBetween :
    (∀ x, x = filledStore .read none → (∀ e ∈ x.table, e.bears 129 = false)
      ∧ ∀ e ∈ x.table, e.inUse = true → 0 < e.used → e.first.getD 0 + e.used - 1 < 129)
    ∧ (∀ l : List SectorEntry, l = [⟨.full, 1, some 1, 10, false, false⟩, ⟨.active, 3, some 12, 4, false, false⟩] →
      (∀ y ∈ l, y.bears 11 = false) ∧ ∃ e ∈ l, ∃ e' ∈ l, e.inUse = true ∧ e'.inUse = true ∧ 0 < e.used ∧ 0 < e'.used
        ∧ e.first.getD 0 + e.used - 1 < 11 ∧ 11 < e'.first.getD 0) := by
  refine ⟨?_, ?_⟩ <;> rintro s rfl
  · decide +kernel
  · exact ⟨by decide, ⟨.full, 1, some 1, 10, false, false⟩, by decide, ⟨.active, 3, some 12, 4, false, false⟩, by decide, by decide⟩

theorem test_hyp_RetirementLeavesTwoSectors :
    ∀ x, x = { filledStore .verify (some ⟨2, 6, .verify⟩) with
        table := [⟨.full, 1, some 1, 128, false, false⟩, ⟨.active, 2, none, 0, false, false⟩,
          { SectorEntry.blank with state := .erasing }] ++ List.replicate 5 { SectorEntry.blank with state := .retired } } →
      (x.entry 2).state ≠ .retired ∧ x.table.countP (fun y => y.state != .retired) = 3
      ∧ after (exec (.blankVerifyEnd false) { programming (.sale record) up with store := x })
          (fun t => t.store.failed && t.store.condition == .failed) = true := by
  rintro x rfl; decide +kernel

/-- An ADD entry that is held. -/
def heldItem (ref : Nat) : Expect := { item ref 100 false with deadline := none, overdue := true, held := true }

theorem test_hyp_HeldEntryLeavesTheQueue :
    (∀ s, s = holdingBag .notPlaced [heldItem 2, { heldItem 3 with held := false }] → s.ready ∧ s.bag.state ≠ .inactive
      ∧ s.txn.state = .opened ∧ s.bag.entries = [] ++ heldItem 2 :: [{ heldItem 3 with held := false }] ∧ (heldItem 2).dir = .add
      ∧ (heldItem 2).ref = (2#32).toNat ∧ (heldItem 2).held = true
      ∧ after (exec (.bagSkip 1 2) s) (fun t => t.bag.state == .hold && t.bag.ref == some 3 && t.bag.entries == [heldItem 3]) = true
      ∧ after (exec (.expectRemove 1 2 0 0) s) (fun t => t.bag.ref == some 3) = true
      ∧ after (exec (.bagClear 1) s) (fun t => t.bag.ref == some 3 && t.txn.bagSkip == 1) = true) := by
  rintro s rfl; exact ⟨⟨rfl, rfl⟩, by decide +kernel⟩

/-- The bagging scale settles at `a` counts while an exception is held. -/
def settlingHold (a : Int) (k : ExceptionKind) (l : List Expect) : State := { holdingBag k l with chB := steady a }

theorem test_hyp_SettleMatchesAPairOrIsUnmatched :
    (∀ s, s = settling 100 [item 1 300 false, item 2 50 false, item 3 52 false] →
      s.bag.matched 100 [item 2 50 false, item 3 52 false] [item 1 300 false])
    ∧ (∀ s, s = settling 100 [item 1 300 false, item 2 50 false] → s.bag.unmatched 100)
    ∧ (∀ s, s = { settling 100 [item 1 50 false, item 2 52 false] with
          bag := { (settling 100 [item 1 50 false, item 2 52 false]).bag with pairMatch := false } } → s.bag.unmatched 100)
    ∧ (settling 100 [item 1 106 false, item 2 105 false]).bag.matched 100 [item 2 105 false] [item 1 106 false]
    ∧ after (exec (.conversionComplete .b 100) (settling 100 [item 1 300 false, item 2 300 false, item 3 300 false, item 4 50 false,
        item 5 50 false])) (fun t => t.bag.kind == .unexpectedAdd) = true := by
  refine ⟨?_, ?_, ?_, .inl ⟨[item 1 106 false], item 2 105 false, [], rfl, ⟨rfl, by decide, by decide⟩, ?_, rfl, rfl⟩,
    by decide +kernel⟩
  · rintro s rfl
    refine .inr ⟨?_, rfl, 1, 2, _, _, ⟨by decide, _, _, rfl, rfl, rfl, rfl, by decide, by decide, by decide⟩, ?_, rfl, rfl, rfl, rfl⟩
    · intro y hy h
      obtain ⟨-, h1, h2⟩ := h
      simp [settling, bagging, watching] at hy
      rcases hy with rfl | rfl | rfl <;> revert h1 h2 <;> decide
    · rintro i j ⟨hij, x, y, hx, hy, -, -, -, h1, h2⟩
      match i, j with
      | 0, 1 => cases hx; cases hy; revert h2 h1; decide
      | 0, 2 => cases hx; cases hy; revert h2 h1; decide
      | 0, 0 => omega
      | 0, j + 3 => cases hy
      | 1, j => omega
      | i + 2, j => omega
  · rintro s rfl
    refine ⟨?_, fun _ i j => ?_⟩
    · intro y hy h
      obtain ⟨-, h1, h2⟩ := h
      simp [settling, bagging, watching] at hy
      rcases hy with rfl | rfl <;> revert h1 h2 <;> decide
    · rintro ⟨hij, x, y, hx, hy, -, -, -, h1, h2⟩
      match i, j with
      | 0, 1 => cases hx; cases hy; revert h2 h1; decide
      | 0, 0 => omega
      | 0, j + 2 => cases hy
      | 1, 0 => omega
      | 1, 1 => omega
      | 1, j + 2 => cases hy
      | i + 2, j => cases hx
  · rintro s rfl
    refine ⟨?_, fun h => by cases h⟩
    intro y hy h
    obtain ⟨-, h1, h2⟩ := h
    simp [settling, bagging, watching] at hy
    rcases hy with rfl | rfl <;> revert h1 h2 <;> decide
  · intro y hy h
    obtain ⟨-, h1, h2⟩ := h
    simp at hy; subst hy; revert h1 h2; decide

theorem test_hyp_SettleInHold :
    (∀ s, s = settlingHold 100 .bagOverload [heldItem 1] → s.chB.state ≠ .fault ∧ s.bag.state = .hold ∧ s.bag.kind = .bagOverload
      ∧ (s.convert .b 100).chB.samples.length = (s.params .b).n ∧ (formedB 100 s).condition ≠ .over ∧ (heldItem 1).waits)
    ∧ (settlingHold 100 .bagOverload []).bag.entries = [] ∧ (formedB 6050 (settlingHold 6050 .bagOverload [])).condition = .over
    ∧ (∀ s, s = settlingHold 10 .unexpectedAdd [] → (formedB 10 s).condition = .valid ∧ (formedB 10 s).stable = true
      ∧ ((formedB 10 s).gross - s.bag.baseline).natAbs = 10 ∧ s.bag.band * 5 = 10
      ∧ after (exec (.conversionComplete .b 10) s) (fun t => t.bag.state == .watching && t.bag.kind == .none) = true)
    ∧ (formedB 6050 (settlingHold 6050 .unexpectedRemove [])).condition = .over
    ∧ ((settlingHold 15 .unexpectedAdd []).bag.band * 5
        < ((formedB 15 (settlingHold 15 .unexpectedAdd [])).gross - (settlingHold 15 .unexpectedAdd []).bag.baseline).natAbs)
    ∧ (∀ s, s = settlingHold 105 .notPlaced [heldItem 1, item 2 50 false] → (formedB 105 s).condition = .valid
      ∧ s.bag.matched 105 [heldItem 1] [item 2 50 false] ∧ (∃ e ∈ [heldItem 1], e.held = true) ∧ (formedB 105 s).stable = true)
    ∧ (settlingHold 50 .notPlaced [heldItem 1, item 2 50 false]).bag.matched 50 [item 2 50 false] [heldItem 1]
    ∧ (∀ s, s = { holdingBag .scaleFault [] with chB := { steady 0 with state := .fault, resume := .weighing } } →
      s.chB.state = .fault ∧ 1 < (s.params .b).n ∧ s.bag.state = .hold ∧ s.bag.kind = .scaleFault ∧ s.chB.resume = .weighing
      ∧ after (exec (.conversionComplete .b 0) s) (fun t => t.bag.state == .watching) = true)
    ∧ (∀ s, s = { holdingBag .unexpectedAdd [] with chB := { steady 0 with watchdog := some 60 } } → s.chB.watchdog = some 60
      ∧ s.bag.state = .hold ∧ s.bag.kind ≠ .scaleFault) := by
  refine ⟨?_, rfl, by decide +kernel, ?_, by decide +kernel, by decide +kernel, ?_, ?_, ?_, ?_⟩
  · rintro s rfl; exact ⟨by decide, rfl, rfl, by decide +kernel, by decide +kernel, rfl, rfl⟩
  · rintro s rfl; decide +kernel
  · rintro s rfl
    exact ⟨by decide +kernel, .inl ⟨[], heldItem 1, [item 2 50 false], rfl, ⟨rfl, by decide, by decide⟩, fun y hy => (by cases hy), rfl, rfl⟩,
      ⟨_, List.mem_singleton.2 rfl, rfl⟩, by decide +kernel⟩
  · refine .inl ⟨[heldItem 1], item 2 50 false, [], rfl, ⟨rfl, by decide, by decide⟩, ?_, rfl, rfl⟩
    intro y hy h
    obtain ⟨-, h1, h2⟩ := h
    simp at hy; subst hy; revert h1 h2; decide
  · rintro s rfl; decide +kernel
  · rintro s rfl; decide +kernel

/-- The intervals of some bits at one speed: a 0 bit is a cell of 200, a 1 bit two half cells. -/
def swiped (bits : List Bool) : List Nat := (bits.map fun b => if b then [100, 100] else [200]).flatten

/-- Track B with the characters 1 and 2: `;12?` with its LRC, 11 xor 1 xor 2 xor 15 = 7. -/
def trackB (lrc : Bool) : List Bool := trackBits 5 11 2 [(1, true), (2, true)] ++ charBits 5 15 true ++ charBits 5 7 lrc

theorem test_trackB : trackB true = [false, false, false] ++ [true, true, false, true, false] ++ [true, false, false, false, false]
    ++ [false, true, false, false, false] ++ [true, true, true, true, true] ++ [true, true, true, false, false] := by decide

theorem test_track_words : charBits 7 5 true = [true, false, true, false, false, false, true]
    ∧ charBits 5 11 true = [true, true, false, true, false] := by decide

theorem test_hyp_TrackDecoding :
    carries 200 (200 :: (swiped (trackB true)).tail) (trackB true)
    ∧ carries 200 (200 :: ((swiped (trackB true)).tail ++ [149])) (trackB true)
    ∧ trackB true = trackBits 5 11 2 [(1, true), (2, true)] ++ charBits 5 15 true ++ charBits 5 7 true
    ∧ (charBits 5 7 true).take 5 = charBits 5 ([(1, true), (2, true)].foldl (fun x c => x ^^^ c.1) 11 ^^^ 15) true
    ∧ (charBits 5 7 false).take 5 ≠ charBits 5 7 true
    ∧ ([(1, true), (2, true)].length ≤ 40 ∧ ∀ c ∈ [(1, true), (2, true)], c.1 < 2 ^ (5 - 1) ∧ c.1 ≠ 15)
    ∧ readCandidate (trackFormat .b) ((200 :: swiped (trackB true)).map some) = ⟨.ok, 0, [1, 2]⟩
    ∧ readCandidate (trackFormat .b) ((200 :: swiped (trackB false)).map some) = ⟨.lrcErr, 0, [1, 2]⟩
    ∧ (List.replicate 40 (1, true)).length = 40 ∧ (14 < 2 ^ (5 - 1) ∧ 14 ≠ 15) ∧ ([true, true, false, true] : List Bool).length < 5
    ∧ (∀ y ∈ [none, (none : Option Nat)], y = none)
    ∧ (∀ y ∈ [[1, 2]], y.length < [1, 2, 3].length) ∧ (∀ y ∈ [[4, 5, 6]], y.length ≤ [1, 2, 3].length)
    ∧ (some (capture 3) ≠ none ∧ decodeTrack .b none (some (capture 3))
        = some { status := .noStart, pass := .withdrawal, reversed := false, parityErrors := 0, chars := [] })
    ∧ decodeTrack .b (some { capture 0 with entries := ((200 :: swiped (trackB true)).map some).reverse }) (some (capture 3))
        = some { status := .ok, pass := .insertion, reversed := true, parityErrors := 0, chars := [1, 2] }
    ∧ decodeTrack .b (some { capture 0 with entries := (200 :: swiped (trackB false)).map some }) none
        = some { status := .lrcErr, pass := .insertion, reversed := false, parityErrors := 0, chars := [1, 2] } := by
  refine ⟨?_, ?_, ?_⟩
  · rw [test_trackB]; simp [swiped, carries]
  · rw [test_trackB]; simp [swiped, carries]
  · decide +kernel

theorem test_no_start_needs_the_pattern : carries 200 [200, 200, 149] [false, false] := by simp [carries]

/-- A record read back for a weighed line: number 123 of the worked case, 875 g at 398, price 348, receipt 7. -/
def readingBack (r : SaleFields) (sales : List Sale) (e : Engine) : State :=
  { sale .tender up with
    txn := { (sale .tender up).txn with sales := sales }
    store := { filledStore .read none with queue := [.readPrinter 123 true], table := [⟨.active, 1, some 123, 1, false, false⟩] }
    flash := [⟨.marked (some 1) false false, [.record 123 (.sale r)]⟩]
    prn := { Printer.reset with engine := e, work := some (.reading 123), queue := [⟨.weighedLine 123, 7⟩] } }

/-- The record of the worked case of section 10.3. -/
def case123 : SaleFields := { record with unitPrice := 398, net := 875, price := 348 }

/-- The text of a printed line, for comparison with the manual's. -/
def Glyph.char : Glyph → Char
  | .digit d => Char.ofNat (48 + d)
  | .point => '.' | .hash => '#' | .k => 'k' | .g => 'g' | .slash => '/' | .at => '@' | .tare => 'T' | .minus => '-' | .space => ' '

/-- The text lines of the weighed line in progress. -/
def linesOf (s : State) : List (List Char) :=
  match s.prn.work with
  | some (.text j) => j.lines.map fun l => l.map Glyph.char
  | _ => []

theorem test_hyp_WeighedLineIsLaidOut :
    (∀ s, s = readingBack case123 [⟨123, 875, 348, true, false⟩] .suspended →
      s.store.op = .read ∧ s.store.queue = .readPrinter 123 true :: [] ∧ s.prn.work = some (.reading 123)
      ∧ s.prn.queue = ⟨.weighedLine 123, 7⟩ :: [] ∧ readNumbers s.store s.flash [123] [.clean] = [⟨.ok, some (123, .sale case123)⟩]
      ∧ s.prn.decimals ≤ 3 ∧ s.printsSale 7 123 ⟨.ok, some (123, .sale case123)⟩ case123
      ∧ after (exec (.recordReadEnd [.clean]) s)
          (fun t => linesOf t == ["#0000123  0.875kg     @3.98/kg      3.48".toList]) = true
      ∧ after (exec (.recordReadEnd [.uncorrectable]) s)
          (fun t => linesOf t == ["#-------  -.---kg     @-.--/kg      -.--".toList]) = true)
    ∧ (∀ s, s = readingBack { case123 with tare := 60000, net := 60450, unitPrice := 999999, price := 9999999 }
          [⟨123, 60450, 9999999, true, false⟩] .suspended →
      after (exec (.recordReadEnd [.clean]) s) (fun t => linesOf t ==
        ["#0000123 60.450kg  @9999.99/kg  99999.99".toList, "        T60.000kg                       ".toList]) = true)
    ∧ (readingBack case123 [] .waitStore).prn.engine ≠ .suspended
    ∧ (∀ r, ¬ (readingBack case123 [] .waitStore).printsSale 7 123 ⟨.ok, some (123, .sale case123)⟩ r) := by
  refine ⟨?_, ?_, by decide, ?_⟩
  · rintro s rfl
    refine ⟨rfl, rfl, rfl, rfl, by decide +kernel, by decide, ⟨.inl rfl, rfl, rfl, [], _, [], rfl, rfl, fun y hy => (by cases hy),
      rfl, rfl⟩, by decide +kernel, by decide +kernel⟩
  · rintro s rfl; decide +kernel
  · rintro r ⟨-, -, -, before, e, after, h, -⟩
    simp [readingBack] at h

theorem test_hyp_LowSupplyAndReceiptEnd :
    (∀ s, s = { heating [100, 50, 0, 0, 0] (.raster 1 []) with
          prn := { (heating [100, 50, 0, 0, 0] (.raster 1 [])).prn with supplyInput := [179] } } →
      s.prn.supplyInput.headD s.prn.headSupply < 180
      ∧ after (exec .strobePhaseEnd s) (fun t => t.prn.reasons.lowSupply && t.prn.engine == .suspended) = true)
    ∧ (∀ s, s = { advancing (.raster 2 [1]) with prn := { (advancing (.raster 2 [1])).prn with tempInput := [65] } } →
      after (exec .paperAdvanceEnd s) (fun t => t.prn.reasons.headHot && t.prn.line.isSome) = true)
    ∧ (∀ s, s = { advancing (.feed 1) with
          txn := { (sale .closing up).txn with receipt := .queued }
          prn := { (advancing (.feed 1)).prn with queue := [⟨.feed 1, 7⟩, ⟨.receiptEnd, 7⟩], doneCount := 255 } } →
      s.txn.state ≠ .idle ∧ s.txn.number = 7 ∧ s.txn.receipt = .queued ∧ s.txn.state = .closing
      ∧ s.txn.fired .one = false ∧ s.txn.fired .two = false ∧ (Work.feed 1).afterLine = none
      ∧ after (exec .paperAdvanceEnd s) (fun t => t.txn.state == .idle && t.txn.endCause == .closed && t.prn.doneCount == 0
          && t.prn.lastDone == 7) = true) := by
  refine ⟨?_, ?_, ?_⟩ <;> rintro s rfl <;> decide +kernel

/-- What the trial of a body leaves on an idle printer. -/
def trial (x : Txn) (o : Option OpenReceipt) (body : List Byte) : Option (List Queued) :=
  match parseRecords body with
  | some rs => match Trial.run x (rs.map (·.1)) { opened := o, receipt := x.receipt, records := [] } with
    | .ok t => some t.records
    | .error _ => none
  | none => none

theorem test_hyp_IdleEngineStartsTheFirstRecord :
    up.engineIdle ∧ up.prn.line = none ∧ up.prn.ending = false ∧ up.txn.state ≠ .closing
    ∧ trial up.txn none [1, 0, 0, 0, 0] = some [⟨.receiptBegin 0, 0⟩]
    ∧ trial up.txn none slip = some [⟨.receiptBegin 0, 0⟩, ⟨.feed 1, 0⟩, ⟨.receiptEnd, 0⟩]
    ∧ trial up.txn (some ⟨0, []⟩) [3, 1, 0] = some [⟨.feed 1, 0⟩] ∧ trial up.txn (some ⟨0, []⟩) [5, 1] = some [⟨.cut true, 0⟩]
    ∧ trial up.txn (some ⟨0, []⟩) [6] = some [⟨.receiptEnd, 0⟩]
    ∧ trial up.txn (some ⟨0, []⟩) (2 :: 255 :: List.replicate 80 9) = some [⟨.raster 255 (List.replicate 80 9), 0⟩]
    ∧ (∀ x : Txn, x = { (sale .tender up).txn with sales := [⟨4, 2, 3, false, false⟩] } →
        trial x (some ⟨7, []⟩) [4, 4, 0, 0, 0] = some [⟨.weighedLine 4, 7⟩]
        ∧ trial x (some ⟨7, []⟩) [6] = some [⟨.weighedLine 4, 7⟩, ⟨.receiptEnd, 7⟩] ∧ x.inFlight = false)
    ∧ (busyStore threeReads [] up).store.queue.length + (busyStore threeReads [] up).store.waiters.length < 4
    ∧ 4 ≤ (busyStore threeReads [.sale] up).store.queue.length + (busyStore threeReads [.sale] up).store.waiters.length
    ∧ (busyStore threeReads [] up).flashBusy
    ∧ (∀ s, s = { suspended { Reasons.none with coverOpen := true } true with prn :=
          { (suspended { Reasons.none with coverOpen := true } true).prn with restart := .repeatCut true } } →
        s.prn.restart = .repeatCut true ∧ s.prn.coverOpen = false
        ∧ after (exec (.printResume 1) s) (fun t => t.prn.cutter == some ⟨true, true⟩) = true) := by
  refine ⟨⟨rfl, rfl, rfl, rfl, rfl⟩, rfl, rfl, by decide, by decide +kernel, by decide +kernel, by decide +kernel, by decide +kernel,
    by decide +kernel, by decide +kernel, ?_, by decide, by decide, ⟨by decide, Or.inl (by decide)⟩, ?_⟩ <;> rintro s rfl <;> decide +kernel

/-- A cut that a lane reset has left running keeps its kind (R189, R196). -/
theorem test_cutKeepsItsKind :
    after (exec (.laneReset 1) (cutting true false)) (fun t => t.prn.work.isNone && t.prn.cutter == some ⟨true, true⟩
      && after (exec (.coverSensorChange true) t) (fun u => u.prn.restart == .repeatCut true)) = true := by decide +kernel

/-! ### More boundaries of the same statements -/

theorem test_hyp_LaneResetReturnsTheLaneToACleanPoint :
    (∀ s, s = sale .opened (weighing .waitStable true 1 (scales 5)) → s.ready ∧ s.pw.state = .waitStable ∧ s.bag.state = .inactive
      ∧ s.cal.session = none ∧ after (exec (.laneReset 3) s) (fun t => t.pw.result == .aborted && t.pw.rearm) = true)
    ∧ (weighing .waitRearm false 1 up).pw.state = .waitRearm
    ∧ after (exec (.laneReset 3) (weighing .storing false 1 up)) (fun t => t.pw.state == .detached) = true
    ∧ (∀ s, s = holdingBag .unexpectedAdd [item 2 50 false] → s.bag.state ≠ .inactive
      ∧ after (exec (.laneReset 3) s) (fun t => t.bag.entries == [] && t.bag.kind == .none && t.bag.state == .inactive) = true)
    ∧ (calibrating.cal.session = some session ∧ session.committing = false ∧ (calibrating.ch session.channel).state ≠ .fault
      ∧ after (exec (.laneReset 3) calibrating) (fun t => t.cal.session.isNone && t.chP.state == .weighing) = true)
    ∧ after (exec (.laneReset 3) { calibrating with chP := { calibrating.chP with state := .fault, watchdog := none } })
        (fun t => t.cal.session.isNone && t.chP.state == .fault && t.chP.resume == .weighing) = true
    ∧ after (exec (.laneReset 3) { calibrating with cal := { calibrating.cal with session := some { session with committing := true } } })
        (fun t => (t.cal.session.map fun x => (x.endMark, x.cause)) == some (true, .reset)) = true
    ∧ (∀ s, s = { up with card := { slot .seated true true with cardLeft := true } } → s.card.cardLeft = true
      ∧ after (exec (.laneReset 3) s) (fun t => t.card.cardLeft == false && t.card.seat == .seated
          && t.card.leftTimer == some (s.clock + s.card.leftS * 1000)) = true)
    ∧ (∀ s, s = { up with
          drw1 := { Drawer.reset true with state := .overdue, sensorOpen := true, forced := true }
          drw2 := { Drawer.reset true with state := .hold, grant := 5, fittedSet := false } } →
      s.drw1.fitted = true ∧ s.drw1.fittedSet = true ∧ s.drw2.fitted = true ∧ s.drw2.fittedSet = false
      ∧ after (exec (.laneReset 3) s) (fun t => t.drw1.state == .opened && t.drw1.forced && t.drw2.state == .closed
          && t.drw2.grant == 0 && t.drw2.fitted == false && t.supply.budget == s.supply.staged) = true)
    ∧ (Drawer.reset false).fitted = false := by
  refine ⟨?_, rfl, by decide +kernel, ?_, by decide +kernel, by decide +kernel, by decide +kernel, ?_, ?_, rfl⟩ <;> rintro s rfl
  · exact ⟨⟨rfl, rfl⟩, by decide +kernel⟩
  all_goals decide +kernel

/-- The re-arm flag after a conversion of channel P, where it answers. -/
def rearmAfter (raw : BitVec 24) (s : State) : Option Bool := match exec (.conversionComplete .p raw) s with
  | .next t => some t.pw.rearm
  | .fault _ | .refused _ => none

theorem test_hyp_ConversionTracksRaisesAndReArms :
    (∀ s, s = { scales 3 with chP := { steady 3 with zo := 500 } } → s.chP.tracking = none ∧ s.chP.tare = 0
      ∧ 2 * (s.scale .p 3 - 500).natAbs = 1000 * (s.params .p).e
      ∧ after (exec (.conversionComplete .p 3) s) (fun t => t.chP.tracking == some (s.clock + 1000)) = true)
    ∧ after (exec (.conversionComplete .p 3) { scales 3 with chP := { steady 3 with zo := 500, tracking := some 700 } })
        (fun t => t.chP.tracking == some 700) = true
    ∧ after (exec (.conversionComplete .p 3) { scales 3 with chP := { steady 3 with zo := 499, tracking := some 700 } })
        (fun t => t.chP.tracking == none) = true
    ∧ (∀ q s, q = { (scales 3).report .p with raw := 9 } → s = { scales 3 with chP := { steady 3 with lastReport := some q } } →
      s.chP.lastReport = some q ∧ after (exec (.conversionComplete .p 3) s)
        (fun t => t.chP.lastReport == some q && { q with raw := 3 } == t.report .p) = true)
    ∧ (after (exec (.conversionComplete .p 3) (scales 3)) fun t => t.chP.lastReport == some (t.report .p)
        && ((scales 3).chP.lastReport.map fun q => { q with raw := 3 }) != some (t.report .p)) = true
    ∧ (∀ s, s = { scales 25 with pw := { Pricing.reset with rearm := false, reference := 0 } } →
      (s.convert .p 25).chP.samples.length = (s.params .p).n ∧ (formed 25 s).gross = 25 ∧ rearmAfter 25 s = some true)
    ∧ rearmAfter 28 { scales 28 with pw := { Pricing.reset with rearm := false, reference := 0 } } = some false
    ∧ rearmAfter 28 { scales 28 with pw := { Pricing.reset with rearm := true, reference := 0 } } = some true
    ∧ rearmAfter 200 { scales 200 with pw := { Pricing.reset with rearm := false, reference := 100 } } = some true
    ∧ rearmAfter 200 { scales 200 with pw := { Pricing.reset with rearm := false, reference := 101 } } = some false
    ∧ rearmAfter 95 (weighing .waitStable false 1000 { scales 95 with pw := Pricing.reset }) = some true
    ∧ rearmAfter 520 (weighing .waitRearm false 1000 (scales 520)) = some false
    ∧ rearmAfter 25 (weighing .storing false 1000 (scales 25)) = some true := by
  refine ⟨?_, by decide +kernel, by decide +kernel, ?_, by decide +kernel, ?_, by decide +kernel⟩
  · rintro s rfl; decide +kernel
  · rintro q s rfl rfl; decide +kernel
  · rintro s rfl; decide +kernel

/-- The end of a failing program that ends a write, after two failures in a row, or with the last number. -/
def failing (n next : Nat) (s : State) : State := { s with store := { s.store with failures := n, next := next } }

theorem test_hyp_WritesEndDetachedOrFailed :
    (∀ s auto, s = { programming (.sale record) (weighing .storing false 1000 (scales 100)) with
        chP := { steady 100 with tare := 7000 }
        pw := { (weighing .storing false 1000 up).pw with
          latch := some ⟨100, 0, 100, 1⟩, tareAutoclear := auto, reserved := false } } →
      s.pw.state = .storing ∧ s.pw.latch = some ⟨100, 0, 100, 1⟩ ∧ (∀ b, Access.write b ∉ ([] : List Access))
      ∧ after (exec (.recordProgramEnd true) s)
          (fun t => t.chP.tare == (if auto then 0 else 7000) && t.pw.reference == (if auto then 507 else 500)) = true)
    ∧ (∀ s, s = programming (.sale record) (weighing .detached false 1000 up) → s.pw.state = .detached
      ∧ after (exec (.recordProgramEnd true) s) (fun t => t.pw.result == .aborted && t.pw.lastAlibi == 129 && t.txn == s.txn) = true
      ∧ after (exec (.recordProgramEnd false) (failing 2 130 s)) (fun t => t.pw.result == .aborted && t.pw.rearm
          && t.pw.lastAlibi == 0 && t.store.failed) = true)
    ∧ (∀ s, s = programming (.sale record) (weighing .storing false 1000 up) → s.link.starting = false
      ∧ after (exec (.recordProgramEnd false) (failing 2 130 s)) (fun t => t.pw.result == .storeFailed && t.pw.rearm
          && t.store.condition == .failed && t.store.queue == []) = true
      ∧ after (exec (.recordProgramEnd false) (failing 0 4294967295 s)) (fun t => t.pw.result == .storeFailed) = true
      ∧ after (exec (.recordProgramEnd false) (failing 1 4294967294 s)) (fun t => t.pw.state == .storing) = true)
    ∧ (∀ s m, s = failing 2 130 (programming (.cal calRecord) { calibrating with
        cal := { calibrating.cal with session := some { session with committing := true, endMark := m } } }) →
      after (exec (.recordProgramEnd false) s) (fun t => t.cal.session
        == (if m then none else some { session with committing := false, endMark := m })
        && t.chP.state == (if m then .weighing else .calibrating)) = true
      ∧ after (exec (.recordProgramEnd false) { s with chP := { s.chP with state := .fault, watchdog := none, resume := .calibrating } })
          (fun t => t.chP.state == .fault && t.chP.resume == (if m then .weighing else .calibrating)) = true) := by
  refine ⟨?_, ?_, ?_, ?_⟩
  · rintro s auto rfl; cases auto <;> exact ⟨rfl, rfl, fun _ h => (nomatch h), by decide +kernel⟩
  · rintro s rfl; decide +kernel
  · rintro s rfl; decide +kernel
  · rintro s m rfl; cases m <;> decide +kernel

theorem test_hyp_ReaderFaultStaysUntilBothSwitchesAreOpen :
    ((slot .readerFault true true).seat = .readerFault ∧ (slot .readerFault true true).level .front ≠ false)
    ∧ after (exec (.cardSwitchChange .front false) { up with card := slot .readerFault true true })
        (fun t => t.card.seat == .readerFault) = true
    ∧ after (exec (.cardSwitchChange .front true) { up with card := slot .readerFault false false })
        (fun t => t.card.seat == .readerFault) = true
    ∧ after (exec (.cardSwitchChange .front false) { up with card := slot .readerFault true false })
        (fun t => t.card.seat == .empty) = true
    ∧ after (exec (.cardSwitchChange .rear false) { up with card := slot .readerFault false true })
        (fun t => t.card.seat == .empty) = true := by decide +kernel

/-- A line of four blocks whose phase over block 0 ends, with some commands behind it. -/
def ending (q : List Instr) (rx : List RxByte) : State :=
  { heating [100, 50, 0, 0] (.raster 1 []) with
    drw1 := Drawer.reset true, drw2 := Drawer.reset true, pending := q
    link := { up.link with rx := rx } }

/-- The line of `ending` between its phases. -/
def between (q : List Instr) (a b : DrawerState) : State :=
  { ending q [] with
    supply := { Supply.reset with phase := none }, drw1 := { Drawer.reset true with state := a }
    drw2 := { Drawer.reset true with state := b } }

/-- The bytes of a DRAWER_OPEN of port 2, reason NO_SALE, as the buffer holds them. -/
def kickBytes : List RxByte :=
  ({ kind := 0x34, tag := 5, body := [2, 1] } : Frame).bytes.map fun b => { byte := b, gap := false, loss := false }

theorem test_hyp_KickComesWithThePhaseEnd :
    (∀ s, s = ending [.drawerOpen 5 2 1] [] → s.kickWaits ∧ s.betweenPhases = false
      ∧ after (exec .strobePhaseEnd s) (fun t => t.supply.phase == none && t.prn.engine == .printing && t.betweenPhases) = true)
    ∧ (∀ s, s = ending [.frameTaken] kickBytes → s.kickWaits
      ∧ after (exec .strobePhaseEnd s) (fun t => t.supply.phase == none && t.betweenPhases) = true)
    ∧ (∀ s, s = ending [.ping 5, .drawerOpen 5 2 1] [] → ¬ s.kickWaits
      ∧ after (exec .strobePhaseEnd s) (fun t => t.supply.phase.map (·.blocks) == some [1]) = true)
    ∧ ¬ (ending [.drawerOpen 5 2 0] []).kickWaits
    ∧ (∀ s, s = { ending [.strobePhaseEnd, .drawerOpen 5 2 1] [] with supply := { (ending [] []).supply with budget := 150 } } →
      after (step s) (fun t => after (step t) (fun u => u.drw2.state == .kick && u.supply.phase.isNone && u.prn.engine == .waitSupply
        && u.supply.owed.isNone)) = true)
    ∧ (∀ s, s = between [] .closed .closed → s.prn.engine = .printing ∧ s.supply.phase = none ∧ s.supply.owed = none
      ∧ min s.drw1.kickLoad s.supply.budget + s.granted ≤ s.supply.budget
      ∧ after (exec (.drawerOpen 5 1 1) s) (fun t => t.drw1.state == .kick && t.supply.phase.map (·.blocks) == some [0]) = true)
    ∧ (∀ s, s = between [.drawerOpen 6 2 1] .closed .closed →
      after (exec (.drawerOpen 5 1 1) s) (fun t => t.drw1.state == .kick && t.betweenPhases) = true)
    ∧ (∀ s, s = between [] .closed .kick → s.drw2.state = .kick
      ∧ after (exec (.drawerOpen 5 1 1) s) (fun t => t.drw1.state == .waitSupply && t.supply.phase.isSome) = true) := by
  refine ⟨?_, ?_, ?_, ?_, ?_, ?_, ?_, ?_⟩
  · rintro s rfl
    exact ⟨⟨⟨rfl, rfl⟩, .two, 5, 1, [], .inl rfl, by decide⟩, by decide +kernel⟩
  · rintro s rfl
    exact ⟨⟨⟨rfl, rfl⟩, .two, 5, 1, [], .inr ⟨rfl, [], by decide +kernel⟩, by decide⟩, by decide +kernel⟩
  · rintro s rfl
    refine ⟨?_, by decide +kernel⟩
    rintro ⟨-, p, tag, r, more, h | ⟨h, -⟩, -⟩ <;> simp [ending] at h
  · rintro ⟨-, p, tag, r, more, h | ⟨h, -⟩, h2⟩
    · simp only [ending, List.cons.injEq, Instr.drawerOpen.injEq] at h
      obtain ⟨⟨-, -, rfl⟩, -⟩ := h
      exact absurd h2.2.2.2 (by decide)
    · simp [ending] at h
  all_goals (rintro s rfl; decide +kernel)

/-- The engine stands SUSPENDED by an open cover that has closed, with a record in progress. -/
def resuming (w : Work) (l : Option Line) (r : Restart) : State :=
  { suspended { Reasons.none with coverOpen := true } true with
    prn := { (suspended { Reasons.none with coverOpen := true } true).prn with
      work := some w, queue := [⟨.feed 2, 0⟩], line := l, restart := r } }

/-- A line of two blocks, the second printed or not. -/
def halfLine (done : Bool) : Line := { loads := [10, 20], printed := [true, done], advancing := false, temp := 25 }

/-- What PRINT_RESUME makes of a state. -/
def resumes (s : State) (p : State → Bool) : Bool := after (exec (.printResume 1) s) p

theorem test_hyp_CancelAndResumeOfARecordInProgress :
    (∀ s, s = resuming (.raster 2 [255]) (some (halfLine false)) .reprintLine → s.ready ∧ s.prn.engine = .suspended
      ∧ s.prn.coverOpen = false ∧ s.prn.restart = .reprintLine ∧ s.prn.work = some (.raster 2 [255])
      ∧ resumes s (fun t => t.prn.line.map (·.loads) == some (rasterLoads [255]) && t.prn.restart == .none) = true)
    ∧ resumes (resuming (.raster 2 [255]) none .none) (fun t => t.prn.line.map (·.loads) == some (rasterLoads [255])) = true
    ∧ resumes (resuming (.text { number := 3, lines := [[.space]], row := 5, damaged := false }) none .reprintLine)
        (fun t => t.prn.line.isSome) = true
    ∧ resumes (resuming (.feed 2) (some (halfLine false)) .reprintLine) (fun t => t.prn.line.map (·.advancing) == some true) = true
    ∧ resumes (resuming (.raster 2 []) (some (halfLine false)) .none)
        (fun t => t.supply.phase.map (·.blocks) == some [1] && t.prn.engine == .printing) = true
    ∧ resumes (resuming (.raster 2 []) (some (halfLine true)) .none)
        (fun t => t.prn.line.map (·.advancing) == some true && t.prn.engine == .printing) = true
    ∧ (∀ s ph n, s = { resuming (.raster 2 []) (some (halfLine false)) .none with
          supply := { Supply.reset with budget := 500, owed := some ph } } → ph = ⟨[1], n, 300, true⟩ →
      (n = 500 → resumes s (fun t => t.supply.phase == some ph && t.prn.engine == .printing) = true)
      ∧ (n = 501 → resumes s (fun t => t.supply.phase == none && t.prn.engine == .waitSupply) = true))
    ∧ resumes (resuming (.reading 4) none .none) (fun t => t.prn.engine == .waitStore) = true
    ∧ (∀ s, s = { resuming (.feed 1) none .none with prn := { (resuming (.feed 1) none .none).prn with work := none } } →
      s.prn.queue = ⟨.feed 2, 0⟩ :: [] ∧ s.prn.cutter = none ∧ resumes s (fun t => t.prn.work == some (.feed 2)) = true)
    ∧ after (exec (.printCancel 1) (cutting true false)) (fun t => t.prn.cutter.isSome && t.prn.queue == [⟨.cut true, 0⟩]) = true
    ∧ ((heating [9] (.raster 2 [])).prn.line.isSome = true ∧ (heating [9] (.raster 2 [])).prn.engine ≠ .suspended
      ∧ after (exec (.printCancel 1) (heating [9] (.raster 2 []))) (fun t => t.prn.ending && t.prn.line.isSome) = true)
    ∧ after (exec (.printCancel 1) (resuming (.raster 2 []) (some (halfLine false)) .reprintLine))
        (fun t => t.prn.work.isNone && t.prn.queue == [] && t.prn.engine == .suspended) = true
    ∧ (∀ s, s = { busyStore [.readPrinter 4 true] [.line] up with prn := { Printer.reset with
          engine := .waitStore, work := some (.reading 4), queue := [⟨.weighedLine 4, 7⟩] } } →
      after (exec (.printCancel 1) s) (fun t => t.store.queue == [.readPrinter 4 false] && t.store.waiters == []
        && t.prn.engine == .idle) = true) := by
  refine ⟨?_, by decide +kernel, by decide +kernel, by decide +kernel, by decide +kernel, by decide +kernel, ?_, by decide +kernel, ?_,
    by decide +kernel, by decide +kernel, by decide +kernel, ?_⟩
  · rintro s rfl; exact ⟨⟨rfl, rfl⟩, by decide +kernel⟩
  · rintro s ph n rfl rfl; exact ⟨fun h => by subst h; decide +kernel, fun h => by subst h; decide +kernel⟩
  · rintro s rfl; decide +kernel
  · rintro s rfl; decide +kernel

/-- A tare that is cleared where none is held is no change, and raises no WEIGHT (R45); one that is held is a change. -/
theorem test_unchangedTareRaisesNothing :
    after (exec (.tareClear 1 0) { scales 5 with chP := { steady 5 with lastReport := none } }) (fun t => t.chP.lastReport.isNone) = true
    ∧ after (exec (.tareClear 1 0) { scales 5 with chP := { steady 5 with lastReport := none, tare := 5000 } })
        (fun t => t.chP.lastReport.isSome) = true := by decide +kernel

theorem test_hyp_PowerOnResetBreaksAFlashOperation :
    (∀ s, s = programming (.sale record) up → s.store.op = .programHead ∧ s.store.queue = .write (.sale record) :: []
      ∧ s.store.active = some 1 ∧ s.flash[1]? = some ⟨.marked (some 2) false false, []⟩)
    ∧ (∀ s, s = copying 5 [.p] → s.store.op = .programCopy .p ∧ (s.store.current .p).isSome = true ∧ s.store.active.isSome = true)
    ∧ (∀ s op, s = { programming (.sale record) up with store := filledStore op (some ⟨0, 0, .pulse⟩) } →
      (op = .markFull 1 true ∨ op = .markReleased 1 ∨ op = .markInUse 2 3 ∨ op = .pulse true) →
      s.flash[1]? = some ⟨.marked (some 2) false false, []⟩ ∧ s.flash[2]? = some ⟨.blank, []⟩
      ∧ s.flash[0]? = some ⟨.marked (some 1) true false, List.replicate 128 .cleared⟩ ∧ s.store.erase = some ⟨0, 0, .pulse⟩)
    ∧ FlashFate.applied ≠ .notApplied := by
  refine ⟨?_, ?_, ?_, by decide⟩
  · rintro s rfl; decide +kernel
  · rintro s rfl; decide +kernel
  · rintro s op rfl (rfl | rfl | rfl | rfl) <;> decide +kernel

/-- Drawer 2 is not fitted by default: the staged budget takes effect all the same (R160, R175). -/
theorem test_hyp_LaneResetWithOneDrawer :
    ∀ s, s = { up with supply := { Supply.reset with staged := 500 }, drw1 := { Drawer.reset true with state := .hold, grant := 9 } } →
      (∀ p, (s.drw p).fitted = true ∨ (s.drw p).state ≠ .kick ∧ (s.drw p).state ≠ .hold) ∧ (∃ p, (s.drw p).fitted = true)
      ∧ (∀ p, (s.drw p).fitted = true ∨ (s.drw p).state ≠ .overdue) ∧ s.drw2.fitted = false
      ∧ after (exec (.laneReset 3) s) (fun t => t.supply.budget == 500 && t.drw1.grant == 0) = true := by
  rintro s rfl
  exact ⟨fun p => by cases p <;> decide, ⟨.one, rfl⟩, fun p => by cases p <;> decide, rfl, by decide +kernel⟩

/-- A phase in progress under KICK_FIRST: the budget is 384 and a kick takes 256. -/
def kickFirst (load : Nat) (again : Bool) (s : State) : State :=
  { s with supply := { Supply.reset with kickFirst := true, phase := some ⟨[0], load, 300, again⟩ } }

theorem test_hyp_DrawerOpenWaitsBesideAPhaseOrAPort :
    (∀ s, s = kickFirst 129 true (ports .closed .closed up) → s.betweenPhases = false ∧ s.supply.budget < 256 + s.granted
      ∧ after (exec (.drawerOpen 5 1 1) s) (fun t => t.drw1.state == .waitSupply && t.supply.phase == s.supply.phase) = true)
    ∧ (∀ s, s = kickFirst 100 false { ports .closed .hold up with drw2 := { Drawer.reset true with state := .hold, grant := 129 } } →
      s.supply.budget < 256 + s.drw1.grant + s.drw2.grant
      ∧ after (exec (.drawerOpen 5 1 1) s) (fun t => t.drw1.state == .waitSupply && t.supply.phase == s.supply.phase) = true)
    ∧ (∀ s, s = ports .closed .waitSupply up → s.drw2.state = .waitSupply
      ∧ after (exec (.drawerOpen 5 1 1) s) (fun t => t.drw1.state == .kick && t.drw2.state == .waitSupply) = true)
    ∧ (∀ s, s = ports .waitSupply .closed up → s.drw1.state = .waitSupply ∧ min s.drw1.kickLoad s.supply.budget + s.granted ≤ s.supply.budget
      ∧ after (exec (.drawerOpen 5 2 1) s) (fun t => t.drw1.state == .kick && t.drw2.state == .waitSupply) = true)
    ∧ (∀ s, s = kickFirst 129 false (ports .waitSupply .closed up) →
      after (exec (.drawerOpen 5 2 1) s) (fun t => t.drw1.state == .kick && t.drw2.state == .waitSupply && t.supply.owed.isSome) = true)
    ∧ (∀ s, s = kickFirst 129 true (ports .waitSupply .closed up) →
      after (exec (.drawerOpen 5 2 1) s) (fun t => t.drw1.state == .waitSupply && t.drw2.state == .waitSupply) = true) := by
  refine ⟨?_, ?_, ?_, ?_, ?_, ?_⟩ <;> rintro s rfl <;> decide +kernel

/-- LOW_SUPPLY clears at 190 and is set again by the planning at 179: PRINT_STATE is raised, though it shows what it showed (R191,
R198). -/
theorem test_hyp_ReasonClearedAndSetAgain :
    ∀ s, s = { suspended { Reasons.none with lowSupply := true } true with prn :=
        { (suspended { Reasons.none with lowSupply := true } true).prn with
          work := some (.raster 1 [255]), queue := [⟨.raster 1 [255], 0⟩], line := some (halfLine false) } } →
      s.prn.reasons.lowSupply = true
      ∧ after (exec (.headMonitorSample ⟨190, [179]⟩ ⟨25, []⟩) { s with link := { s.link with tx := some (sending 0 true) } })
          (fun t => t.prn.reasons == s.prn.reasons && t.prn.engine == .suspended
            && t.link.slots.printState == some t.prn.bytes) = true := by
  rintro s rfl; decide +kernel

/-- A LANE_RESET taken with the reply queue full applies the reset all the same, and its reply fills its place (R19). -/
theorem test_hyp_TakenLaneResetIsApplied :
    ∀ s, s = { sale .tender up with link := { up.link with
        resetTag := some 9, reserved := 1, replies := List.replicate 7 (replyFrame 0x01 1 (.accept [])), hrdy := false } } →
      s.link.resetTag = some 9
      ∧ after (exec (.laneReset 3) s) (fun t => t.txn.state == .idle && t.txn.endCause == .reset && t.link.resetTag == none
          && t.link.reserved == 0 && lastReply t == some (replyFrame 0x03 9 (.accept []))) = true := by
  rintro s rfl; decide +kernel

/-- A lane reset ends an open session on channel P, which returns to WEIGHING with its zero and an empty window (R21, R47). -/
theorem test_hyp_LaneResetEndsASession :
    ∀ s, s = { up with
        chP := { steady 100 with state := .calibrating, zo := 7, tare := 5000 }
        pw := { up.pw with rearm := false, reference := 95 }
        cal := { up.cal with session := some session } } →
      s.ready ∧ after (exec (.laneReset 3) s) (fun t => t.chP.state == .weighing && t.chP.zo == 7 && t.chP.window == []
        && t.chP.samples == s.chP.samples && t.chP.tare == 0 && t.pw.reference == 100) = true := by
  rintro s rfl; exact ⟨⟨rfl, rfl⟩, by decide +kernel⟩

/-- Settings that act at once (R12, R119, R160). -/
theorem test_hyp_SettingsActAtOnce :
    (up.ready ∧ up.txn.state = .idle ∧ up.supply.phase = none)
    ∧ after (exec (.settingPut 1 4 1 0) up) (fun t => t.bag.enableSet == false && t.bag.enabled == false) = true
    ∧ after (exec (.settingPut 1 4 1 0) (sale .opened up)) (fun t => t.bag.enableSet == false && t.bag.enabled) = true
    ∧ after (exec (.settingPut 1 6 1 641) up) (fun t => t.supply.budget == 640) = true
    ∧ after (exec (.settingPut 1 6 1 159) (strobing 100 false up)) (fun t => t.supply.budget == 384 && t.supply.staged == 160) = true
    ∧ after (exec (.settingPut 1 1 1 1022)
          { up with link := { up.link with hrdy := false, slots := { Slots.empty with weightP := some [1], txnState := some [2] } } })
        (fun t => t.link.slots.weightP == none && t.link.slots.txnState == some [2]) = true := by
  exact ⟨⟨⟨rfl, rfl⟩, rfl, rfl⟩, by decide +kernel, by decide +kernel, by decide +kernel, by decide +kernel, by decide +kernel⟩

/-- An idle flash: hold_unexported written lets the erase of a FULL sector begin, with its first pulse, its first copy, or, where no
slot is left for a copy, not at all (R105). -/
def fullStore (used : Nat) (current : Option CurrentCal) : Store :=
  { Store.reset with
    next := 300, lastSeq := 8, currentP := current
    table := [⟨.active, 8, some 129, used, false, false⟩] ++ List.replicate 7 ⟨.full, 1, some 1, 128, false, false⟩ }

theorem test_hyp_IdleFlashBeginsTheErase :
    (∀ s, s = { up with store := fullStore 127 none } → s.store.quiet
      ∧ after (exec (.settingPut 1 10 2 0) s) (fun t => t.store.op == .pulse false && (t.store.entry 1).state == .erasing) = true
      ∧ after (exec (.settingPut 1 10 2 1) s) (fun t => t.store.op == .idle && t.store.erase == none) = true)
    ∧ (∀ s, s = { up with store := fullStore 127 (some ⟨1, calRecord⟩) } → s.store.quiet ∧ s.store.active = some 0
      ∧ after (exec (.settingPut 1 10 2 0) s) (fun t => t.store.op == .programCopy .p && (t.store.entry 1).pending) = true)
    ∧ (∀ s, s = { up with store := fullStore 128 (some ⟨1, calRecord⟩) } → s.store.quiet ∧ s.store.active = some 0
      ∧ after (exec (.settingPut 1 10 2 0) s) (fun t => t.store.failed && t.store.condition == .failed) = true) := by
  refine ⟨?_, ?_, ?_⟩ <;> rintro s rfl <;> refine ⟨⟨rfl, rfl, rfl, rfl, rfl, rfl, rfl⟩, ?_⟩ <;> decide +kernel

/-- The end of a phase serves port 1 before port 2, and stops where LOW_SUPPLY is set (R162, R191). -/
theorem test_hyp_PhaseEndServesAPortOrStops :
    (∀ s, s = ports .waitSupply .waitSupply (heating [100, 200, 1, 0, 0] (.raster 1 [])) → s.drw1.state = .waitSupply
      ∧ after (exec .strobePhaseEnd s) (fun t => t.drw1.state == .kick && t.drw2.state == .waitSupply
          && t.supply.phase == none && t.prn.engine == .waitSupply) = true)
    ∧ (∀ s, s = heating [100, 200, 1, 0, 0] (.raster 1 []) →
      after (exec .strobePhaseEnd { s with prn := { s.prn with reasons := { Reasons.none with lowSupply := true } } })
        (fun t => t.prn.engine == .suspended && t.supply.phase == none) = true) := by
  refine ⟨?_, ?_⟩ <;> rintro s rfl <;> decide +kernel

/-- The end of an advance: a record that is ending leaves the queue, the next one is taken up, and a reason set stops the engine
(R181, R191, R194). -/
theorem test_hyp_AdvanceEndsAnEndingRecord :
    (∀ s, s = { advancing (.feed 9) with prn := { (advancing (.feed 9)).prn with
        ending := true, queue := [⟨.feed 9, 0⟩, ⟨.cut true, 0⟩] } } → (Work.feed 9).afterLine = some (.feed 8)
      ∧ s.prn.ending = true ∧ s.prn.cutter = none
      ∧ after (exec .paperAdvanceEnd s) (fun t => t.prn.engine == .cutting && t.prn.queue == [⟨.cut true, 0⟩] && !t.prn.ending) = true)
    ∧ (∀ s, s = { advancing (.feed 9) with prn := { (advancing (.feed 9)).prn with
        reasons := { Reasons.none with paperOut := true } } } → s.prn.reasons.any = true
      ∧ after (exec .paperAdvanceEnd s) (fun t => t.prn.engine == .suspended && t.prn.work == some (.feed 8)) = true) := by
  refine ⟨?_, ?_⟩ <;> rintro s rfl <;> decide +kernel

/-- In CLOSING a RECEIPT_END that is printed at once, or a cancel, ends the transaction; a weighed line behind a RECEIPT_BEGIN is
read at once by an idle flash (R71, R74, R181, R186). -/
theorem test_hyp_ReceiptsInAClosingTransaction :
    (∀ s, s = { sale .closing up with
        txn := { (sale .closing up).txn with receipt := .opened }
        prn := { up.prn with openReceipt := some ⟨(sale .closing up).txn.number, (sale .closing up).txn.sales.map (·.number)⟩ } } →
      s.engineIdle ∧ s.txn.state = .closing ∧ s.txn.inFlight = false
      ∧ after (exec (.printRecords 1 [6]) s) (fun t => t.txn.state == .idle && t.txn.receipt == .printed) = true
      ∧ after (exec (.printCancel 1) s) (fun t => t.txn.state == .idle && t.txn.receipt == .cancelled) = true)
    ∧ (∀ s, s = { sale .opened up with
        txn := { (sale .opened up).txn with sales := [⟨129, 0, 0, false, false⟩] }, store := fullStore 1 none } →
      s.takesAlone (.weighedLine 129) ∧ s.store.op = .idle ∧ (∃ x ∈ s.store.table, x.bears 129 = true)
      ∧ after (exec (.printRecords 1 ([1] ++ le32 s.txn.number ++ [4] ++ le32 129)) s)
          (fun t => t.store.op == .read && t.prn.engine == .waitStore && t.store.queue == [.readPrinter 129 true]) = true) := by
  refine ⟨?_, ?_⟩ <;> rintro s rfl
  · exact ⟨⟨rfl, rfl, rfl, rfl, rfl⟩, rfl, rfl, by decide +kernel, by decide +kernel⟩
  · exact ⟨.inr (.inr (.inr rfl)), rfl, by decide +kernel, by decide +kernel⟩


/-- A state whose store has sector 0 FULL with numbers 1 to 128, sector 1 ACTIVE with some slots used, sectors 2 to 6 RETIRED, and
sector 7 in a state. -/
def lastSpare (op : FlashOp) (used : Nat) (seven : SectorState) (q : List Access) (s : State) : State :=
  { s with store := { Store.reset with
      op := op, queue := q, next := 129 + used, lastSeq := 2, erase := some ⟨7, 1, .pulse⟩
      table := [⟨.full, 1, some 1, 128, false, false⟩, ⟨.active, 2, some 129, used, false, false⟩]
        ++ List.replicate 5 ⟨.retired, 0, none, 0, false, false⟩ ++ [⟨seven, 0, none, 0, false, false⟩] } }

theorem test_hyp_AccessIsHandedOver :
    (∀ s x r, s = { up with store := filledStore .idle none } → x = s.store →
      s.receives (.write r) { x with queue := [.write r], op := .programHead }
      ∧ s.receives (.readHost 1 128 1) { x with queue := [.readHost 1 128 1], op := .read }
      ∧ s.receives (.readPrinter 1 true) { x with queue := [.readPrinter 1 true], op := .read }
      ∧ s.receives (.release [0]) { x with queue := [.release [0]], op := .markReleased 0 })
    ∧ (∀ s x r, s = lastSpare (.pulse false) 125 .erasing [] up → x = s.store →
      s.receives (.write r) { x with queue := [.write r], op := .programHead, erase := some ⟨7, 1, .reapply⟩ })
    ∧ (∀ s x r, s = lastSpare (.pulse false) 126 .erasing [] up → x = s.store →
      s.receives (.write r) { x with queue := [.write r] }
      ∧ s.receives (.readPrinter 1 true) { x with queue := [.readPrinter 1 true], op := .read, erase := some ⟨7, 1, .reapply⟩ })
    ∧ (∀ s x r, s = lastSpare .idle 127 .erased [] up → x = s.store →
      s.receives (.write r) { x with queue := [.write r], op := .programHead })
    ∧ (∀ s x r, s = lastSpare (.pulse false) 126 .erasing [.write (.sale record)] up → x = s.store →
      s.receives (.write r) { x with queue := x.queue ++ [.write r] })
    ∧ (∀ s a, s = busyStore threeReads [] up → s.receives a { s.store with queue := s.store.queue ++ [a] }) := by
  refine ⟨?_, ?_, ?_, ?_, ?_, ?_⟩
  · rintro s x r rfl rfl
    refine ⟨.inr ⟨rfl, rfl, rfl, rfl, _, ⟨rfl, by decide, by decide, 1, by decide +kernel⟩, .inl ⟨rfl, rfl⟩⟩,
      .inr ⟨rfl, rfl, rfl, rfl, _, ⟨rfl, by decide +kernel⟩, .inl ⟨rfl, rfl⟩⟩,
      .inr ⟨rfl, rfl, rfl, rfl, _, ⟨rfl, by decide +kernel⟩, .inl ⟨rfl, rfl⟩⟩,
      .inr ⟨rfl, rfl, rfl, rfl, _, ⟨rfl, by decide +kernel, 0, rfl, rfl⟩, .inl ⟨rfl, rfl⟩⟩⟩
  · rintro s x r rfl rfl
    exact .inr ⟨rfl, rfl, rfl, rfl, _, ⟨rfl, by decide, by decide, 1, by decide +kernel⟩, .inr ⟨rfl, rfl, rfl⟩⟩
  · rintro s x r rfl rfl
    exact ⟨.inl ⟨by decide, .inr (.inr (by rfl)), rfl⟩,
      .inr ⟨rfl, rfl, rfl, rfl, _, ⟨rfl, by decide +kernel⟩, .inr ⟨rfl, rfl, rfl⟩⟩⟩
  · rintro s x r rfl rfl
    exact .inr ⟨rfl, rfl, rfl, rfl, _, ⟨rfl, by decide, by decide, 1, by decide +kernel⟩, .inl ⟨rfl, rfl⟩⟩
  · rintro s x r rfl rfl
    exact .inl ⟨by decide, .inr (.inr (by rfl)), rfl⟩
  · rintro s a rfl
    exact .inl ⟨by decide, .inl (by decide), rfl⟩

/-- A store in which a condition holds. -/
def stopped (c : StoreCondition) (s : State) : State := { s with store := { s.store with condition := c, failed := c == .failed } }

/-- A SALE record waits at the unit, the first to wait. -/
def saleWaits (st : PwState) (s : State) : State :=
  { s with
    pw := { (weighing st false 1000 s).pw with waiting := some record, latch := some ⟨100, 0, 100, 1⟩, reserved := true }
    store := { s.store with waiters := [.sale] }, bag := { s.bag with reserved := 1 } }

theorem test_hyp_SaleRecordIsHandedOver :
    (∀ s, s = { weighing .waitStable true 1000 (scales 100) with store := filledStore .idle none } →
      s.store.queue.length + s.store.waiters.length < 4 ∧ s.store.condition ≠ .storeFull ∧ s.store.condition ≠ .failed
      ∧ after (exec (.conversionComplete .p 100) s) (fun t => t.store.op == .programHead && t.store.queue.length == 1
          && t.pw.state == .storing) = true)
    ∧ (∀ s c, s = stopped c (weighing .waitStable true 1000 (scales 100)) → c = .storeFull ∨ c = .failed →
      s.store.condition = c ∧ s.store.queue.length + s.store.waiters.length < 4
      ∧ after (exec (.conversionComplete .p 100) s) (fun t => t.pw.state == .idle && t.pw.result == .storeFailed && t.pw.rearm
          && !t.txn.inFlight && t.store == s.store) = true)
    ∧ (∀ s, s = saleWaits .storing { up with store := filledStore .idle none } → s.pw.waiting = some record
      ∧ s.store.waiters = .sale :: [] ∧ s.store.queue.length < 4
      ∧ after (exec .saleRecordHandover s) (fun t => t.store.op == .programHead && t.pw.waiting.isNone) = true)
    ∧ (∀ s c, s = saleWaits .storing (stopped c up) → c = .storeFull ∨ c = .failed → s.pw.state = .storing ∧ s.store.condition = c
      ∧ after (exec .saleRecordHandover s) (fun t => t.pw.result == .storeFailed && t.pw.rearm && t.bag.reserved == 0
          && t.store.waiters == []) = true)
    ∧ (∀ s c, s = saleWaits .detached (stopped c up) → c = .storeFull ∨ c = .failed → s.pw.state = .detached
      ∧ after (exec .saleRecordHandover s) (fun t => t.pw.result == .aborted && t.pw.rearm && t.store.waiters == []) = true) := by
  refine ⟨?_, ?_, ?_, ?_, ?_⟩
  · rintro s rfl; decide +kernel
  · rintro s c rfl (rfl | rfl) <;> decide +kernel
  · rintro s rfl; decide +kernel
  · rintro s c rfl (rfl | rfl) <;> decide +kernel
  · rintro s c rfl (rfl | rfl) <;> decide +kernel

theorem test_hyp_CommitAndReadMeetAnIdleFlash :
    (∀ s, s = { calibrating with store := filledStore .idle none } → s.store.condition ≠ .storeFull ∧ s.store.condition ≠ .failed
      ∧ after (exec (.calCommit 1) { s with cal := { s.cal with session := some { session with zc := some 0, span := some (6000, 6000000) } } })
          (fun t => t.store.op == .programHead && (t.cal.session.map (·.committing)) == some true) = true)
    ∧ (stopped .storeFull calibrating).store.condition = .storeFull ∧ (stopped .failed calibrating).store.condition = .failed
    ∧ (∀ s e, s = { up with store := filledStore .idle e } → e = none → s.store.damagedFound ≤ 65535
      ∧ (∀ m ∈ (Access.readHost 1 4294967295 1).numbers, ∀ y ∈ s.store.table, y.inUse = true → 0 < y.used → y.last < m)
      ∧ (Access.readHost 1 4294967295 1).numbers.length = 1
      ∧ after (exec (.alibiRead 1 4294967295 8) s) (fun t => t.store == s.store && t.link.tx.isSome) = true)
    ∧ (∀ s, s = { up with store := filledStore (.pulse false) (some ⟨5, 0, .pulse⟩) } →
      (∀ m ∈ (Access.readHost 1 0 1).numbers, ∀ y ∈ s.store.table, y.inUse = true → 0 < y.used → m < y.first.getD 0)
      ∧ after (exec (.alibiRead 1 0 1) s) (fun t => t.store.op == .pulse true && t.store.queue == []) = true)
    ∧ after (exec (.alibiRelease 1 128) { up with store := filledStore .idle none })
        (fun t => t.store.op == .markReleased 0 && t.store.releasePoint == 128) = true := by
  refine ⟨?_, rfl, rfl, ?_, ?_, by decide +kernel⟩
  · rintro s rfl; decide +kernel
  · rintro s e rfl rfl; decide +kernel
  · rintro s rfl; decide +kernel

/-- A fired port that a setting shuts ends a CLOSING transaction (R71, R167, R174). -/
theorem test_hyp_SettingShutsAFiredPort :
    ∀ s, s = { sale .closing up with
        txn := { (sale .closing up).txn with receipt := .printed, fired1 := true }
        drw1 := { Drawer.reset true with state := .opened, sensorOpen := true, levelHigh := true } } →
      s.txn.fired .one = true ∧ ¬ s.closes s.txn ∧ s.drw1.fitted = true ∧ s.drw1.fittedSet = true
      ∧ after (exec (.settingPut 1 7 6 1) s) (fun t => t.drw1.state == .closed && t.txn.state == .idle && t.txn.endCause == .closed) = true
      ∧ after (exec (.settingPut 1 7 1 0) s) (fun t => t.drw1.fitted == false && t.txn.state == .idle) = true
      ∧ after (exec (.settingPut 1 7 6 0) s) (fun t => t.drw1 == s.drw1 && t.txn.state == .closing) = true := by
  rintro s rfl
  refine ⟨rfl, fun h => ?_, by decide +kernel⟩
  have := h.2.2 .one rfl
  revert this
  decide

/-- Two lapses around a lone transition leave two GAP markers in a row (log entry 62). -/
theorem test_twoGapsInARow :
    (((({ entries := [], overflow := false, phase := .timing } : Stream).gap.transition 70000).gap).entries) = [none, none] := by decide

/-- Under KICK_FIRST port 1 has its cut though port 2 would fit beside the phase (log entry 63). -/
theorem test_cutComesBeforeTheOtherPort :
    after (exec (.drawerOpen 5 2 1) { kickFirst 200 false (ports .waitSupply .closed up) with
        drw2 := { Drawer.reset true with kickLoad := 100 } })
      (fun t => t.drw1.state == .kick && t.drw2.state == .waitSupply && t.supply.owed.isSome) = true := by decide +kernel
/-! ### The whole part -/

theorem test_hyp_RefusedRequestChangesNothing :
    (Instr.txnClose 4).request? = some (4, .txnClose) ∧ Result.wrongState ≠ .ok
    ∧ after (exec (.txnClose 4) up) (fun t =>
        t.link.replies == up.link.replies ++ [replyFrame Request.txnClose.kind 4 (.refuse .wrongState)]) = true := by decide +kernel

/-- A sale in tender with a receipt open, whose drawer waits for its kick. -/
def awaiting : State := fired .waitSupply .opened []

/-- The premises of the statements about every step hold there, and a step answers. -/
theorem test_hyp_EveryStepKeeps : awaiting.supplyKept ∧ awaiting.kicksKept ∧ awaiting.replyPlacesKept ∧ awaiting.buffersKept
    ∧ awaiting.captureKept ∧ awaiting.saleListsKept ∧ awaiting.printQueueKept ∧ awaiting.holdKept ∧ awaiting.readKept
    ∧ awaiting.zeroKept .p ∧ awaiting.zeroKept .b ∧ after (step { awaiting with pending := [.txnAbort 1] }) (fun _ => true) = true := by
  unfold State.supplyKept Drawer.loadKept State.kicksKept State.waitAllowed State.replyPlacesKept State.buffersKept State.captureKept
    State.saleListsKept State.printQueueKept State.holdKept State.readKept State.zeroKept
  refine ⟨?_, ?_, ?_, ?_, ?_, ?_, ?_, ?_, ?_, ?_, ?_, ?_⟩ <;> decide +kernel

/-- A record of a sale that is being programmed. -/
def storing : State := programming (.sale record) up

theorem test_hyp_EveryStepKeepsSalesPriced :
    storing.salesPriced ∧ after (step { storing with pending := [.recordProgramEnd true] }) (fun _ => true) = true := by
  refine ⟨⟨fun x hx n r h => ?_, fun r h => ?_, fun r h => by cases h⟩, by decide +kernel⟩
  · simp [storing, programming] at hx
    rcases hx with rfl | rfl | rfl <;> simp at h
  · simp [storing, programming] at h
    subst h
    exact ⟨by decide, by decide⟩

end Sys2Proof.Tests
end

namespace Sys2Proof.Machine
-- Elaborated all at once, the case analyses of these proofs exceed the thread limit of the check.
set_option Elab.async false

/-- `k` places of the reply queue are reserved beyond those that a read access or a lane reset owes (R9); a request that is being
served has one. -/
def State.owing (s : State) (k : Nat) : Prop :=
  s.link.reserved + s.link.replies.length ≤ 8
    ∧ s.link.reserved = s.store.queue.countP Access.owesReply + s.link.resetTag.isSome.toNat + k

/-- The sales and the weighing in flight fill at most 32 places and `spare` more (R73). -/
def State.salesWithin (s : State) (spare : Nat) : Prop :=
  s.txn.sales.length + s.pw.inFlight.toNat ≤ 32 + spare

/-- The bounds of the blocks beside the link carry over from a state to another; of the sales, with `spare` places more. -/
structure State.Bounds (spare : Nat) (s t : State) : Prop where
  queue : s.store.queue.length ≤ 4 → t.store.queue.length ≤ 4
  priced : s.salesPriced → t.salesPriced
  capture : s.captureKept → t.captureKept
  read : s.readKept → t.readKept
  places : s.bag.entries.length + s.bag.reserved ≤ 16 → t.bag.entries.length + t.bag.reserved ≤ 16
  bagged : s.bag.bagged.length ≤ 8 → t.bag.bagged.length ≤ 8
  sales : s.salesWithin 0 → t.salesWithin spare
  print : s.printQueueKept → t.printQueueKept
  hold : s.holdKept → t.holdKept
  zero : ∀ c, s.zeroKept c → t.zeroKept c

/-- What the serving of a request leaves: the bounds, the receive buffer and LRDY, and the reply places; `held` of them are
reserved for the request that is being served. -/
structure State.Serves (held spare : Nat) (s t : State) : Prop extends State.Bounds spare s t where
  rx : t.link.rx = s.link.rx
  lrdy : t.link.lrdy = s.link.lrdy
  owing : s.owing 0 → t.owing held

/-- What an operation inside a command leaves: besides, the lane reset under way, and the reply queue with the replies of the
reads that ended behind it, each with result OK. -/
structure State.Keeps (held spare : Nat) (s t : State) : Prop extends State.Serves held spare s t where
  resetTag : t.link.resetTag = s.link.resetTag
  replies : ∃ mid, t.link.replies = s.link.replies ++ mid ∧ ∀ f ∈ mid, f.body.head? = some 0

/-- What a command leaves: the bounds, the reply places and the receive buffer within theirs, and LRDY deasserted while bytes
stand in the buffer, if it was (R2). -/
structure State.Stays (s t : State) : Prop extends State.Bounds 0 s t where
  owing : s.owing 0 → t.owing 0
  rx : s.link.rx.length ≤ 2048 → t.link.rx.length ≤ 2048
  lrdy : s.link.lrdy = false → t.link.lrdy = true → t.link.rx = []

/-- The range of a channel's zero reads only its two zeros and its parameters (R30). -/
theorem State.zeroKept_congr {s t : State} {c : Ch} (ho : (t.ch c).zo = (s.ch c).zo) (hi : (t.ch c).zoInit = (s.ch c).zoInit)
    (hf : t.inForce c = s.inForce c) (h : s.zeroKept c) : t.zeroKept c := by
  unfold State.zeroKept State.params
  rw [ho, hi, hf]
  exact h

/-- A state keeps itself. -/
theorem State.Keeps.refl (s : State) : State.Keeps 0 0 s s where
  queue := id
  priced := id
  capture := id
  read := id
  places := id
  bagged := id
  sales := id
  print := id
  hold := id
  zero _ := id
  rx := rfl
  lrdy := rfl
  resetTag := rfl
  replies := ⟨[], by simp⟩
  owing := id

/-- A state keeps its own bounds, whatever its link. -/
theorem State.Bounds.setLink (s : State) (v : Link) : State.Bounds 0 s (s.setLink v) where
  queue := id
  priced := id
  capture := id
  read := id
  places := id
  bagged := id
  sales := id
  print := id
  hold := id
  zero _ := id

theorem State.Bounds.trans {e : Nat} {s u t : State} (h : State.Bounds 0 s u) (k : State.Bounds e u t) : State.Bounds e s t where
  queue := k.queue ∘ h.queue
  priced := k.priced ∘ h.priced
  capture := k.capture ∘ h.capture
  read := k.read ∘ h.read
  places := k.places ∘ h.places
  bagged := k.bagged ∘ h.bagged
  sales := k.sales ∘ h.sales
  print := k.print ∘ h.print
  hold := k.hold ∘ h.hold
  zero c := k.zero c ∘ h.zero c

theorem State.Stays.trans {s u t : State} (h : s.Stays u) (k : State.Serves 0 0 u t) : s.Stays t :=
  { h.toBounds.trans k.toBounds with
    owing := k.owing ∘ h.owing
    rx := by rw [k.rx]; exact h.rx
    lrdy := by rw [k.rx, k.lrdy]; exact h.lrdy }

theorem State.Serves.stays {s t : State} (h : State.Serves 0 0 s t) : s.Stays t :=
  { h with
    rx := by rw [h.rx]; exact id
    lrdy := by rw [h.lrdy]; exact fun hf ht => absurd (hf.symm.trans ht) (by decide) }

namespace State.Keeps

variable {g e : Nat} {s u : State}

/-! ### The setters of blocks that no bound names -/

theorem setClock (h : Keeps g e s u) (v : Nat) : Keeps g e s (u.setClock v) := { h with }
theorem setSupply (h : Keeps g e s u) (v : Supply) : Keeps g e s (u.setSupply v) := { h with }
theorem setDrw (h : Keeps g e s u) (p : Port) (v : Drawer) : Keeps g e s (u.setDrw p v) := by cases p <;> exact { h with }
theorem setNoSale (h : Keeps g e s u) (v : Nat) : Keeps g e s (u.setNoSale v) := { h with }
theorem setAttn (h : Keeps g e s u) (v : Attention) : Keeps g e s (u.setAttn v) := { h with }

/-! ### The setters of the blocks that the bounds name -/

/-- Of the link, anything but the receive buffer, LRDY and the reply queue. -/
theorem setLink (h : Keeps g e s u) {v : Link} (hrx : v.rx = u.link.rx := by rfl) (hl : v.lrdy = u.link.lrdy := by rfl)
    (hq : v.replies = u.link.replies := by rfl) (hr : v.reserved = u.link.reserved := by rfl)
    (ht : v.resetTag = u.link.resetTag := by rfl) : Keeps g e s (u.setLink v) :=
  { h with
    rx := hrx.trans h.rx
    lrdy := hl.trans h.lrdy
    resetTag := ht.trans h.resetTag
    replies := by simpa [hq] using h.replies
    owing := fun hk => by simpa [State.owing, hq, hr, ht] using h.owing hk }

/-- A channel whose zero offset stays within its range. -/
theorem setCh (h : Keeps g e s u) (c : Ch) {v : Channel}
    (hz : u.zeroKept c → (v.zo - v.zoInit).natAbs ≤ 20 * ((u.params c).max : Int) := by exact id) : Keeps g e s (u.setCh c v) := by
  have hzero : ∀ d, u.zeroKept d → (u.setCh c v).zeroKept d := by
    intro d hd
    cases c <;> cases d
    · exact hz hd
    · exact hd
    · exact hd
    · exact hz hd
  cases c <;> exact { h with zero := fun d hd => hzero d (h.zero d hd) }

/-- Of the calibration unit, anything but the calibrations in force. -/
theorem setCal (h : Keeps g e s u) {v : Calib} (hp : v.inForceP = u.cal.inForceP := by rfl)
    (hb : v.inForceB = u.cal.inForceB := by rfl) : Keeps g e s (u.setCal v) :=
  { h with
    zero := fun c hc => State.zeroKept_congr (by cases c <;> rfl) (by cases c <;> rfl)
      (by cases c <;> assumption) (h.zero c hc) }

/-- A transaction with as many sales. -/
theorem setTxn (h : Keeps g e s u) {v : Txn} (hs : v.sales.length = u.txn.sales.length := by rfl) : Keeps g e s (u.setTxn v) :=
  { h with sales := fun hk => by simpa [State.salesWithin, hs] using h.sales hk }

/-- A priced-weighing unit with no new waiting record that has no more weighings in flight. -/
theorem setPw (h : Keeps g e s u) {v : Pricing} (hw : ∀ r, v.waiting = some r → u.pw.waiting = some r := by exact fun _ => id)
    (hf : v.inFlight = true → u.pw.inFlight = true := by simp [Pricing.inFlight]) : Keeps g e s (u.setPw v) :=
  { h with
    priced := fun hk => ⟨(h.priced hk).1, (h.priced hk).2.1, fun r hr => (h.priced hk).2.2 r (hw r hr)⟩
    sales := fun hk => by
      have hle : v.inFlight.toNat ≤ u.pw.inFlight.toNat := Bool.toNat_le_toNat hf
      exact (Nat.add_le_add_left hle _).trans (h.sales hk) }

/-- A store with the same accesses. -/
theorem setStore (h : Keeps g e s u) {v : Store} (hq : v.queue = u.store.queue := by rfl) : Keeps g e s (u.setStore v) :=
  { h with
    queue := fun hk => by simpa [hq] using h.queue hk
    priced := fun hk => by simpa [State.salesPriced, hq] using h.priced hk
    owing := fun hk => by simpa [State.owing, hq] using h.owing hk }

/-- A flash array with priced records. -/
theorem setFlash (h : Keeps g e s u) {v : List FlashSector}
    (hf : u.salesPriced → ∀ x ∈ v, ∀ n r, UsedSlot.record n r ∈ x.slots → r.priced) : Keeps g e s (u.setFlash v) :=
  { h with priced := fun hk => ⟨hf (h.priced hk), (h.priced hk).2⟩ }

/-- A verifier within its places that holds an exception exactly in HOLD. -/
theorem setBag (h : Keeps g e s u) {v : Bag}
    (hl : u.bag.entries.length + u.bag.reserved ≤ 16 → v.entries.length + v.reserved ≤ 16 := by exact id)
    (hb : u.bag.bagged.length ≤ 8 → v.bagged.length ≤ 8 := by exact id)
    (hh : u.holdKept → (v.state = .hold ↔ v.kind ≠ .none) := by exact id) : Keeps g e s (u.setBag v) :=
  { h with
    places := fun hk => hl (h.places hk)
    bagged := fun hk => hb (h.bagged hk)
    hold := fun hk => hh (h.hold hk) }

/-- A card reader whose streams are within their places, with a hold timer exactly with a held read. -/
theorem setCard (h : Keeps g e s u) {v : Card}
    (hc : u.captureKept → v.streams.within = true ∧ v.decoder.all Streams.within = true := by exact id)
    (hr : u.readKept → v.held.isSome = v.holdTimer.isSome := by exact id) : Keeps g e s (u.setCard v) :=
  { h with
    capture := fun hk => hc (h.capture hk)
    read := fun hk => hr (h.read hk) }

/-- A printer with some of the records queued. -/
theorem setPrn (h : Keeps g e s u) {v : Printer} (hq : v.queue.Sublist u.prn.queue := by exact .refl _) :
    Keeps g e s (u.setPrn v) :=
  { h with
    print := fun hk => by
      obtain ⟨hl, hr⟩ := h.print hk
      exact ⟨hq.length_le.trans hl, (Nat.mul_le_mul_left 80 (hq.countP_le)).trans hr⟩ }

/-- A choice between two states. -/
theorem ite {c : Prop} [Decidable c] {t : State} (ht : c → Keeps g e s t) (hu : ¬ c → Keeps g e s u) :
    Keeps g e s (if c then t else u) := by
  split
  · exact ht ‹_›
  · exact hu ‹_›

end State.Keeps

@[simp] theorem Pricing.shiftReference_waiting (x : Pricing) (a b : Int) : (x.shiftReference a b).waiting = x.waiting := by
  unfold Pricing.shiftReference; split <;> rfl
@[simp] theorem Pricing.shiftReference_state (x : Pricing) (a b : Int) : (x.shiftReference a b).state = x.state := by
  unfold Pricing.shiftReference; split <;> rfl
@[simp] theorem Pricing.shiftReference_inFlight (x : Pricing) (a b : Int) : (x.shiftReference a b).inFlight = x.inFlight := by
  simp [Pricing.inFlight]

/-- The choice of an idle transmitter touches only the transmitter and the slots. -/
@[simp] theorem Link.choose_keeps (l : Link) :
    l.choose.rx = l.rx ∧ l.choose.lrdy = l.lrdy ∧ l.choose.replies = l.replies ∧ l.choose.reserved = l.reserved
      ∧ l.choose.resetTag = l.resetTag := by
  unfold Link.choose
  (repeat' split) <;> simp

namespace State.Keeps

variable {g e : Nat} {s u : State}

/-! ### The shared operations -/

theorem atExpiry (h : Keeps g e s u) (t : Timer) : Keeps g e s (u.atExpiry t) := h.setClock _

theorem raise (h : Keeps g e s u) (k : Slot) (body : List Byte) : Keeps g e s (u.raise k body) :=
  ite (fun _ => h.setLink) fun _ => h

theorem setNotices (h : Keeps g e s u) (mask : BitVec 10) (weightB : Bool) : Keeps g e s (u.setNotices mask weightB) := h.setLink

theorem chooseFrame (h : Keeps g e s u) : Keeps g e s u.chooseFrame := h.setLink (by simp) (by simp) (by simp) (by simp) (by simp)

/-- A place is reserved for a request that is taken. -/
theorem reservePlace (h : Keeps g e s u) (hm : u.link.mayTake = true) : Keeps (g + 1) e s u.reservePlace :=
  { h with
    owing := fun hk => by
      have hfree : u.link.reserved + u.link.replies.length < 8 := by
        simp only [Link.mayTake, Link.placeFree, Config.replyPlaces, Bool.and_eq_true] at hm
        exact of_decide_eq_true hm.1
      obtain ⟨-, hr⟩ := h.owing hk
      exact ⟨by simp only [State.reservePlace, State.setLink_link]; omega,
        by simp only [State.reservePlace, State.setLink_link, State.setLink_store]; omega⟩ }

/-- A reply with result OK fills a place that is held. -/
theorem reply (h : Keeps (g + 1) e s u) (kind : Nat) (tag : Byte) (fields : List Byte) :
    Keeps g e s (u.reply kind tag (.accept fields)) :=
  { h with
    replies := by
      obtain ⟨mid, hm, hok⟩ := h.replies
      refine ⟨mid ++ [replyFrame kind tag (.accept fields)], by simp [State.reply, State.pushReply, hm], ?_⟩
      intro f hf
      rcases List.mem_append.1 hf with hf | hf
      · exact hok f hf
      · simp only [List.mem_singleton] at hf
        subst hf
        rfl
    owing := fun hk => by
      obtain ⟨hl, hr⟩ := h.owing hk
      refine ⟨?_, ?_⟩ <;> simp only [State.reply, State.pushReply, State.setLink_link, State.setLink_store,
        List.length_append, List.length_singleton] <;> omega }

/-! ### Weighing channels and calibration -/

theorem raiseWeight (h : Keeps g e s u) (c : Ch) : Keeps g e s (u.raiseWeight c) :=
  ite (fun _ => h) fun _ => (h.setCh c).raise _ _

theorem setTare (h : Keeps g e s u) (mg : Int) : Keeps g e s (u.setTare mg) :=
  ite (fun _ => h) fun _ => ((h.setPw (hw := by simp) (hf := by simp)).setCh .p).raiseWeight .p

end State.Keeps

/-- A move leaves both zeros of the channel as they are, or makes both 0 (R21). -/
theorem Channel.moved_zeros (x : Channel) (target : ChState) (nChanged : Bool) :
    (x.moved target nChanged).zo = x.zo ∧ (x.moved target nChanged).zoInit = x.zoInit ∧ target ≠ .noZero
      ∨ (x.moved target nChanged).zo = 0 ∧ (x.moved target nChanged).zoInit = 0 ∧ target = .noZero := by
  by_cases ht : target = .noZero <;> simp only [Channel.moved, ht] <;> (repeat' split) <;> simp_all

@[simp] theorem State.setCal_ch (v : Calib) (c : Ch) (s : State) : (s.setCal v).ch c = s.ch c := by cases c <;> rfl
@[simp] theorem State.setCh_inForce (c : Ch) (v : Channel) (d : Ch) (s : State) : (s.setCh c v).inForce d = s.inForce d := by
  cases c <;> cases d <;> rfl
theorem State.setCh_ch_of_ne (s : State) {c d : Ch} (h : d ≠ c) (v : Channel) : (s.setCh c v).ch d = s.ch d := by
  cases c <;> cases d <;> simp_all [State.setCh, State.ch]

/-- A channel whose two zeros are 0 is within its range (R30). -/
theorem zero_within (p : Params) {zo zoInit : Int} (ho : zo = 0) (hi : zoInit = 0) : ((zo - zoInit).natAbs : Int) ≤ 20 * (p.max : Int) := by
  subst ho hi
  simp

namespace State.Keeps

variable {g e : Nat} {s u : State}

/-- The acts of a move behind the channel's own change (R21, R45). -/
theorem moved (c : Ch) (target : ChState) (nChanged : Bool)
    (h : Keeps g e s (u.setCh c ((u.ch c).moved target nChanged))) : Keeps g e s (u.moveChannel c target nChanged) :=
  let tare := ite (fun _ => h.setTare 0) fun _ => h
  ite (fun _ => tare) fun _ => raiseWeight tare c

theorem moveChannel (h : Keeps g e s u) (c : Ch) (target : ChState) (nChanged : Bool) :
    Keeps g e s (u.moveChannel c target nChanged) := by
  refine moved c target nChanged (h.setCh c ?_)
  rcases Channel.moved_zeros (u.ch c) target nChanged with ⟨ho, hi, -⟩ | ⟨ho, hi, -⟩
  · rw [ho, hi]; exact id
  · exact fun _ => zero_within _ ho hi

/-- A channel that takes a calibration goes to NO_ZERO, with both zeros 0 (R21, R56, R61). -/
theorem installed (h : Keeps g e s u) (c : Ch) {v : Calib} (nChanged : Bool)
    (hv : ∀ d, d ≠ c → (u.setCal v).inForce d = u.inForce d) : Keeps g e s ((u.setCal v).moveChannel c .noZero nChanged) := by
  have hz : ∀ d, u.zeroKept d → ((u.setCal v).setCh c (((u.setCal v).ch c).moved .noZero nChanged)).zeroKept d := by
    intro d hd
    by_cases hdc : d = c
    · subst hdc
      rcases Channel.moved_zeros ((u.setCal v).ch d) .noZero nChanged with ⟨-, -, hn⟩ | ⟨ho, hi, -⟩
      · exact absurd rfl hn
      · simp only [State.zeroKept, State.setCh_ch]
        exact zero_within _ ho hi
    · refine State.zeroKept_congr ?_ ?_ ((State.setCh_inForce ..).trans (hv d hdc)) hd
      · rw [State.setCh_ch_of_ne _ hdc, State.setCal_ch]
      · rw [State.setCh_ch_of_ne _ hdc, State.setCal_ch]
  refine moved c .noZero nChanged ?_
  cases c <;> exact { h with zero := fun d hd => hz d (h.zero d hd) }

end State.Keeps

/-- The end of a fault, a sample and a reading leave the zeros of a channel, or the initial zero takes both (R23, R25, R29). -/
theorem Channel.leaveFault_zeros (x : Channel) : x.leaveFault.zo = x.zo ∧ x.leaveFault.zoInit = x.zoInit := by
  unfold Channel.leaveFault
  split <;> simp

theorem Channel.initialZero_zeros (x : Channel) (p : Params) (stable : Bool) (w : Int) :
    (x.initialZero p stable w).zo = x.zo ∧ (x.initialZero p stable w).zoInit = x.zoInit
      ∨ (x.initialZero p stable w).zo = w ∧ (x.initialZero p stable w).zoInit = w := by
  unfold Channel.initialZero
  split <;> simp

theorem Channel.formReading_zeros (x : Channel) (p : Params) (scale : Int → Int) (track : Timer) (a : Int) :
    (x.formReading p scale track a).zo = x.zo ∧ (x.formReading p scale track a).zoInit = x.zoInit
      ∨ (x.formReading p scale track a).zo = scale a ∧ (x.formReading p scale track a).zoInit = scale a :=
  Channel.initialZero_zeros _ _ _ _

/-- A value held between two limits around a centre is within their distance of it. -/
theorem natAbs_clamp_sub_le (z v : Int) (r : Nat) : ((max (z - r) (min (z + r) v) - z).natAbs : Int) ≤ r := by omega

/-- A tare changes nothing of the request in progress but its reference (R84). -/
@[simp] theorem State.setTare_pw_state (mg : Int) (s : State) : (s.setTare mg).pw.state = s.pw.state := by
  simp only [State.setTare]
  split <;> simp

namespace State.Keeps
variable {g e : Nat} {s u : State}

/-! ### Weighing channels -/

theorem reqZero (h : Keeps g e s u) (c : Ch) : Keeps g e s (reqZero c u).1 := by
  fun_cases Machine.reqZero c u
  case case6 hrange _ =>
    refine (h.setCh c fun _ => ?_).raiseWeight c
    simp only [not_or, not_lt] at hrange
    exact hrange.2
  all_goals exact h

theorem reqTare (h : Keeps g e s u) (action : Nat) (value : Int) : Keeps g e s (reqTare action value u).1 := by
  fun_cases Machine.reqTare action value u
  · fun_cases Machine.tareSemi u
    case case5 => exact h.setTare _
    all_goals exact h
  · fun_cases Machine.tarePreset value u
    case case4 => exact h.setTare _
    all_goals exact h
  · fun_cases Machine.tareClear u
    · exact h
    · exact h.setTare _

theorem convert (h : Keeps g e s u) (c : Ch) (r : Int) : Keeps g e s (u.convert c r) := by
  refine h.setCh c fun hz => ?_
  have hl := Channel.leaveFault_zeros (u.ch c)
  split
  · rcases Channel.formReading_zeros _ _ _ _ _ with hf | hf
    · rw [hf.1, hf.2]
      simpa [State.zeroKept, Channel.addSample, hl] using hz
    · simp [hf.1, hf.2]
  · simpa [State.zeroKept, Channel.addSample, hl] using hz

theorem enterFault (h : Keeps g e s u) (c : Ch) : Keeps g e s (u.enterFault c) := (h.setCh c).raiseWeight c

theorem trackZero (h : Keeps g e s u) (c : Ch) : Keeps g e s (u.trackZero c) := by
  refine (h.setCh c fun _ => ?_).raiseWeight c
  have := natAbs_clamp_sub_le (u.ch c).zoInit ((u.ch c).zo + u.latestGross c) (20 * (u.params c).max)
  simpa [Params.zeroRange] using this

theorem evTrackingStep (h : Keeps g e s u) (c : Ch) : Keeps g e s (evTrackingStep c u) := by
  fun_cases Machine.evTrackingStep c u
  · exact (h.atExpiry _).trackZero c
  · exact h

/-! ### The calibration unit -/

theorem raiseCal (h : Keeps g e s u) (event : CalEvent) (cause : Cause) : Keeps g e s (u.raiseCal event cause) := h.raise _ _

theorem endSession (h : Keeps g e s u) (x : Session) : Keeps g e s (u.endSession x) := (h.setCal).moveChannel _ _ _

theorem commitWritten (h : Keeps g e s u) (number : Nat) (r : CalFields) : Keeps g e s (u.commitWritten number r) := by
  fun_cases State.commitWritten number r u
  · exact h
  · refine (h.installed _ _ fun d hd => ?_).raiseCal _ _
    cases hc : r.channel <;> cases d <;> simp_all [Calib.install, State.inForce]

theorem commitFailed (h : Keeps g e s u) : Keeps g e s u.commitFailed := by
  fun_cases State.commitFailed u
  · exact h
  · exact (h.endSession _).raiseCal _ _
  · exact (h.setCal).raiseCal _ _

theorem resetSession (h : Keeps g e s u) : Keeps g e s u.resetSession := by
  fun_cases State.resetSession u
  · exact h
  · exact h.setCal
  · exact (h.endSession _).raiseCal _ _

/-! ### Attention outputs -/

theorem assertSource (h : Keeps g e s u) (k : SourceName) : Keeps g e s (u.assertSource k) := h.setAttn _
theorem endSource (h : Keeps g e s u) (k : SourceName) : Keeps g e s (u.endSource k) := h.setAttn _
theorem releaseSource (h : Keeps g e s u) (k : SourceName) (b : Bool) : Keeps g e s (u.releaseSource k b) :=
  ite (fun _ => h) fun _ => h.endSource k
theorem endBeep (h : Keeps g e s u) : Keeps g e s u.endBeep := (h.endSource _).setAttn _
theorem pulseAccept (h : Keeps g e s u) : Keeps g e s u.pulseAccept := (h.assertSource _).setAttn _
theorem reqAttnSilence (h : Keeps g e s u) : Keeps g e s (reqAttnSilence u).1 := h.setAttn _

theorem reqAttnBeep (h : Keeps g e s u) (count pitch : Nat) : Keeps g e s (reqAttnBeep count pitch u).1 := by
  fun_cases Machine.reqAttnBeep count pitch u
  · exact (h.assertSource _).setAttn _
  · exact h

theorem evHostBeepEnd (h : Keeps g e s u) : Keeps g e s (evHostBeepEnd u) := by
  fun_cases Machine.evHostBeepEnd u
  · exact h
  · exact (h.atExpiry _).endBeep

theorem evAcceptEnd (h : Keeps g e s u) : Keeps g e s (evAcceptEnd u) := by
  fun_cases Machine.evAcceptEnd u
  · exact h
  · exact ((h.atExpiry _).endSource _).setAttn _

/-! ### The transaction context -/

theorem addBagSkip (h : Keeps g e s u) (n : Nat) : Keeps g e s (u.addBagSkip n) := h.setTxn
theorem raiseTxn (h : Keeps g e s u) : Keeps g e s u.raiseTxn := h.raise _ _
theorem applyEnable (h : Keeps g e s u) : Keeps g e s u.applyEnable := h.setBag
theorem txnToIdle (h : Keeps g e s u) (cause : EndCause) : Keeps g e s (u.txnToIdle cause) := (h.setTxn).applyEnable
theorem examineClosing (h : Keeps g e s u) : Keeps g e s u.examineClosing := ite (fun _ => h.txnToIdle _) fun _ => h
theorem setReceipt (h : Keeps g e s u) (r : ReceiptState) : Keeps g e s (u.setReceipt r) := (h.setTxn).examineClosing
theorem cancelReceiptState (h : Keeps g e s u) : Keeps g e s u.cancelReceiptState := ite (fun _ => h.setReceipt _) fun _ => h
theorem portChanged (h : Keeps g e s u) (p : Port) : Keeps g e s (u.portChanged p) := ite (fun _ => h.examineClosing) fun _ => h

end State.Keeps

/-- A request that has ended is not in flight (R79). -/
@[simp] theorem Pricing.ended_inFlight (x : Pricing) (result : PwResult) (reason : PwReason) (alibi : Nat) :
    (x.ended result reason alibi).inFlight = false := rfl

/-! ### The entries of the verifier -/

/-- A place is free while the entries and the reservations are fewer than 16 (R120). -/
theorem Bag.placesFull_eq_false (b : Bag) : b.placesFull = false ↔ b.entries.length + b.reserved < 16 := by
  rw [Bag.placesFull, decide_eq_false_iff_not, not_le, Config.expectPlaces]

@[simp] theorem markHeld_length (held : Option Nat) (l : List Expect) : (markHeld held l).length = l.length := by
  simp [markHeld]

theorem dropAt_length_le (l : List Expect) (at_ : List Nat) : (dropAt l at_).length ≤ l.length := by
  simpa [dropAt] using List.length_filter_le (fun x : Expect × Nat => !at_.contains x.2) l.zipIdx

theorem dropBagged_length_le (ref : Nat) (l : List Bagged) : (dropBagged ref l).length ≤ l.length :=
  List.length_eraseP_le

namespace State.Keeps
variable {g e : Nat} {s u : State}

theorem raiseBag (h : Keeps g e s u) : Keeps g e s u.raiseBag := h.raise _ _

/-- An exception other than NONE is held in HOLD (R118, R132). -/
theorem beginHold (h : Keeps g e s u) {kind : ExceptionKind} (delta : Int) (ref held : Option Nat)
    (hk : kind ≠ .none := by exact nofun) : Keeps g e s (u.beginHold kind delta ref held) :=
  have hb := h.setBag (v := { u.bag with
    state := .hold, kind := kind, delta := delta, ref := ref, entries := markHeld held u.bag.entries })
    (by simp) (hh := fun _ => by simpa using hk)
  ite (fun _ => hb) fun _ => hb.assertSource _

theorem holdNotPlaced (h : Keeps g e s u) (i : Nat) : Keeps g e s (u.holdNotPlaced i) := h.beginHold _ _ _

theorem clearHold (h : Keeps g e s u) : Keeps g e s u.clearHold := by
  have hb := (h.setBag (v := { u.bag with
    state := .watching, kind := .none, delta := 0, ref := none, entries := markHeld none u.bag.entries })
    (by simp) (hh := fun _ => by simp)).endSource .bagHold
  unfold State.clearHold
  dsimp only
  split
  · exact hb.holdNotPlaced _
  · exact hb

theorem chirp (h : Keeps g e s u) : Keeps g e s u.chirp := ite (fun _ => h.pulseAccept) fun _ => h

/-- Entries leave the queue, and nothing is reserved anew. -/
theorem dropEntries (h : Keeps g e s u) {v : Bag} (hl : v.entries.length ≤ u.bag.entries.length)
    (hr : v.reserved ≤ u.bag.reserved := by exact le_refl _)
    (hb : u.bag.bagged.length ≤ 8 → v.bagged.length ≤ 8 := by exact id)
    (hh : u.holdKept → (v.state = .hold ↔ v.kind ≠ .none) := by exact id) : Keeps g e s (u.setBag v) :=
  h.setBag (by omega) hb hh

theorem acceptIncrease (h : Keeps g e s u) (at_ : List Nat) (gross : Int) : Keeps g e s (u.acceptIncrease at_ gross) :=
  (h.dropEntries (dropAt_length_le _ _) (hb := fun _ => List.length_take_le _ _)).chirp

theorem decrease (h : Keeps g e s u) (d gross : Int) : Keeps g e s (u.decrease d gross) := by
  fun_cases State.decrease d gross u
  · exact (h.dropEntries (dropAt_length_le _ _) (hb := (dropBagged_length_le _ _).trans)).chirp
  · exact h.beginHold _ _ _

theorem watch (h : Keeps g e s u) (r : Report) : Keeps g e s (u.watch r) := by
  fun_cases State.watch r u
  · exact h.beginHold _ _ _
  · exact h.beginHold _ _ _
  · exact h.acceptIncrease _ _
  · exact h.decrease _ _
  · exact h

theorem watchHold (h : Keeps g e s u) (r : Report) : Keeps g e s (u.watchHold r) := by
  fun_cases State.watchHold r u
  case case2 => exact h.clearHold.watch _
  case case3 | case5 | case8 => exact h.clearHold
  case case4 | case7 | case10 => exact h.beginHold _ _ _
  case case12 => exact (h.acceptIncrease _ _).clearHold
  case case13 => exact h.acceptIncrease _ _
  all_goals exact h

theorem bagReading (h : Keeps g e s u) : Keeps g e s u.bagReading := by
  fun_cases State.bagReading u
  · exact h
  · exact h.watch _
  · exact h.watchHold _

theorem bagFault (h : Keeps g e s u) : Keeps g e s u.bagFault := ite (fun _ => h) fun _ => h.beginHold _ _ _
theorem bagFaultEnd (h : Keeps g e s u) : Keeps g e s u.bagFaultEnd := ite (fun _ => h.clearHold) fun _ => h

/-- A place is reserved where one is free (R120, R121). -/
theorem reserveSlot (h : Keeps g e s u) (hf : u.bag.placesFull = false) : Keeps g e s u.reserveSlot := by
  rw [Bag.placesFull_eq_false] at hf
  exact h.setBag (by dsimp only; omega)

theorem releaseSlot (h : Keeps g e s u) : Keeps g e s u.releaseSlot := h.dropEntries le_rfl (Nat.zero_le _)

theorem convertSlot (h : Keeps g e s u) (ref : Nat) (expected tolerance : Int) :
    Keeps g e s (u.convertSlot ref expected tolerance) := by
  refine ite (fun _ => h) fun hr => h.setBag ?_
  simp only [List.length_append, List.length_singleton]
  omega

theorem bagBegin (h : Keeps g e s u) (gross : Int) : Keeps g e s (u.bagBegin gross) := h.setBag id (by simp) (by simp)

theorem bagOpenDisabled (h : Keeps g e s u) : Keeps g e s u.bagOpenDisabled :=
  have hb := h.setBag (v := { u.bag with bagged := [] }) id (by simp)
  ite (fun _ => hb.raiseBag) fun _ => hb

theorem bagEnd (h : Keeps g e s u) : Keeps g e s u.bagEnd :=
  ite (fun _ => h) fun _ => (h.setBag (by simp) (hh := by simp)).endSource _

theorem dropSkippable (h : Keeps g e s u) : Keeps g e s u.dropSkippable :=
  (h.dropEntries (List.length_filter_le _ _)).addBagSkip _

theorem bagReset (h : Keeps g e s u) : Keeps g e s u.bagReset := h.bagEnd.setBag id (by simp)

theorem evDeadlineExpiry (h : Keeps g e s u) (index : Nat) : Keeps g e s (evDeadlineExpiry index u) := by
  fun_cases Machine.evDeadlineExpiry index u
  · exact h
  · exact h
  · have ha := h.atExpiry ‹Expect›.deadline
    refine raiseBag (ite (fun _ => (ha.dropEntries (dropAt_length_le _ _)).addBagSkip _) fun _ => ?_)
    have hb := ha.dropEntries (v := { (u.atExpiry ‹Expect›.deadline).bag with
      entries := (u.atExpiry ‹Expect›.deadline).bag.entries.set index { ‹Expect› with deadline := none, overdue := true } })
      (by simp)
    exact ite (fun _ => hb.holdNotPlaced _) fun _ => hb

/-- An entry joins the queue where a place is free (R120). -/
theorem addEntry (h : Keeps g e s u) (x : Expect) (hf : u.bag.placesFull = false) :
    Keeps g e s (u.setBag { u.bag with entries := u.bag.entries ++ [x] }) := by
  rw [Bag.placesFull_eq_false] at hf
  exact h.setBag (by simp only [List.length_append, List.length_singleton]; omega)

theorem reqExpectAdd (h : Keeps g e s u) (ref : Nat) (weight tolerance : Int) (flags : Nat) :
    Keeps g e s (reqExpectAdd ref weight tolerance flags u).1 := by
  fun_cases Machine.reqExpectAdd ref weight tolerance flags u
  case case5 hf _ => exact h.addEntry _ (by simpa using hf)
  all_goals exact h

theorem withdraw (h : Keeps g e s u) (i : Nat) (x : Expect) : Keeps g e s (u.withdraw i x) :=
  have hb := h.dropEntries (v := { u.bag with entries := dropAt u.bag.entries [i] }) (dropAt_length_le _ _)
  ite (fun _ => hb.clearHold) fun _ => hb

theorem reqExpectRemove (h : Keeps g e s u) (ref : Nat) (weight tolerance : Int) :
    Keeps g e s (reqExpectRemove ref weight tolerance u).1 := by
  fun_cases Machine.reqExpectRemove ref weight tolerance u
  case case4 => exact h.withdraw _ _
  case case7 hf _ => exact h.addEntry _ (by simpa using hf)
  all_goals exact h

theorem reqBagClear (h : Keeps g e s u) : Keeps g e s (reqBagClear u).1 := by
  fun_cases Machine.reqBagClear u
  case case5 =>
    have hb := h.setBag (v := { u.bag with baseline := (u.report .b).gross })
    exact clearHold (ite (fun _ => (hb.dropEntries (List.length_filter_le _ _)).addBagSkip _) fun _ => hb)
  all_goals exact h

theorem reqBagSkip (h : Keeps g e s u) (ref : Nat) : Keeps g e s (reqBagSkip ref u).1 := by
  fun_cases Machine.reqBagSkip ref u
  case case4 => exact (h.addBagSkip 1).withdraw _ _
  all_goals exact h

/-! ### The supply arbiter and the dot lines -/

theorem grantKick (h : Keeps g e s u) (p : Port) : Keeps g e s (u.grantKick p) := (h.setDrw _ _).portChanged p
theorem cutPhase (h : Keeps g e s u) (ph : Phase) : Keeps g e s (u.cutPhase ph) := (h.setSupply _).setPrn

theorem servePort (h : Keeps g e s u) (p : Port) : Keeps g e s (u.servePort p) := by
  fun_cases State.servePort p u
  case case2 => exact h.grantKick p
  case case4 => exact (h.cutPhase _).grantKick p
  all_goals exact h

theorem servePorts (h : Keeps g e s u) : Keeps g e s u.servePorts := (h.servePort _).servePort _
theorem testBudget (h : Keeps g e s u) : Keeps g e s u.testBudget := ite (fun _ => h.setSupply _) fun _ => h
theorem suspend (h : Keeps g e s u) : Keeps g e s u.suspend := h.setPrn

theorem claimOwed (h : Keeps g e s u) (ph : Phase) : Keeps g e s (u.claimOwed ph) :=
  ite (fun _ => (h.setSupply _).setPrn) fun _ => h.setPrn

theorem advance (h : Keeps g e s u) (l : Line) : Keeps g e s (u.advance l) := h.setPrn

theorem plan (h : Keeps g e s u) (l : Line) : Keeps g e s (u.plan l) := by
  have hs : Keeps g e s u.sampleSupply := h.setPrn
  fun_cases State.plan l u
  · exact hs.suspend
  · exact hs.setPrn
  · exact (hs.setSupply _).setPrn

theorem phaseStart (h : Keeps g e s u) : Keeps g e s u.phaseStart := by
  fun_cases State.phaseStart u
  · exact h.claimOwed _
  · exact h
  · exact h.advance _
  · exact h.plan _

theorem lineStart (h : Keeps g e s u) (loads : List Nat) : Keeps g e s (u.lineStart loads) :=
  have hs : Keeps g e s u.sampleTemp := h.setPrn
  (hs.setPrn).phaseStart

theorem feedLine (h : Keeps g e s u) : Keeps g e s u.feedLine := h.advance _

theorem workLine (h : Keeps g e s u) (w : Work) : Keeps g e s (u.workLine w) := by
  cases w
  · exact h.lineStart _
  · exact h.feedLine
  · exact h
  · exact h.lineStart _
  · exact h

theorem offerPrinter (h : Keeps g e s u) : Keeps g e s u.offerPrinter := ite (fun _ => h.phaseStart) fun _ => h
theorem afterRelease (h : Keeps g e s u) : Keeps g e s u.afterRelease := h.servePorts.offerPrinter.testBudget
theorem withdrawOwed (h : Keeps g e s u) : Keeps g e s u.withdrawOwed := (h.setSupply _).testBudget
theorem takeTurn (h : Keeps g e s u) : Keeps g e s u.takeTurn := ite (fun _ => h.phaseStart.testBudget) fun _ => h

theorem evStrobePhaseEnd (h : Keeps g e s u) : Keeps g e s (evStrobePhaseEnd u) := by
  fun_cases Machine.evStrobePhaseEnd u
  · exact h
  · exact servePorts ((h.setSupply _).setPrn) |>.suspend.testBudget
  · exact servePorts ((h.setSupply _).setPrn) |>.setPrn
  · exact servePorts ((h.setSupply _).setPrn) |>.phaseStart.testBudget

theorem lineResult (h : Keeps g e s u) (x : ReadEntry) : Keeps g e s (u.lineResult x) := by
  fun_cases State.lineResult x u
  · exact h.setPrn
  · exact (h.setPrn).lineStart _
  · exact h

/-! ### The end of a priced weighing -/

theorem raisePrice (h : Keeps g e s u) : Keeps g e s u.raisePrice := h.raise _ _
theorem clearInFlight (h : Keeps g e s u) : Keeps g e s u.clearInFlight := h.setTxn

theorem endRequest (h : Keeps g e s u) (result : PwResult) (reason : PwReason) : Keeps g e s (u.endRequest result reason) :=
  have hr : Keeps g e s (if u.pw.reserved then u.releaseSlot else u) := ite (fun _ => h.releaseSlot) fun _ => h
  (hr.setPw (hf := by simp)).clearInFlight.raisePrice

/-- A sale joins the list; one place more than the list has may be in use until its weighing ends. -/
theorem addSale (h : Keeps g e s u) {v : Txn} (hs : v.sales.length = u.txn.sales.length + 1) : Keeps g (e + 1) s (u.setTxn v) :=
  { h with
    sales := fun hk => by
      have := h.sales hk
      simp only [State.salesWithin, State.setTxn_txn, State.setTxn_pw, hs] at this ⊢
      omega }

/-- A weighing in flight ends, and its place is free (R73, R76). -/
theorem weighingEnds (h : Keeps g (e + 1) s u) {v : Pricing} (hi : u.pw.inFlight = true)
    (hw : ∀ r, v.waiting = some r → u.pw.waiting = some r := by exact fun _ => id) (hf : v.inFlight = false := by rfl) : Keeps g e s (u.setPw v) :=
  { h with
    priced := fun hk => ⟨(h.priced hk).1, (h.priced hk).2.1, fun r hr => (h.priced hk).2.2 r (hw r hr)⟩
    sales := fun hk => by
      have := h.sales hk
      simp only [State.salesWithin, State.setPw_txn, State.setPw_pw, hi, hf, Bool.toNat_true, Bool.toNat_false] at this ⊢
      omega }

/-- A weighing that is written joins the list in the place kept for it (R73, R90). -/
theorem saleWritten (h : Keeps g e s u) (number : Nat) : Keeps g e s (u.saleWritten number) := by
  fun_cases State.saleWritten number u
  · next l _ hst s₁ s₂ s₃ s₄ =>
    have h₁ : Keeps g (e + 1) s s₁ := h.addSale (by simp)
    have h₂ : Keeps g (e + 1) s s₂ := ite (fun _ => h₁.convertSlot _ _ _) fun _ => h₁
    have h₃ : Keeps g (e + 1) s s₃ := ite (fun _ => h₂.setTare 0) fun _ => h₂
    have hp₂ : s₂.pw.state = .storing := by simp only [s₂]; split <;> simpa [s₁] using hst
    have hp₃ : s₃.pw.state = .storing := by simp only [s₃]; split <;> simpa using hp₂
    exact (h₃.clearInFlight.weighingEnds (by simp [Pricing.inFlight, hp₃])).raisePrice
  · exact (h.setPw (hf := by simp)).raisePrice
  · exact h

theorem saleFailed (h : Keeps g e s u) : Keeps g e s u.saleFailed := by
  fun_cases State.saleFailed u
  · exact (h.setPw).endRequest _ _
  · exact (h.setPw (hf := by simp)).raisePrice
  · exact h

theorem abortRequest (h : Keeps g e s u) : Keeps g e s u.abortRequest := by
  fun_cases State.abortRequest u
  · exact h.endRequest _ _
  · exact h.endRequest _ _
  · have hr : Keeps g e s (if u.pw.reserved then u.releaseSlot else u) := ite (fun _ => h.releaseSlot) fun _ => h
    exact (hr.setPw).clearInFlight.raisePrice
  · exact h
  · exact h

/-! ### The store -/

theorem raiseStore (h : Keeps g e s u) (event : StoreEvent) (sector : Nat) : Keeps g e s (u.raiseStore event sector) := h.raise _ _
theorem evalCondition (h : Keeps g e s u) : Keeps g e s u.evalCondition :=
  ite (fun _ => h) fun _ => (h.setStore).raiseStore _ _

end State.Keeps

/-! ### What leaves the access queue as it is -/

@[simp] theorem Store.setEntry_queue (x : Store) (i : Nat) (y : SectorEntry) : (x.setEntry i y).queue = x.queue := rfl
@[simp] theorem Store.fail_queue (x : Store) : x.fail.queue = x.queue := by
  simp only [Store.fail]
  (repeat' split) <;> simp
@[simp] theorem Store.spareCheck_queue (x : Store) : x.spareCheck.queue = x.queue := by
  simp only [Store.spareCheck]
  (repeat' split) <;> simp
@[simp] theorem Store.oweRotation_queue (x : Store) : x.oweRotation.queue = x.queue := by
  simp only [Store.oweRotation]
  (repeat' split) <;> simp
@[simp] theorem Store.checkLast_queue (x : Store) : x.checkLast.queue = x.queue := by
  unfold Store.checkLast
  split <;> simp
@[simp] theorem Store.countFailure_queue (x : Store) : x.countFailure.queue = x.queue := by
  simp only [Store.countFailure]
  split <;> simp
@[simp] theorem Store.noteCal_queue (x : Store) (number : Nat) (r : RecordBody) : (x.noteCal number r).queue = x.queue := by
  unfold Store.noteCal Store.setCurrent
  (repeat' split) <;> simp
@[simp] theorem Store.opEnds_queue (x : Store) : x.opEnds.queue = x.queue := rfl
@[simp] theorem Store.eraseStep_queue (x : Store) (y : Erase) : (x.eraseStep y).queue = x.queue := by
  simp only [Store.eraseStep]
  split <;> simp
@[simp] theorem Store.judgeUsable_queue (x : Store) : x.judgeUsable.queue = x.queue := by
  unfold Store.judgeUsable
  split <;> simp

/-- An access handed over stands last in the queue. -/
@[simp] theorem Store.join_queue (x : Store) (a : Access) : (x.join a).queue = x.queue ++ [a] := by
  simp only [Store.join]
  split <;> simp

namespace State.Keeps
variable {g e : Nat} {s u : State}

theorem spareCheck (h : Keeps g e s u) : Keeps g e s u.spareCheck := (h.setStore (by simp)).evalCondition
theorem failCopies (h : Keeps g e s u) : Keeps g e s u.failCopies := (h.setStore (by simp)).evalCondition

/-- A queue some of whose accesses are gone, or replaced by others of their kind, without a record that is new. -/
theorem setQueue (h : Keeps g e s u) {v : Store} {n : Nat} (hl : v.queue.length ≤ u.store.queue.length)
    (hw : ∀ r, Access.write r ∈ v.queue → Access.write r ∈ u.store.queue)
    (hc : u.store.queue.countP Access.owesReply = v.queue.countP Access.owesReply + n) : Keeps (g + n) e s (u.setStore v) :=
  { h with
    queue := fun hk => hl.trans (h.queue hk)
    priced := fun hk => ⟨(h.priced hk).1, fun r hr => (h.priced hk).2.1 r (hw r hr), (h.priced hk).2.2⟩
    owing := fun hk => by
      obtain ⟨ht, hr⟩ := h.owing hk
      exact ⟨ht, by simp only [State.setStore_store, State.setStore_link]; omega⟩ }

/-- The access at the head leaves the queue; a read for the host leaves the place of its reply to be filled. -/
theorem popAccess (h : Keeps g e s u) {a : Access} {rest : List Access} (hq : u.store.queue = a :: rest) :
    Keeps (g + a.owesReply.toNat) e s u.popAccess := by
  refine h.setQueue (by simp [hq]) (fun r hr => ?_) ?_
  · rw [hq] at hr ⊢
    exact List.mem_cons_of_mem _ hr
  · simp [hq, List.countP_cons, Bool.toNat, Bool.cond_eq_ite]

theorem failWrite (h : Keeps g e s u) (r : RecordBody) : Keeps g e s (u.failWrite r) := by
  cases r
  · exact h.saleFailed
  · exact h.commitFailed

theorem tellWritten (h : Keeps g e s u) (number : Nat) (r : RecordBody) : Keeps g e s (u.tellWritten number r) := by
  cases r
  · exact h.saleWritten _
  · exact h.commitWritten _ _

/-- What follows the pop at the end of a read: the damaged count and its notice (R102). -/
theorem countDamaged (h : Keeps g e s u) (n : Nat) (b : Bool) :
    let s' := u.setStore { u.store with damagedFound := n };
    Keeps g e s (if b = true then s'.raiseStore .damaged Config.sectors else s') :=
  ite (fun _ => (h.setStore).raiseStore _ _) fun _ => h.setStore

theorem endRead (h : Keeps g e s u) {a : Access} {rest : List Access} (hq : u.store.queue = a :: rest) (health : List Health) :
    Keeps g e s (u.endRead a health) := by
  have hp := h.popAccess hq
  fun_cases State.endRead a health u
  · exact (hp.countDamaged _ _).reply _ _ _
  · exact (hp.countDamaged _ _).lineResult _
  · exact hp.countDamaged _ _
  · exact hp.countDamaged _ _
  · exact hp.countDamaged _ _

/-- The next step of an erase, if one is in progress. -/
theorem serveErase (h : Keeps g e s u) :
    Keeps g e s (match u.store.erase with | some y => (u.setStore (u.store.eraseStep y), false) | none => (u, false)).1 := by
  split
  · exact h.setStore (by simp)
  · exact h

theorem choose1 (h : Keeps g e s u) : Keeps g e s u.choose1.1 := by
  fun_cases State.choose1 u
  case case5 => exact h.failCopies
  case case7 | case9 => exact h.serveErase
  case case8 r rest hq _ _ => exact (h.popAccess hq).failWrite _
  case case11 l rest hq _ _ => exact h.popAccess hq
  case case12 l rest hq i more _ _ =>
    have hq : u.store.queue = .release l :: rest := hq
    refine h.setQueue (n := 0) ?_ ?_ ?_ <;> simp [hq, Access.owesReply]
  case case14 a rest _ _ hq _ _ => exact h.endRead hq _
  all_goals exact h.setStore

theorem pumpN (n : Nat) : ∀ {u : State}, Keeps g e s u → Keeps g e s (u.pumpN n) := by
  induction n with
  | zero => exact id
  | succ n ih => exact fun h => ite (fun _ => h) fun _ => ite (fun _ => ih h.choose1) fun _ => h.choose1

theorem pump (h : Keeps g e s u) : Keeps g e s u.pump := ite (fun _ => h) fun _ => pumpN 16 h

/-- An access that owes no reply, with a priced record, joins the queue where a place is free (R100). -/
theorem enqueue (h : Keeps g e s u) (a : Access) (hq : u.store.queue.length < 4) (ha : a.owesReply = false := by rfl)
    (hp : s.salesPriced → ∀ r, a = .write r → r.priced := by exact fun _ => nofun) : Keeps g e s (u.enqueue a) :=
  pump { h with
    queue := fun _ => by simpa using hq
    priced := fun hk => by
      obtain ⟨hf, hw, hx⟩ := h.priced hk
      refine ⟨hf, fun r hr => ?_, hx⟩
      simp only [State.setStore_store, Store.join_queue, List.mem_append, List.mem_singleton] at hr
      rcases hr with hr | hr
      · exact hw r hr
      · exact hp hk r hr.symm
    owing := fun hk => by simpa [State.owing, ha] using h.owing hk }

end State.Keeps

/-- A place is free while the accesses and the blocks that wait are fewer than 4 (R100). -/
theorem Store.queue_lt_of_placesTaken {x : Store} (h : ¬ x.placesTaken = true) : x.queue.length < 4 := by
  have := mt decide_eq_true h
  simp only [Config.accessPlaces] at this
  omega

theorem Store.queue_lt_of_placeFor {x : Store} {w : Waiter} (h : x.placeFor w = true) : x.queue.length < 4 := by
  simp only [Store.placeFor, Config.accessPlaces, Bool.and_eq_true] at h
  exact of_decide_eq_true h.2

namespace State.Keeps
variable {g e : Nat} {s u : State}

theorem handOverSale (h : Keeps g e s u) (r : SaleFields) (hq : u.store.queue.length < 4) (hp : s.salesPriced → r.priced) :
    Keeps g e s (u.handOverSale r) :=
  ite (fun _ => h.saleFailed) fun _ => h.enqueue _ hq (hp := fun hk r' hr => by cases hr; exact hp hk)

/-- The latched record waits for a place, or is handed over (R89). -/
theorem offerSale (h : Keeps g e s u) {r : SaleFields} (hp : r.priced) : Keeps g e s (u.offerSale r) := by
  refine ite (fun _ => ?_) fun hf => h.handOverSale r (Store.queue_lt_of_placesTaken hf) fun _ => hp
  have hw : Keeps g e s (u.setPw { u.pw with waiting := some r }) :=
    { h with
      priced := fun hk => ⟨(h.priced hk).1, (h.priced hk).2.1, fun r' hr => by cases hr; exact hp⟩ }
  exact hw.setStore

theorem offerLine (h : Keeps g e s u) (n : Nat) : Keeps g e s (u.offerLine n) :=
  ite (fun _ => h.setStore) fun hf => h.enqueue _ (Store.queue_lt_of_placesTaken hf)

theorem evSaleRecordHandover (h : Keeps g e s u) : Keeps g e s (evSaleRecordHandover u) := by
  fun_cases Machine.evSaleRecordHandover u
  · next r hw hf =>
    have hq := Store.queue_lt_of_placeFor hf
    exact ((h.setPw (hw := by exact nofun)).setStore).handOverSale r hq fun hk => (h.priced hk).2.2 r hw
  · exact h
  · exact h

theorem evWeighedLineReadHandover (h : Keeps g e s u) : Keeps g e s (evWeighedLineReadHandover u) := by
  fun_cases Machine.evWeighedLineReadHandover u
  · next hf =>
    have hq := Store.queue_lt_of_placeFor hf
    exact (h.setStore).enqueue _ hq
  · exact h
  · exact h

end State.Keeps

/-! ### The records of the flash array -/

/-- A sector that is changed keeps the array priced where its new slots are. -/
theorem Flash.modify_priced {l : List FlashSector} {i : Nat} {f : FlashSector → FlashSector}
    (h : ∀ x ∈ l, ∀ n r, UsedSlot.record n r ∈ x.slots → r.priced)
    (hf : ∀ x n r, UsedSlot.record n r ∈ (f x).slots → UsedSlot.record n r ∈ x.slots ∨ r.priced) :
    ∀ x ∈ Flash.modify i f l, ∀ n r, UsedSlot.record n r ∈ x.slots → r.priced := by
  intro x hx n r hr
  rcases List.mem_or_eq_of_mem_set hx with hx | rfl
  · exact h x hx n r hr
  · refine (hf _ n r hr).elim (fun hr => ?_) id
    rw [List.getD_eq_getElem?_getD] at hr
    cases hl : l[i]? with
    | none => simp [hl] at hr
    | some y => exact h y (List.mem_of_getElem? hl) n r (by simpa [hl] using hr)

/-- The programming of a slot keeps the array priced where the slot holds a priced record. -/
theorem Flash.program_priced {l : List FlashSector} {i : Nat} {u : UsedSlot}
    (h : ∀ x ∈ l, ∀ n r, UsedSlot.record n r ∈ x.slots → r.priced) (hu : ∀ n r, u = .record n r → r.priced) :
    ∀ x ∈ Flash.program i u l, ∀ n r, UsedSlot.record n r ∈ x.slots → r.priced :=
  Flash.modify_priced h fun x n r hr => by
    rcases List.mem_append.1 hr with hr | hr
    · exact .inl hr
    · exact .inr (hu n r (List.mem_singleton.1 hr).symm)

namespace State.Keeps
variable {g e : Nat} {s u : State}

/-- The sector of a mark or of an erase keeps its slots, or loses them. -/
theorem modifyFlash (h : Keeps g e s u) (i : Nat) {f : FlashSector → FlashSector}
    (hf : ∀ x n r, UsedSlot.record n r ∈ (f x).slots → UsedSlot.record n r ∈ x.slots := by exact fun _ _ _ => id) :
    Keeps g e s (u.setFlash (Flash.modify i f u.flash)) :=
  h.setFlash fun hk => Flash.modify_priced hk.1 fun x n r hr => .inl (hf x n r hr)

theorem takeSlot (h : Keeps g e s u) {x : UsedSlot} (hx : u.salesPriced → ∀ n r, x = .record n r → r.priced) :
    Keeps g e s (u.takeSlot x) := by
  fun_cases State.takeSlot x u
  · exact h
  · exact (h.setStore).setFlash fun hk => Flash.program_priced hk.1 (hx hk)

theorem programmed (h : Keeps g e s u) {r : RecordBody} (copies : List Ch) (hr : u.salesPriced → r.priced) :
    Keeps g e s (u.programmed r copies) :=
  ((h.setStore).takeSlot fun hk n r' hr' => by cases hr'; exact hr hk).setStore (by simp)

theorem programFailed (h : Keeps g e s u) : Keeps g e s u.programFailed :=
  (((h.setStore).takeSlot fun _ _ _ hr => by cases hr).setStore (by simp)).evalCondition

end State.Keeps

/-- The slot taken and the record programmed leave the queue (R98, R101). -/
@[simp] theorem State.takeSlot_queue (x : UsedSlot) (s : State) : (s.takeSlot x).store.queue = s.store.queue := by
  fun_cases State.takeSlot x s <;> rfl
@[simp] theorem State.programmed_queue (r : RecordBody) (copies : List Ch) (s : State) :
    (s.programmed r copies).store.queue = s.store.queue := by
  simp [State.programmed]

namespace State.Keeps
variable {g e : Nat} {s u : State}

theorem evRecordProgramEnd (h : Keeps g e s u) (verified : Bool) : Keeps g e s (evRecordProgramEnd verified u) := by
  fun_cases Machine.evRecordProgramEnd verified u
  · next r rest hq _ _ _ =>
    have hp := h.programmed (r := r) u.store.copies fun hk => hk.2.1 r (by simp [hq])
    exact (hp.popAccess (a := .write r) (rest := rest) (by simpa using hq)).evalCondition.tellWritten _ _ |>.pump
  · exact h.programFailed.pump
  · exact (h.programmed (r := .cal _) _ fun _ => trivial).evalCondition.pump
  · exact h
  · exact h.programFailed.pump
  · exact h

/-- A release access leaves the queue with the last of its marks (R110). -/
theorem endRelease (h : Keeps g e s u) {v : Store} (hv : v.queue = u.store.queue) : Keeps g e s (u.setStore v.endRelease) := by
  rcases v.endRelease_cases with ⟨l, rest, hq, -, he⟩ | ⟨he, -⟩ <;> rw [he]
  · have hq : u.store.queue = .release l :: rest := hv ▸ hq
    refine h.setQueue (n := 0) ?_ ?_ ?_ <;> simp [hq, Access.owesReply]
  · exact h.setStore hv

theorem markTakes (h : Keeps g e s u) : Keeps g e s u.markTakes := by
  fun_cases State.markTakes u
  · exact ((h.modifyFlash _).setStore).evalCondition
  · next s' y x =>
    have hy : y.queue = u.store.queue := by simp only [y, s']; split <;> rfl
    exact ((h.modifyFlash _).setStore (v := { x.opEnds with failures := 0, rotation := .none, lastSeq := _ }) hy).spareCheck
  · exact ((h.modifyFlash _).endRelease (by rfl)).spareCheck
  · exact h

theorem evHeaderMarkEnd (h : Keeps g e s u) (verified : Bool) : Keeps g e s (evHeaderMarkEnd verified u) := by
  have hc := (h.setStore (v := u.store.countFailure.opEnds) (by simp)).evalCondition.pump
  fun_cases Machine.evHeaderMarkEnd verified u
  case case1 | case4 | case7 => exact h.markTakes.pump
  case case2 | case5 | case8 => exact hc
  case case10 => exact h
  all_goals exact h.setStore (Store.countFailure_queue _)

theorem evRecordReadEnd (h : Keeps g e s u) (health : List Health) : Keeps g e s (evRecordReadEnd health u) := by
  fun_cases Machine.evRecordReadEnd health u
  · next hq _ => exact ((h.setStore (v := u.store.opEnds)).endRead hq _).pump
  · exact h

theorem evErasePulseEnd (h : Keeps g e s u) : Keeps g e s (evErasePulseEnd u) := by
  fun_cases Machine.evErasePulseEnd u
  · exact ((h.modifyFlash _ (by simp)).setStore).evalCondition.pump
  · exact h

theorem retireSector (h : Keeps g e s u) (i : Nat) : Keeps g e s (u.retireSector i) :=
  have hr := (h.setStore (v := { u.store.setEntry i { u.store.entry i with state := .retired, seq := 0 } with
    erase := none, retired := u.store.retired + 1 })).raiseStore .retired i
  ite (fun _ => (hr.setStore (by simp)).evalCondition) fun _ => hr.spareCheck

theorem evBlankVerifyEnd (h : Keeps g e s u) (blank : Bool) : Keeps g e s (evBlankVerifyEnd blank u) := by
  have ho : Keeps g e s (u.setStore u.store.opEnds) := h.setStore
  fun_cases Machine.evBlankVerifyEnd blank u
  · exact ((ho.setStore).evalCondition.setStore (Store.oweRotation_queue _)).spareCheck.pump
  · exact ((ho.modifyFlash _).setStore).evalCondition.pump
  · exact ((ho.modifyFlash _).retireSector _).pump
  · exact h

theorem reqAlibiRelease (h : Keeps g e s u) (upTo : Nat) : Keeps g e s (reqAlibiRelease upTo u).1 := by
  have ht : Keeps g e s (u.setStore { u.store with
    releasePoint := max (min upTo u.store.newest) u.store.releasePoint }) := h.setStore
  fun_cases Machine.reqAlibiRelease upTo u
  · exact ht
  · exact h
  · next hf => exact ht.enqueue _ (Store.queue_lt_of_placesTaken (x := u.store) hf)

/-! ### Requests of the calibration unit -/

theorem reqCalBegin (h : Keeps g e s u) (c : Ch) : Keeps g e s (reqCalBegin c u).1 := by
  fun_cases Machine.reqCalBegin c u
  · exact h
  · exact ((h.setCal).moveChannel _ _ _).raiseCal _ _

theorem setSession (h : Keeps g e s u) (x : Session) : Keeps g e s (u.setSession x) := h.setCal

theorem reqCalPoint (h : Keeps g e s u) (point mass : Nat) : Keeps g e s (reqCalPoint point mass u).1 := by
  fun_cases Machine.reqCalPoint point mass u
  · fun_cases Machine.calPointZero u
    case case3 => exact h.setSession _
    all_goals exact h
  · fun_cases Machine.calPointSpan mass u
    case case4 => exact h.setSession _
    all_goals exact h

theorem reqCalParams (h : Keeps g e s u) (max : Int) (e' n st tracking : Nat) :
    Keeps g e s (reqCalParams max e' n st tracking u).1 := by
  fun_cases Machine.reqCalParams max e' n st tracking u
  case case3 => exact h.setSession _
  all_goals exact h

theorem reqCalCommit (h : Keeps g e s u) : Keeps g e s (reqCalCommit u).1 := by
  fun_cases Machine.reqCalCommit u
  case case6 hf _ _ =>
    have hq := Store.queue_lt_of_placesTaken hf
    exact ((h.setSession _).raiseCal _ _).enqueue _ (by simpa using hq) (hp := fun _ r hr => by cases hr; trivial)
  all_goals exact h

theorem reqCalAbandon (h : Keeps g e s u) : Keeps g e s (reqCalAbandon u).1 := by
  fun_cases Machine.reqCalAbandon u
  · exact h
  · exact (h.endSession _).raiseCal _ _

theorem evMetrologySwitchChange (h : Keeps g e s u) (closed : Bool) : Keeps g e s (evMetrologySwitchChange closed u) := by
  have hc : Keeps g e s (u.setCal { u.cal with switchClosed := closed }) := h.setCal
  fun_cases Machine.evMetrologySwitchChange closed u
  · exact h
  · exact ite (fun _ => (hc.setSession _).raiseCal _ _) fun _ => (hc.endSession _).raiseCal _ _
  · exact hc.raiseCal _ _

end State.Keeps

/-! ### The capture streams -/

theorem Stream.store_length {x : Stream} (en : Option Nat) (h : x.entries.length ≤ 2048) : (x.store en).entries.length ≤ 2048 := by
  fun_cases Stream.store x en
  · exact h
  · exact h
  · next hf =>
    simp only [Config.streamEntries, not_le] at hf
    simpa using hf

theorem Stream.transition_length {x : Stream} (elapsed : Nat) (h : x.entries.length ≤ 2048) :
    (x.transition elapsed).entries.length ≤ 2048 := by
  fun_cases Stream.transition x elapsed
  · exact h
  · exact h
  · exact Stream.store_length _ h

theorem Stream.gap_length {x : Stream} (h : x.entries.length ≤ 2048) : x.gap.entries.length ≤ 2048 := by
  fun_cases Stream.gap x
  · exact Stream.store_length _ h
  · exact h
  · exact h

/-- Streams that are within their places, one by one. -/
theorem Streams.within_iff (x : Streams) : x.within = true ↔
    Stream.within x.insertA = true ∧ Stream.within x.insertB = true ∧ Stream.within x.withdrawA = true
      ∧ Stream.within x.withdrawB = true := by
  simp [Streams.within, and_assoc]

@[simp] theorem Stream.within_none : Stream.within none = true := rfl
@[simp] theorem Stream.within_fresh (c : Prop) [Decidable c] :
    Stream.within (if c then some Stream.fresh else none) = true := by
  split <;> rfl
@[simp] theorem Streams.within_none : Streams.none.within = true := rfl

/-- The memory of the streams of a card and of those that the decoder has taken is within its places (R147). -/
def Card.captured (c : Card) : Prop := c.streams.within = true ∧ c.decoder.all Streams.within = true

theorem Card.captured_beginPass {c : Card} (p : Pass) (h : c.captured) : (c.beginPass p).captured := by
  obtain ⟨hs, hd⟩ := h
  rw [Streams.within_iff] at hs
  obtain ⟨ha, hb, hc, hw⟩ := hs
  cases p <;> exact ⟨by simp [Card.beginPass, Streams.within_iff, *], hd⟩

theorem Card.captured_withdrawn {c : Card} (h : c.captured) : c.withdrawn.captured := by
  simp only [Card.withdrawn]
  split
  · exact ⟨rfl, h.1⟩
  · exact h

/-- A move of the seat position leaves the held read and its timer (R142). -/
theorem Card.move_held {c c' : Card} {left : Timer} {switch : CardSwitch} {closed : Bool} {event : CardEvent}
    (hm : c.move left switch closed = some (c', event)) : c'.held = c.held ∧ c'.holdTimer = c.holdTimer := by
  revert hm
  fun_cases Card.move c left switch closed
  case case7 =>
    rintro ⟨⟩
    simp only [Card.withdrawn]
    split <;> simp
  case case10 | case11 => nofun
  all_goals rintro ⟨⟩; exact ⟨rfl, rfl⟩

/-- A move of the seat position keeps the streams within their places (R142). -/
theorem Card.captured_move {c c' : Card} {left : Timer} {switch : CardSwitch} {closed : Bool} {event : CardEvent}
    (hm : c.move left switch closed = some (c', event)) (h : c.captured) : c'.captured := by
  revert hm
  fun_cases Card.move c left switch closed
  case case1 | case6 => rintro ⟨⟩; exact Card.captured_beginPass _ h
  case case2 | case3 | case5 => rintro ⟨⟩; exact ⟨rfl, h.2⟩
  case case4 | case9 => rintro ⟨⟩; exact h
  case case7 => rintro ⟨⟩; exact Card.captured_withdrawn h
  case case8 =>
    rintro ⟨⟩
    obtain ⟨ha, hb, -, -⟩ := (Streams.within_iff _).1 h.1
    exact ⟨(Streams.within_iff _).2 ⟨ha, hb, rfl, rfl⟩, h.2⟩
  case case10 | case11 => nofun

/-- The stream that captures is one of the card's, and is put back as one of them (R147). -/
theorem Card.captured_setCapturing {c : Card} {k : Track} {x v : Stream} (h : c.captured) (hx : c.capturing k = some x)
    (hv : x.entries.length ≤ 2048 → v.entries.length ≤ 2048) : (c.setCapturing k v).captured := by
  obtain ⟨hs, hd⟩ := h
  rw [Streams.within_iff] at hs
  obtain ⟨ha, hb, hc, hw⟩ := hs
  have hin : Stream.within (some x) = true → Stream.within (some v) = true := by simpa [Stream.within] using hv
  fun_cases Card.setCapturing c k v <;>
    simp_all [Card.capturing, Card.captured, Streams.within_iff]

theorem Card.setCapturing_held (c : Card) (k : Track) (v : Stream) :
    (c.setCapturing k v).held = c.held ∧ (c.setCapturing k v).holdTimer = c.holdTimer := by
  fun_cases Card.setCapturing c k v <;> exact ⟨rfl, rfl⟩

namespace State.Keeps
variable {g e : Nat} {s u : State}

/-! ### The card reader -/

/-- A card with its held read and hold timer as they stood. -/
theorem setCaptured (h : Keeps g e s u) {v : Card} (hc : u.card.captured → v.captured)
    (hh : v.held = u.card.held ∧ v.holdTimer = u.card.holdTimer) : Keeps g e s (u.setCard v) :=
  h.setCard hc fun hr => by rw [hh.1, hh.2]; exact hr

theorem raiseCard (h : Keeps g e s u) (event : CardEvent) : Keeps g e s (u.raiseCard event) := h.raise _ _

theorem releaseCardLeft (h : Keeps g e s u) : Keeps g e s u.releaseCardLeft :=
  ite (fun _ => (h.setCard).endSource _) fun _ => h

theorem evCardSwitchChange (h : Keeps g e s u) (switch : CardSwitch) (closed : Bool) :
    Keeps g e s (evCardSwitchChange switch closed u) := by
  have hl : Keeps g e s (u.setCard (u.card.setLevel closed switch)) := by cases switch <;> exact h.setCard
  fun_cases Machine.evCardSwitchChange switch closed u
  · exact h
  · exact hl
  · next c event hm _ _ =>
    have hset := hl.setCaptured (Card.captured_move hm) (Card.move_held hm)
    exact raiseCard (ite (fun _ => hset.releaseCardLeft) fun _ => hset) event

theorem evFluxTransition (h : Keeps g e s u) (k : Track) (elapsed : Nat) : Keeps g e s (evFluxTransition k elapsed u) := by
  fun_cases Machine.evFluxTransition k elapsed u
  · next hx =>
    exact h.setCaptured (fun hk => Card.captured_setCapturing hk hx (Stream.transition_length elapsed)) (Card.setCapturing_held ..)
  · exact h

theorem evFluxGap (h : Keeps g e s u) (k : Track) : Keeps g e s (evFluxGap k u) := by
  fun_cases Machine.evFluxGap k u
  · next hx => exact h.setCaptured (fun hk => Card.captured_setCapturing hk hx Stream.gap_length) (Card.setCapturing_held ..)
  · exact h

theorem evDecodeEnd (h : Keeps g e s u) : Keeps g e s (evDecodeEnd u) := by
  fun_cases Machine.evDecodeEnd u
  · exact h
  · exact (h.setCard (hc := by exact fun hk => ⟨hk.1, rfl⟩) (hr := by exact fun _ => rfl)).raiseCard _

theorem eraseRead (h : Keeps g e s u) (event : CardEvent) : Keeps g e s (u.eraseRead event) :=
  (h.setCard (hr := by exact fun _ => rfl)).raiseCard _

theorem evHoldTimerExpiry (h : Keeps g e s u) : Keeps g e s (evHoldTimerExpiry u) := by
  fun_cases Machine.evHoldTimerExpiry u
  · exact h
  · exact (h.atExpiry _).eraseRead _

theorem evCardLeftTimerExpiry (h : Keeps g e s u) : Keeps g e s (evCardLeftTimerExpiry u) := by
  fun_cases Machine.evCardLeftTimerExpiry u
  · exact h
  · exact (h.atExpiry _).setCard
  · exact (((h.atExpiry _).setCard).setCard).assertSource _ |>.raiseCard _

theorem reqCardArm (h : Keeps g e s u) (tracks : Nat) : Keeps g e s (reqCardArm tracks u).1 := by
  fun_cases Machine.reqCardArm tracks u
  · exact h
  · exact (h.setCard).raiseCard _

theorem reqCardDisarm (h : Keeps g e s u) : Keeps g e s (reqCardDisarm u).1 :=
  have hd := h.setCard (v := { u.card with armedA := false, armedB := false, streams := Streams.none }) (fun hk => ⟨rfl, hk.2⟩)
  ite (fun _ => hd.raiseCard _) fun _ => ite (fun _ => hd.raiseCard _) fun _ => hd

theorem reqCardFetch (h : Keeps g e s u) : Keeps g e s (reqCardFetch u).1 := by
  fun_cases Machine.reqCardFetch u
  · exact h
  · exact h.eraseRead _

theorem resetCard (h : Keeps g e s u) : Keeps g e s u.resetCard :=
  h.releaseCardLeft.setCard (fun _ => ⟨rfl, rfl⟩) fun _ => rfl

end State.Keeps

/-- A PRICE_WEIGH that is accepted finds a place for its sale, and one for its reservation (R73, R80, R120). -/
theorem priceRefusal_none {unitPrice : Nat} {presetTare : Int} {bag : Bool} {s : State}
    (h : priceRefusal unitPrice presetTare bag s = none) :
    s.txn.sales.length < 32 ∧ ((bag && s.bag.enabled) = true → s.bag.placesFull = false) := by
  revert h
  fun_cases priceRefusal unitPrice presetTare bag s
  case case10 hs hb _ _ =>
    simp only [Config.salePlaces, not_le] at hs
    exact fun _ => ⟨hs, fun he => by simp_all⟩
  all_goals nofun

namespace State.Keeps
variable {g e : Nat} {s u : State}

/-! ### Priced weighings -/

/-- A request that is accepted takes the place that the list keeps for its weighing (R73, R80). -/
theorem beginRequest (h : Keeps g e s u) {v : Pricing} (hs : u.txn.sales.length < 32)
    (hw : ∀ r, v.waiting = some r → u.pw.waiting = some r := by exact fun _ => id) : Keeps g e s (u.setPw v) :=
  { h with
    priced := fun hk => ⟨(h.priced hk).1, (h.priced hk).2.1, fun r hr => (h.priced hk).2.2 r (hw r hr)⟩
    sales := fun _ => by
      have hv := Bool.toNat_le v.inFlight
      simp only [State.salesWithin, State.setPw_txn, State.setPw_pw]
      omega }

theorem acceptPrice (h : Keeps g e s u) (unitPrice : Nat) (presetTare : Int) (bag : Bool) (tolerance : Int)
    (hr : priceRefusal unitPrice presetTare bag u = none) : Keeps g e s (u.acceptPrice unitPrice presetTare bag tolerance) := by
  obtain ⟨hs, hf⟩ := priceRefusal_none hr
  fun_cases State.acceptPrice unitPrice presetTare bag tolerance u
  next s₁ reserves s₂ s₃ =>
    have h₁ : Keeps g e s s₁ := by
      simp only [s₁]
      split
      · exact h.setTare _
      · exact h
    have hb : s₁.bag = u.bag := by simp only [s₁]; split <;> simp
    have ht : s₁.txn = u.txn := by simp only [s₁]; split <;> simp
    have h₂ : Keeps g e s s₂ := ite (fun hres => h₁.reserveSlot (by rw [hb]; exact hf (hb ▸ hres))) fun _ => h₁
    have hs₂ : s₂.txn.sales.length < 32 := by simp only [s₂]; split <;> simpa [ht] using hs
    exact ((h₂.beginRequest hs₂).setTxn).raisePrice

theorem reqPriceWeigh (h : Keeps g e s u) (unitPrice : Nat) (presetTare : Int) (flags : Nat) (tolerance : Int) :
    Keeps g e s (reqPriceWeigh unitPrice presetTare flags tolerance u).1 := by
  fun_cases Machine.reqPriceWeigh unitPrice presetTare flags tolerance u
  · exact h
  · exact h.acceptPrice _ _ _ _ ‹_›

theorem testRearm (h : Keeps g e s u) (r : Report) : Keeps g e s (u.testRearm r) := by
  refine ite (fun _ => ite (fun hs => (h.setPw (hf := ?_)).raisePrice) fun _ => h.setPw) fun _ => h
  simp [Pricing.inFlight, hs]

theorem latchSale (h : Keeps g e s u) (r : Report) (hs : u.pw.state = .waitStable) : Keeps g e s (u.latchSale r) := by
  fun_cases State.latchSale r u
  · exact (h.setPw).endRequest _ _
  · next l hp s₂ =>
    have hl : Keeps g e s s₂ := h.setPw (hf := by simp [Pricing.inFlight, hs])
    exact hl.raisePrice.offerSale ⟨rfl, not_lt.1 hp⟩

theorem priceReading (h : Keeps g e s u) : Keeps g e s u.priceReading :=
  have ht := h.testRearm (u.report .p)
  ite (fun hl => ht.latchSale _ hl.1) fun _ => ht

theorem evSettleTimerExpiry (h : Keeps g e s u) : Keeps g e s (evSettleTimerExpiry u) := by
  fun_cases Machine.evSettleTimerExpiry u
  · exact h
  · exact (h.atExpiry _).endRequest _ _

theorem reqPriceCancel (h : Keeps g e s u) : Keeps g e s (reqPriceCancel u).1 := by
  fun_cases Machine.reqPriceCancel u
  case case1 | case2 => exact h.endRequest _ _
  all_goals exact h

/-! ### Drawer ports -/

theorem releaseForced (h : Keeps g e s u) : Keeps g e s u.releaseForced := h.releaseSource _ _
theorem releaseOverdue (h : Keeps g e s u) : Keeps g e s u.releaseOverdue := h.releaseSource _ _
theorem enterOpen (h : Keeps g e s u) (p : Port) (forced : Bool) : Keeps g e s (u.enterOpen p forced) := h.setDrw _ _

theorem sampleSensor (h : Keeps g e s u) (p : Port) : Keeps g e s (u.sampleSensor p) :=
  ite (fun _ => (h.setDrw _ _).enterOpen _ _) fun _ => h.setDrw _ _

theorem applyFitted (h : Keeps g e s u) (p : Port) : Keeps g e s (u.applyFitted p) :=
  ite (fun _ => h) fun _ => ite (fun _ => (h.setDrw _ _).sampleSensor p) fun _ => (h.setDrw _ _).releaseForced.releaseOverdue

theorem portMoved (h : Keeps g e s u) (p : Port) : Keeps g e s (u.portMoved p) := (h.applyFitted p).portChanged p

theorem sensorEvent (h : Keeps g e s u) (p : Port) (opens : Bool) : Keeps g e s (u.sensorEvent p opens) := by
  have hd := h.setDrw p { u.drw p with sensorOpen := opens }
  fun_cases State.sensorEvent p opens u
  · exact ((hd.enterOpen _ _).assertSource _).portMoved p
  · exact (hd.enterOpen _ _).portMoved p
  · exact (hd.enterOpen _ _).afterRelease.portMoved p
  · exact (hd.enterOpen _ _).portMoved p
  · exact (hd.setDrw _ _).releaseOverdue.releaseForced.portMoved p
  · exact (hd.setDrw _ _).releaseOverdue.releaseForced.portMoved p
  · exact hd

theorem evDrawerSensorChange (h : Keeps g e s u) (p : Port) (high : Bool) : Keeps g e s (evDrawerSensorChange p high u) :=
  ite (fun _ => h) fun _ => ite (fun _ => (h.setDrw _ _).sensorEvent _ _) fun _ => h.setDrw _ _

theorem evKickTimerExpiry (h : Keeps g e s u) (p : Port) : Keeps g e s (evKickTimerExpiry p u) := by
  fun_cases Machine.evKickTimerExpiry p u
  · exact afterRelease (ite (fun _ => (h.atExpiry _).enterOpen _ _) fun _ => (h.atExpiry _).setDrw _ _) |>.portMoved p
  · exact h

theorem evHoldLimitExpiry (h : Keeps g e s u) (p : Port) : Keeps g e s (evHoldLimitExpiry p u) := by
  fun_cases Machine.evHoldLimitExpiry p u
  · exact ((h.atExpiry _).setDrw _ _).afterRelease.portMoved p
  · exact h

theorem evOverdueTimerExpiry (h : Keeps g e s u) (p : Port) : Keeps g e s (evOverdueTimerExpiry p u) := by
  fun_cases Machine.evOverdueTimerExpiry p u
  · exact (((h.atExpiry _).setDrw _ _).assertSource _).portMoved p
  · exact h

theorem reqDrawerOpen (h : Keeps g e s u) (p : Port) (reason : Nat) : Keeps g e s (reqDrawerOpen p reason u).1 := by
  fun_cases Machine.reqDrawerOpen p reason u
  · exact h
  · have hf : Keeps g e s (if reason = 0 then u.setTxn (u.txn.fire p) else u.setNoSale (sat16 (u.noSale + 1))) :=
      ite (fun _ => h.setTxn (by cases p <;> rfl)) fun _ => h.setNoSale _
    exact (hf.setDrw _ _).servePorts.takeTurn

theorem resetPort (h : Keeps g e s u) (p : Port) : Keeps g e s (u.resetPort p) :=
  ite (fun _ => h) fun _ =>
    applyFitted (releaseForced (releaseOverdue
      (ite (fun _ => (h.setDrw _ _).enterOpen _ _) fun _ => h.setDrw _ _))) p

/-! ### The printer -/

theorem raisePrint (h : Keeps g e s u) : Keeps g e s u.raisePrint := h.raise _ _
theorem completeRecord (h : Keeps g e s u) : Keeps g e s u.completeRecord := h.setPrn (by exact List.tail_sublist _)
theorem startCut (h : Keeps g e s u) (b : Bool) : Keeps g e s (u.startCut b) := h.setPrn
theorem receiptPrinted (h : Keeps g e s u) (n : Nat) : Keeps g e s (u.receiptPrinted n) :=
  ite (fun _ => h.setReceipt _) fun _ => h
theorem receiptDone (h : Keeps g e s u) (n : Nat) : Keeps g e s (u.receiptDone n) := (h.setPrn).receiptPrinted n

theorem startRecord (h : Keeps g e s u) (r : PrintRecord) : Keeps g e s (u.startRecord r) := by
  cases r
  · exact h
  · exact (h.setPrn).lineStart _
  · exact (h.setPrn).feedLine
  · exact (h.setPrn).offerLine _
  · exact (h.setPrn).startCut _
  · exact h

theorem startNextN (n : Nat) : ∀ {u : State}, Keeps g e s u → Keeps g e s (u.startNextN n) := by
  induction n with
  | zero => exact id
  | succ n ih =>
    intro u h
    unfold State.startNextN
    refine ite (fun _ => h.suspend) fun _ => ite (fun _ => h) fun _ => ?_
    split
    · exact h.setPrn
    · split
      · exact ih (completeRecord h.setPrn)
      · exact ih (h.receiptDone _).completeRecord
      · exact h.startRecord _

theorem startNext (h : Keeps g e s u) : Keeps g e s u.startNext := startNextN _ h

theorem weighedLinePrinted (h : Keeps g e s u) (j : TextJob) : Keeps g e s (u.weighedLinePrinted j) := by
  have hd : Keeps g e s (if j.damaged = true then u.setPrn { u.prn with damagedLine := true, damagedNumber := j.number } else u) :=
    ite (fun _ => h.setPrn) fun _ => h
  exact ite (fun _ => hd.setTxn (by simp [Txn.mapSale])) fun _ => hd

theorem goOn (h : Keeps g e s u) : Keeps g e s u.goOn := by
  fun_cases State.goOn u
  · exact h.suspend
  · exact h.workLine _
  · exact h.startNext

theorem lineEnds (h : Keeps g e s u) (w : Work) : Keeps g e s (u.lineEnds w) := by
  have hl : Keeps g e s (u.setPrn { u.prn with line := none }) := h.setPrn
  fun_cases State.lineEnds w u
  · exact hl.completeRecord.goOn
  · exact (hl.setPrn).goOn
  · next s₁ _ s₂ =>
    have h₂ : Keeps g e s s₂ := by
      simp only [s₂]
      split
      · exact hl.weighedLinePrinted _
      · exact hl
    exact h₂.completeRecord.goOn

theorem evPaperAdvanceEnd (h : Keeps g e s u) : Keeps g e s (evPaperAdvanceEnd u) := by
  fun_cases Machine.evPaperAdvanceEnd u
  · exact h.lineEnds _
  · exact h
  · exact h

theorem cycleEnds (h : Keeps g e s u) : Keeps g e s u.cycleEnds := by
  have hc : Keeps g e s (u.setPrn { u.prn with cutter := none, jamTimer := none }) := h.setPrn
  fun_cases State.cycleEnds u
  next s₁ s₂ =>
    have h₂ : Keeps g e s s₂ := by
      simp only [s₂]
      split
      · exact hc.completeRecord
      · exact hc
    exact h₂.goOn

theorem evCutterDriveEnd (h : Keeps g e s u) : Keeps g e s (evCutterDriveEnd u) := by
  fun_cases Machine.evCutterDriveEnd u
  · exact (h.atExpiry _).cycleEnds
  · exact (h.atExpiry _).setPrn
  · exact h
  · exact h

theorem evCutterHomeChange (h : Keeps g e s u) (home : Bool) : Keeps g e s (evCutterHomeChange home u) :=
  ite (fun _ => cycleEnds h.setPrn) fun _ => h.setPrn

theorem evJamTimerExpiry (h : Keeps g e s u) : Keeps g e s (evJamTimerExpiry u) := by
  fun_cases Machine.evJamTimerExpiry u
  · exact cycleEnds (h.atExpiry _).setPrn
  · exact h
  · exact h

theorem checkStop (h : Keeps g e s u) : Keeps g e s u.checkStop :=
  ite (fun _ => h) fun _ => ite (fun _ => h.suspend) fun _ => h

theorem coverStop (h : Keeps g e s u) : Keeps g e s u.coverStop :=
  ite (fun _ => ((h.setPrn).setSupply _).afterRelease) fun _ => (h.setPrn).withdrawOwed

theorem evCoverSensorChange (h : Keeps g e s u) (isOpen : Bool) : Keeps g e s (evCoverSensorChange isOpen u) :=
  ite (fun _ => h.setPrn) fun _ => ite (fun _ => (h.setPrn).setPrn) fun _ => ((h.setPrn).setPrn).coverStop

theorem evPaperSensorChange (h : Keeps g e s u) (present : Bool) : Keeps g e s (evPaperSensorChange present u) :=
  ite (fun _ => h.setPrn) fun _ => ((h.setPrn).setPrn).checkStop

theorem evPaperLowChange (h : Keeps g e s u) (low : Bool) : Keeps g e s (evPaperLowChange low u) := h.setPrn

theorem resume (h : Keeps g e s u) : Keeps g e s u.resume := by
  have hr : Keeps g e s (u.setPrn { u.prn with restart := .none }) := h.setPrn
  fun_cases State.resume u
  · exact hr.workLine _
  · exact hr.startCut _
  · exact hr.startNext
  · exact hr.setPrn
  · exact hr.phaseStart
  · exact hr.workLine _

theorem tryResume (h : Keeps g e s u) : Keeps g e s u.tryResume := ite (fun _ => h.resume) fun _ => h

theorem evHeadMonitorSample (h : Keeps g e s u) (v : SupplySamples) (temp : TempSamples) :
    Keeps g e s (evHeadMonitorSample v temp u) :=
  have ht := checkStop (h.setPrn (v := { u.prn with
    headSupply := v.monitor, supplyInput := v.plannings, headTemp := temp.monitor, tempInput := temp.lineStarts
    reasons := (u.prn.reasons.sampleSupply v.monitor).sampleTemp temp.monitor })) |>.tryResume
  ite (fun _ => ht) fun _ => ht.raisePrint

theorem reqPrintResume (h : Keeps g e s u) : Keeps g e s (reqPrintResume u).1 := by
  fun_cases Machine.reqPrintResume u
  · exact h
  · exact h
  · exact tryResume h.setPrn

/-- The printer's read is withdrawn, or its result discarded: as many accesses owe a reply, and no record is new (R194). -/
theorem dropLineRead (h : Keeps g e s u) : Keeps g e s (u.setStore u.store.dropLineRead) := by
  refine h.setQueue (n := 0) (by simp [Store.dropLineRead]) (fun r hr => ?_) ?_
  · obtain ⟨a, ha, he⟩ := List.mem_map.1 hr
    split at he
    · cases he
    · exact he ▸ ha
  · simp only [Store.dropLineRead, List.countP_map, Nat.add_zero]
    refine List.countP_congr fun a _ => ?_
    cases a <;> rfl

theorem dropRecord (h : Keeps g e s u) : Keeps g e s u.dropRecord :=
  have hd := withdrawOwed (h.dropLineRead.completeRecord.setPrn)
  ite (fun _ => hd) fun _ => hd.startNext

theorem endRecord (h : Keeps g e s u) : Keeps g e s u.endRecord := by
  fun_cases State.endRecord u
  · exact h
  · exact h
  · exact h.setPrn
  · exact h.dropRecord

theorem reqPrintCancel (h : Keeps g e s u) : Keeps g e s (reqPrintCancel u).1 := by
  have hq : Keeps g e s (u.setPrn { u.prn with queue := u.prn.started }) :=
    h.setPrn (by simp only [Printer.started]; split <;> simp [List.take_sublist])
  exact (hq.endRecord.setPrn).cancelReceiptState.raisePrint

end State.Keeps

/-- The records that have been started and those that have not are the queue's (R194). -/
theorem Printer.started_append_unstarted (p : Printer) : p.started ++ p.unstarted = p.queue := by
  unfold Printer.started Printer.unstarted
  split
  · cases p.queue <;> rfl
  · rfl

namespace State.Keeps
variable {g e : Nat} {s u : State}

theorem cancelReceipt (h : Keeps g e s u) (n : Nat) : Keeps g e s (u.cancelReceipt n) := by
  have hs : (u.prn.started ++ u.prn.unstarted.filter fun q => q.receipt != n).Sublist u.prn.queue := by
    conv_rhs => rw [← u.prn.started_append_unstarted]
    exact (List.Sublist.refl _).append List.filter_sublist
  exact ite (fun _ => endRecord (h.setPrn hs)) fun _ => h.setPrn hs

theorem resetPrinter (h : Keeps g e s u) : Keeps g e s u.resetPrinter :=
  (h.dropLineRead.setSupply _).setPrn (by exact List.nil_sublist _)

/-- A message that fits joins the queue (R177, R178). -/
theorem takeRecords (h : Keeps g e s u) (t : Trial) (hl : t.records.length ≤ u.prn.recordsFree)
    (hb : 80 * t.records.countP (fun q => q.record.isRaster) ≤ u.prn.bytesFree) : Keeps g e s (u.takeRecords t) := by
  have hp : Keeps g e s (u.setPrn { u.prn with queue := u.prn.queue ++ t.records, openReceipt := t.opened }) :=
    { h with
      print := fun hk => by
        obtain ⟨hql, hqb⟩ := h.print hk
        simp only [Printer.recordsFree, Printer.bytesFree, Config.printPlaces, Config.printBytes, Config.rasterBytes] at hl hb
        constructor <;> simp only [State.setPrn_prn, List.length_append, List.countP_append] <;> omega }
  exact ite (fun _ => hp.setTxn (by simp)) fun _ => setReceipt (hp.setTxn (by simp)) _

theorem reqPrintRecords (h : Keeps g e s u) (rs : List PrintRecord) : Keeps g e s (reqPrintRecords rs u).1 := by
  fun_cases Machine.reqPrintRecords rs u
  · exact h
  · exact h
  · next t _ hf _ _ =>
    simp only [not_or, not_lt] at hf
    have ht := h.takeRecords t hf.1 hf.2
    exact ite (fun _ => ht.startNext) fun _ => ht

/-! ### The transaction -/

theorem reqTxnOpen (h : Keeps g e s u) (laneTime : Nat) : Keeps g e s (reqTxnOpen laneTime u).1 := by
  fun_cases Machine.reqTxnOpen laneTime u
  · exact h
  · next s₁ s₂ s₃ =>
    have h₁ : Keeps g e s s₁ := { h with
      sales := fun _ => by
        have := Bool.toNat_le s₁.pw.inFlight
        simp only [State.salesWithin, s₁, State.setTxn_txn, State.setTxn_pw, Txn.fresh, Txn.reset, List.length_nil] at this ⊢
        omega }
    exact ite (fun _ => (h₁.setTare 0).bagBegin _) fun _ => (h₁.setTare 0).bagOpenDisabled

theorem reqTxnTender (h : Keeps g e s u) (kind : Nat) : Keeps g e s (reqTxnTender kind u).1 := by
  fun_cases Machine.reqTxnTender kind u
  · exact h
  · have hd : Keeps g e s (if u.bag.enabled = true then u.dropSkippable else u) := ite (fun _ => h.dropSkippable) fun _ => h
    exact (hd.setTxn (by unfold Txn.tendered; split <;> rfl)).raiseTxn

theorem reqTxnResume (h : Keeps g e s u) : Keeps g e s (reqTxnResume u).1 := by
  fun_cases Machine.reqTxnResume u
  · exact h
  · exact h
  · exact h.setTxn

theorem reqTxnClose (h : Keeps g e s u) : Keeps g e s (reqTxnClose u).1 := by
  fun_cases Machine.reqTxnClose u
  case case4 => exact (bagEnd h.setTxn).examineClosing
  all_goals exact h

theorem endWeighing (h : Keeps g e s u) : Keeps g e s u.endWeighing :=
  bagEnd (ite (fun _ => h.abortRequest) fun _ => h)

theorem reqTxnAbort (h : Keeps g e s u) : Keeps g e s (reqTxnAbort u).1 := by
  fun_cases Machine.reqTxnAbort u
  · exact h
  · exact h
  · have hw := h.endWeighing
    have hc : Keeps g e s (if u.endWeighing.txn.receipt = .opened ∨ u.endWeighing.txn.receipt = .queued then
        u.endWeighing.cancelReceipt u.endWeighing.txn.number else u.endWeighing) :=
      ite (fun _ => hw.cancelReceipt _) fun _ => hw
    exact (hc.setTxn).txnToIdle _

theorem resetTxn (h : Keeps g e s u) : Keeps g e s u.resetTxn := ite (fun _ => h) fun _ => (h.setTxn).txnToIdle _

/-! ### Settings -/

theorem putPolarity (h : Keeps g e s u) (p : Port) (v : Bool) : Keeps g e s (u.putPolarity p v) :=
  ite (fun _ => (h.setDrw _ _).sensorEvent _ _) fun _ => h.setDrw _ _

theorem putDrawer (h : Keeps g e s u) (p : Port) (setting v : Nat) : Keeps g e s (u.putDrawer p setting v) := by
  fun_cases State.putDrawer p setting v u
  case case1 => exact (h.setDrw _ _).portMoved p
  case case6 => exact h.putPolarity _ _
  all_goals exact h.setDrw _ _

theorem putSetting (h : Keeps g e s u) (block setting v : Nat) : Keeps g e s (u.putSetting block setting v) := by
  fun_cases State.putSetting block setting v u
  case case1 | case2 => exact h.setNotices _ _
  case case3 | case4 => exact h.setPw
  case case5 =>
    have hb : Keeps g e s (u.setBag { u.bag with enableSet := v == 1 }) := h.setBag
    exact ite (fun _ => hb.applyEnable) fun _ => hb
  case case11 | case12 => exact h.setCard
  case case13 => exact (h.setSupply _).testBudget
  case case14 => exact h.setSupply _
  case case15 | case16 => exact h.putDrawer _ _ _
  case case17 | case18 => exact h.setPrn
  case case19 => exact h.setStore
  case case20 => exact (h.setStore).spareCheck.pump
  case case21 => exact h.setAttn _
  all_goals exact h.setBag

theorem reqSettingPut (h : Keeps g e s u) (block setting value : Nat) : Keeps g e s (reqSettingPut block setting value u).1 := by
  fun_cases Machine.reqSettingPut block setting value u
  · exact h
  · exact h.putSetting _ _ _

theorem reqSettingGet (h : Keeps g e s u) (block setting : Nat) : Keeps g e s (reqSettingGet block setting u).1 := by
  fun_cases Machine.reqSettingGet block setting u <;> exact h

/-! ### The lane reset -/

theorem resetBlocks (h : Keeps g e s u) : Keeps g e s u.resetBlocks :=
  ((h.resetPort .one).resetPort .two).resetPrinter.testBudget.abortRequest.bagReset.resetTxn.setTare 0
    |>.resetSession.resetCard.endBeep.setAttn _

end State.Keeps

/-- The reply of a lane reset fills the place that the flag owed (R9, R19). -/
theorem State.Keeps.endReset {s u : State} (h : State.Keeps 0 0 s u) (tag : Byte) (ht : u.link.resetTag.isSome = true) :
    State.Serves 0 0 s (u.endReset tag) := by
  have hc := (h.setCh .p (v := { u.chP with lastReport := none })).setCh .b (v := { u.chB with lastReport := none })
  exact { hc with
    owing := fun hk => by
      obtain ⟨hl, hr⟩ := h.owing hk
      rw [ht, Bool.toNat_true] at hr
      constructor <;> simp [State.endReset, State.reply, State.pushReply] <;> omega }

theorem State.applyLaneReset_serves (s : State) (tag : Byte) (ht : s.link.resetTag.isSome = true) :
    State.Serves 0 0 s (s.applyLaneReset tag) :=
  have h := (State.Keeps.refl s).resetBlocks
  h.endReset tag (by rw [h.resetTag, ht])

/-! ### What recovery leaves of the array and of the queue -/

@[simp] theorem fillForward_slots (prev : Option Nat) (l : List Found) : (fillForward prev l).map (·.slots) = l.map (·.slots) := by
  induction l generalizing prev with
  | nil => rfl
  | cons f fs ih =>
    simp only [fillForward, List.map_cons, ih]
    split <;> rfl

@[simp] theorem fillBackward_slots (l : List Found) : (fillBackward l).map (·.slots) = l.map (·.slots) := by
  induction l with
  | nil => rfl
  | cons f fs ih =>
    simp only [fillBackward]
    (repeat' split) <;> simp [ih]

/-- The slots of a sector in use are those of a sector that the scan found, or none. -/
theorem settled_slots {l : List Found} {y : Found × Nat} (h : y ∈ settled l) : y.1.slots = [] ∨ ∃ f ∈ l, y.1.slots = f.slots := by
  have hm := List.mem_map_of_mem (f := (·.slots)) (List.of_mem_zip (show (y.1, y.2) ∈ _ from h)).1
  rw [fillBackward_slots, fillForward_slots, List.map_map, List.mem_map] at hm
  obtain ⟨i, -, hi⟩ := hm
  rw [← hi]
  simp only [Function.comp_apply, List.getD_eq_getElem?_getD]
  cases hf : l[i]? with
  | none => exact .inl rfl
  | some f => exact .inr ⟨f, List.mem_of_getElem? hf, rfl⟩

/-- A mark that recovery programs changes headers alone, and no access (R115). -/
theorem Recov.mark_keeps (r : Recov) (i : Nat) (entry : SectorEntry) (header : Header) :
    (r.mark i entry header).store.queue = r.store.queue
      ∧ ((∀ x ∈ r.flash, ∀ n b, UsedSlot.record n b ∈ x.slots → b.priced) →
        ∀ x ∈ (r.mark i entry header).flash, ∀ n b, UsedSlot.record n b ∈ x.slots → b.priced) := by
  fun_cases Recov.mark r i entry header
  · exact ⟨rfl, id⟩
  · exact ⟨rfl, fun h => Flash.modify_priced (f := fun x => { x with header := header }) h fun _ _ _ => .inl⟩
  · exact ⟨Store.fail_queue _, id⟩

/-- The queue holds some accesses, and the records of the array are priced if a condition holds. -/
def Recov.pricedWith (q : List Access) (P : Prop) (r : Recov) : Prop :=
  r.store.queue = q ∧ (P → ∀ x ∈ r.flash, ∀ n b, UsedSlot.record n b ∈ x.slots → b.priced)

section
variable {q : List Access} {P : Prop} {r : Recov}

theorem Recov.pricedWith_mark (h : r.pricedWith q P) (i : Nat) (entry : SectorEntry) (header : Header) :
    (r.mark i entry header).pricedWith q P :=
  ⟨(r.mark_keeps i entry header).1.trans h.1, fun hp => (r.mark_keeps i entry header).2 (h.2 hp)⟩

theorem Recov.pricedWith_foldl (l : List Nat) : ∀ {r : Recov}, r.pricedWith q P → (l.foldl Recov.markFull r).pricedWith q P := by
  induction l with
  | nil => exact id
  | cons i l ih => exact fun h => ih (Recov.pricedWith_mark h _ _ _)

theorem Recov.pricedWith_chooseActive (h : r.pricedWith q P) : r.chooseActive.pricedWith q P := by
  have hf := Recov.pricedWith_foldl (r.store.bySeq fun e => e.state == .active).dropLast h
  simp only [Recov.chooseActive]
  split
  · split
    · exact Recov.pricedWith_mark hf _ _ _
    · exact hf
  · exact hf

theorem Recov.pricedWith_bringIntoUse (h : r.pricedWith q P) : r.bringIntoUse.pricedWith q P := by
  fun_cases Recov.bringIntoUse r
  · exact h
  · exact ⟨(Store.fail_queue _).trans h.1, h.2⟩
  · exact Recov.pricedWith_mark h _ _ _
  · next i _ _ r' _ => exact Recov.pricedWith_mark h i _ _

end

/-- Recovery keeps the accesses, and the records of the array priced (R113, R115). -/
theorem recover_pricedWith (x : Store) (flash : List FlashSector) (scan : Scan) :
    (recover x flash scan).pricedWith x.queue (∀ y ∈ flash, ∀ n b, UsedSlot.record n b ∈ y.slots → b.priced) := by
  unfold recover
  extract_lets found used kept records place table array damaged store r
  have hr : r.pricedWith x.queue (∀ y ∈ flash, ∀ n b, UsedSlot.record n b ∈ y.slots → b.priced) := by
    refine Recov.pricedWith_bringIntoUse (Recov.pricedWith_chooseActive ⟨rfl, fun h y hy => ?_⟩)
    have hfound : ∀ f ∈ found, ∀ n b, UsedSlot.record n b ∈ f.slots → b.priced := by
      intro f hf
      obtain ⟨y, hy, rfl⟩ := List.mem_map.1 hf
      exact h y.1 (List.of_mem_zip (show (y.1, y.2) ∈ _ from hy)).1
    obtain ⟨f, hf, rfl⟩ := List.mem_map.1 hy
    cases hp : place f.2 with
    | none =>
      intro n b hb
      simp only [Found.erasedFlash] at hb
      split at hb
      · cases hb
      · exact hfound f.1 (List.fst_mem_of_mem_zipIdx hf) n b hb
    | some g =>
      obtain ⟨y, hy, rfl⟩ := Option.map_eq_some_iff.1 hp
      have hused : y ∈ used := List.mem_of_mem_filter (List.mem_of_find?_eq_some hy)
      rcases settled_slots hused with hs | ⟨f', hf', hs⟩
      · simp [hs]
      · intro n b hb
        exact hfound f' hf' n b (hs ▸ hb)
  exact ⟨by simpa using hr.1, hr.2⟩

namespace State.Keeps
variable {g e : Nat} {s u : State}

theorem installCal (h : Keeps g e s u) (c : Ch) : Keeps g e s (u.installCal c) := by
  fun_cases State.installCal c u
  · exact h
  · refine h.installed c _ fun d hd => ?_
    cases c <;> cases d <;> simp_all [Calib.install, State.inForce]

theorem reportRecovery (h : Keeps g e s u) : Keeps g e s u.reportRecovery := by
  have hr : ∀ u' : State, Keeps g e s u' → Keeps g e s (if u'.store.condition ≠ .normal then
      u'.raiseStore .condition Config.sectors
    else if 0 < u'.store.damagedFound then u'.raiseStore .none Config.sectors else u') := fun _ h =>
    ite (fun _ => h.raiseStore _ _) fun _ => ite (fun _ => h.raiseStore _ _) fun _ => h
  unfold State.reportRecovery
  refine hr _ ?_
  split
  · exact h.raiseStore _ _
  · exact h

theorem evRecoveryScanEnd (h : Keeps g e s u) (scan : Scan) : Keeps g e s (evRecoveryScanEnd scan u) := by
  have hr := recover_pricedWith u.store u.flash scan
  unfold Machine.evRecoveryScanEnd
  generalize recover u.store u.flash scan = r at hr
  have hs : Keeps g e s ((u.setStore { r.store with condition := r.store.judge }).setFlash r.flash) :=
    (h.setStore (v := { r.store with condition := r.store.judge }) hr.1).setFlash fun hk => hr.2 hk.1
  exact ite (fun _ => h) fun _ => ((reportRecovery (((hs.installCal .p).installCal .b).setTxn)).setLink.raise _ _).pump

/-! ### Requests -/

theorem forChannel (h : Keeps g e s u) (c : Nat) {f : Ch → State → State × Answer} (hf : ∀ c, Keeps g e s (f c u).1) :
    Keeps g e s (forChannel c f u).1 := by
  fun_cases Machine.forChannel c f u
  · exact hf _
  · exact h

theorem serveCalBegin (h : Keeps g e s u) (c : Nat) : Keeps g e s (serveCalBegin c u).1 := by
  fun_cases Machine.serveCalBegin c u
  · exact h
  · exact h.forChannel c h.reqCalBegin

theorem serveDrawerOpen (h : Keeps g e s u) (p reason : Nat) : Keeps g e s (serveDrawerOpen p reason u).1 := by
  fun_cases Machine.serveDrawerOpen p reason u
  · exact h.reqDrawerOpen _ _
  · exact h

/-- An ALIBI_READ that is accepted passes the place of its reply on to its access (R9, R111). -/
theorem reqAlibiRead (h : Keeps (g + 1) e s u) (tag : Byte) (first count : Nat) :
    Keeps (g + (reqAlibiRead tag first count u).2.isSome.toNat) e s (reqAlibiRead tag first count u).1 := by
  fun_cases Machine.reqAlibiRead tag first count u
  · exact h
  · exact h
  · next hf =>
    have hq := Store.queue_lt_of_placesTaken hf
    exact pump { h with
      queue := fun _ => by simpa using hq
      priced := fun hk => by
        obtain ⟨hp, hw, hx⟩ := h.priced hk
        exact ⟨hp, fun r hr => hw r (by simpa using hr), hx⟩
      owing := fun hk => by
        obtain ⟨hl, hr⟩ := h.owing hk
        refine ⟨hl, ?_⟩
        simp only [State.setStore_store, State.setStore_link, Store.join_queue, List.countP_append, Access.owesReply,
          List.countP_singleton, Option.isSome_none, Bool.toNat_false]
        simp only [if_true] 
        omega }

/-- A request other than LANE_RESET is served: its place is held until it is answered. -/
theorem serve (h : Keeps (g + 1) e s u) (tag : Byte) (r : Request) (hr : r ≠ .laneReset) :
    Keeps (g + (serve tag r u).2.isSome.toNat) e s (serve tag r u).1 := by
  cases r
  case laneReset => exact absurd rfl hr
  case settingPut b n v => exact h.reqSettingPut b n v
  case noticeMask m => exact h.setNotices _ _
  case attnBeep c p => exact h.reqAttnBeep c p
  case attnSilence => exact h.reqAttnSilence
  case weightGet c => exact h.forChannel c fun _ => h
  case zero c => exact h.forChannel c h.reqZero
  case tare a v => exact h.reqTare a v
  case calBegin c => exact h.serveCalBegin c
  case calPoint p m => exact h.reqCalPoint p m
  case calParams m e' n st t => exact h.reqCalParams m e' n st t
  case calCommit => exact h.reqCalCommit
  case calAbandon => exact h.reqCalAbandon
  case txnOpen t => exact h.reqTxnOpen t
  case txnTender k => exact h.reqTxnTender k
  case txnResume => exact h.reqTxnResume
  case txnClose => exact h.reqTxnClose
  case txnAbort => exact h.reqTxnAbort
  case priceWeigh u' t f tol => exact h.reqPriceWeigh u' t f tol
  case priceCancel => exact h.reqPriceCancel
  case alibiRead n c => exact h.reqAlibiRead tag n c
  case alibiRelease n => exact h.reqAlibiRelease n
  case expectAdd r w t f => exact h.reqExpectAdd r w t f
  case expectRemove r w t => exact h.reqExpectRemove r w t
  case bagClear => exact h.reqBagClear
  case bagSkip r => exact h.reqBagSkip r
  case cardArm t => exact h.reqCardArm t
  case cardDisarm => exact h.reqCardDisarm
  case cardFetch => exact h.reqCardFetch
  case drawerOpen p r => exact h.serveDrawerOpen p r
  case printRecords rs => exact h.reqPrintRecords _
  case printCancel => exact h.reqPrintCancel
  case printResume => exact h.reqPrintResume
  case settingGet b n => exact h.reqSettingGet b n
  all_goals exact h

/-! ### Conversions and notices -/

theorem handOnB (h : Keeps g e s u) (wasFault formed : Bool) : Keeps g e s (u.handOnB wasFault formed) := by
  have hf := ite (c := wasFault = true ∧ u.chB.state = .weighing) (fun _ => h.bagFaultEnd) fun _ => h
  exact ite (fun _ => hf.bagReading) fun _ => hf

theorem evConversionComplete (h : Keeps g e s u) (c : Ch) (raw : BitVec 24) : Keeps g e s (evConversionComplete c raw u) := by
  unfold Machine.evConversionComplete
  extract_lets wasFault n s₁ formed s₂
  have h₁ : Keeps g e s s₁ := h.convert c raw.toInt
  have h₂ : Keeps g e s s₂ := by
    simp only [s₂]
    cases c
    · exact ite (fun _ => h₁.priceReading) fun _ => h₁
    · exact h₁.handOnB _ _
  exact ite (fun _ => h₂.raiseWeight c) fun _ => h₂

theorem evConversionWatchdogExpiry (h : Keeps g e s u) (c : Ch) : Keeps g e s (evConversionWatchdogExpiry c u) := by
  fun_cases Machine.evConversionWatchdogExpiry c u
  · exact h
  · exact (h.atExpiry _).enterFault _
  · exact ((h.atExpiry _).enterFault _).bagFault

theorem raiseChanges (h : Keeps g e s u) (before : State) : Keeps g e s (u.raiseChanges before) := by
  unfold State.raiseChanges
  extract_lets s₁ s₂ s₃ s₄
  have h₁ : Keeps g e s s₁ := ite (fun _ => h) fun _ => h.raiseTxn
  have h₂ : Keeps g e s s₂ := ite (fun _ => h₁) fun _ => h₁.raiseBag
  have h₃ : Keeps g e s s₃ := ite (fun _ => h₂) fun _ => h₂.raise _ _
  have h₄ : Keeps g e s s₄ := ite (fun _ => h₃) fun _ => h₃.raise _ _
  exact ite (fun _ => h₄) fun _ => h₄.raise _ _

theorem finish (h : Keeps g e s u) (before : State) : Keeps g e s (u.finish before) := (h.raiseChanges before).chooseFrame

/-! ### The answer -/

/-- An answer of any result fills the place of its request. -/
theorem pushReply (h : Keeps (g + 1) e s u) (f : Frame) : Serves g e s (u.pushReply f) :=
  { h with
    owing := fun hk => by
      obtain ⟨hl, hr⟩ := h.owing hk
      refine ⟨?_, ?_⟩ <;> simp only [State.pushReply, State.setLink_link, State.setLink_store,
        List.length_append, List.length_singleton] <;> omega }

theorem decide3 (h : Keeps (g + 1) e s u) (tag : Byte) (r : Request) (hr : r ≠ .laneReset) :
    Keeps (g + (decide3 tag r u).2.isSome.toNat) e s (decide3 tag r u).1 := by
  fun_cases Machine.decide3 tag r u
  · exact h.serve tag r hr
  · exact h
  · exact h.serve tag r hr
  · exact h

/-- A lane reset that is taken keeps its place until it is applied (R19, log entry 1). -/
theorem laneReset_taken (h : Keeps 1 0 s u) (tag : Byte) (ht : u.link.resetTag = none) :
    Serves 0 0 s (u.setLink { u.link with resetTag := some tag }) :=
  { h with
    owing := fun hk => by
      obtain ⟨hl, hr⟩ := h.owing hk
      refine ⟨hl, ?_⟩
      simp only [ht, Option.isSome_none, Bool.toNat_false] at hr
      simp only [State.setLink_link, State.setLink_store, Option.isSome_some, Bool.toNat_true]
      omega }

theorem answerRequest (h : Keeps 1 0 s u) (tag : Byte) (r : Request) (ht : u.link.resetTag = none) :
    Serves 0 0 s (u.answerRequest tag r) := by
  by_cases hr : r = .laneReset
  · subst hr
    unfold State.answerRequest Machine.decide3
    split
    · next heq =>
      split at heq
      · obtain ⟨rfl, -⟩ := Prod.mk.inj heq
        exact h.pushReply _
      · cases heq
    · next heq =>
      split at heq
      · cases heq
      · obtain ⟨rfl, -⟩ := Prod.mk.inj heq
        exact h.laneReset_taken tag ht
  · have hd := h.decide3 (g := 0) tag r hr
    unfold State.answerRequest
    split
    · next heq =>
      rw [heq] at hd
      exact hd.pushReply (g := 0) _
    · next heq =>
      rw [heq] at hd
      exact hd.toServes

end State.Keeps

theorem State.takeRequest_serves (s : State) (tag : Byte) (r : Request) : State.Serves 0 0 s (s.takeRequest tag r) := by
  unfold State.takeRequest
  split
  · next hm =>
    have ht : s.link.resetTag = none := by simpa [Link.mayTake] using (Bool.and_eq_true_iff.1 hm).2
    exact (((State.Keeps.refl s).reservePlace hm).answerRequest tag r ht)
  · exact (State.Keeps.refl s).toServes

/-! ### The link's own commands -/

theorem examine_length_le (quiet : Bool) (l : List RxByte) : (examine quiet l).length ≤ l.length := by
  fun_induction examine quiet l with
  | case1 => exact le_rfl
  | case2 b rest _ ih => exact ih.trans (Nat.le_succ _)
  | case3 b rest _ _ ih => exact ih.trans (Nat.le_succ _)
  | case4 => exact le_rfl

/-- LRDY stands as it was after a hunt, but that it is asserted where the buffer has emptied (R2). -/
theorem Link.hunt_lrdy_of_rise (l : Link) (hf : l.lrdy = false) (ht : l.hunt.lrdy = true) : l.hunt.rx = [] := by
  simp only [Link.hunt] at ht ⊢
  split at ht
  · exact List.isEmpty_iff.1 ‹_›
  · exact absurd (hf.symm.trans ht) (by decide)

namespace State.Stays
variable {s : State}

/-- A receiver that examines its buffer (R5, R6). -/
theorem setLink_hunt (s : State) (v : Link) (hrx : s.link.rx.length ≤ 2048 → v.rx.length ≤ 2048)
    (hl : s.link.lrdy = false → v.lrdy = false) (hq : v.replies = s.link.replies := by rfl)
    (hr : v.reserved = s.link.reserved := by rfl) (ht : v.resetTag = s.link.resetTag := by rfl) :
    s.Stays (s.setLink v.hunt) :=
  { State.Bounds.setLink s _ with
    owing := by simp only [State.owing, State.setLink_link, State.setLink_store, Link.hunt, hq, hr, ht]; exact id
    rx := fun h => (examine_length_le _ _).trans (hrx h)
    lrdy := fun hf h => v.hunt_lrdy_of_rise (hl hf) h }

theorem evByteReceived (s : State) (byte : Byte) (gap framingError : Bool) :
    s.Stays (Machine.evByteReceived byte gap framingError s) := by
  fun_cases Machine.evByteReceived byte gap framingError s
  · exact ((State.Keeps.refl s).setLink).stays
  · next l h =>
    have hlt : s.link.rx.length < 2048 := by
      simp only [Config.rxSize, not_or, not_le] at h
      exact h.2
    refine setLink_hunt s _ (fun _ => ?_) fun hf => ?_
    · simpa [Link.storeByte, l] using hlt
    · simp only [Link.storeByte]
      split
      · rfl
      · exact hf

theorem evCandidateAbandoned (s : State) : s.Stays (Machine.evCandidateAbandoned s) := setLink_hunt s _ id id

theorem evHrdyChange (s : State) (asserted : Bool) : s.Stays (Machine.evHrdyChange asserted s) :=
  ((State.Keeps.refl s).setLink).stays

theorem evByteSent (s : State) : s.Stays (Machine.evByteSent s) := by
  fun_cases Machine.evByteSent s
  · exact ((State.Keeps.refl s).setLink).stays
  all_goals exact (State.Keeps.refl s).stays

/-- A reply that has been sent leaves the queue, and its place with it (R9). -/
theorem evFrameSent (s : State) : s.Stays (Machine.evFrameSent s) := by
  fun_cases Machine.evFrameSent s
  · next t _ _ =>
    have hl : (if t.isReply = true then s.link.replies.tail else s.link.replies).length ≤ s.link.replies.length := by
      split
      · exact List.length_tail.trans_le (Nat.sub_le _ _)
      · exact le_rfl
    exact { State.Bounds.setLink s _ with
      owing := fun ⟨hp, hr⟩ => ⟨(Nat.add_le_add_left hl _).trans hp, hr⟩
      rx := id
      lrdy := fun hf ht => absurd (hf.symm.trans ht) (by decide) }
  all_goals exact (State.Keeps.refl s).stays

end State.Stays

theorem State.Keeps.answerFrame {s u : State} (h : State.Keeps 1 0 s u) (f : Frame) (ht : u.link.resetTag = none) :
    State.Serves 0 0 s (u.answerFrame f) := by
  fun_cases State.answerFrame f u
  · exact h.pushReply _
  · exact h.pushReply _
  · exact h.answerRequest _ _ ht

theorem State.Stays.evFrameTaken (s : State) : s.Stays (Machine.evFrameTaken s) := by
  fun_cases Machine.evFrameTaken s
  · exact (State.Keeps.refl s).stays
  · next f rest hf hm =>
    have hrest : rest.length ≤ s.link.rx.length := by
      unfold Link.headFrame at hf
      split at hf
      · cases hf
      · next b tail hrx =>
        split at hf
        · cases hf
        · cases hf
          rw [hrx, List.length_drop, List.length_cons]
          omega
    have hs := State.Stays.setLink_hunt s { s.link with rx := rest } hrest.trans id
    have ht : s.link.resetTag = none := by simpa [Link.mayTake] using (Bool.and_eq_true_iff.1 hm).2
    refine hs.trans (((State.Keeps.refl _).reservePlace ?_).answerFrame f ht)
    exact hm
  · exact (State.Keeps.refl s).stays

/-! ### Power-on reset -/

theorem brokenMark_priced {l : List FlashSector} {fate : FlashFate} {i : Nat} {applied : Header → Header}
    (h : ∀ x ∈ l, ∀ n r, UsedSlot.record n r ∈ x.slots → r.priced) :
    ∀ x ∈ brokenMark fate i applied l, ∀ n r, UsedSlot.record n r ∈ x.slots → r.priced := by
  cases fate
  · exact h
  · exact Flash.modify_priced (f := fun x => { x with header := applied x.header }) h fun _ _ _ => .inl
  · exact Flash.modify_priced (f := fun x => { x with header := .damaged }) h fun _ _ _ => .inl

theorem brokenProgram_priced {l : List FlashSector} {fate : FlashFate} {i : Nat} {u : UsedSlot}
    (h : ∀ x ∈ l, ∀ n r, UsedSlot.record n r ∈ x.slots → r.priced) (hu : ∀ n r, u = .record n r → r.priced) :
    ∀ x ∈ brokenProgram fate i u l, ∀ n r, UsedSlot.record n r ∈ x.slots → r.priced := by
  cases fate
  · exact h
  · exact Flash.program_priced h hu
  · exact Flash.program_priced h nofun

theorem brokenPulse_priced {l : List FlashSector} {fate : FlashFate} {i : Nat}
    (h : ∀ x ∈ l, ∀ n r, UsedSlot.record n r ∈ x.slots → r.priced) :
    ∀ x ∈ brokenPulse fate i l, ∀ n r, UsedSlot.record n r ∈ x.slots → r.priced := by
  cases fate
  · exact h
  · exact Flash.modify_priced (f := fun _ => { header := .blank, slots := [] }) h fun _ _ _ hr => nomatch hr
  · exact Flash.modify_priced (f := fun x => { x with header := .damaged }) h fun _ _ _ => .inl

/-- Whatever a reset leaves of the flash operation in progress, the array holds no record that is not priced (R13). -/
theorem State.brokenFlash_priced {s : State} (h : s.salesPriced) (fate : FlashFate) :
    ∀ x ∈ s.brokenFlash fate, ∀ n r, UsedSlot.record n r ∈ x.slots → r.priced := by
  obtain ⟨hf, hq, -⟩ := h
  fun_cases State.brokenFlash fate s
  case case1 | case2 | case3 | case5 | case7 | case12 => exact hf
  case case4 r _ _ _ hw =>
    exact brokenProgram_priced hf fun n b hb => by cases hb; exact hq r (hw ▸ List.mem_cons_self)
  case case6 => exact brokenProgram_priced hf fun n b hb => by cases hb; trivial
  case case8 | case9 | case10 => exact brokenMark_priced hf
  case case11 => exact brokenPulse_priced hf

/-- A card reader at power-on has no stream, and no read held (R141, R144). -/
theorem Card.powerOn_empty (p : Pins) (left : Timer) :
    (Card.powerOn p left).streams = Card.reset.streams ∧ (Card.powerOn p left).decoder = none ∧ (Card.powerOn p left).held = none
      ∧ (Card.powerOn p left).holdTimer = none :=
  ⟨rfl, rfl, rfl, rfl⟩

/-- Every block at its value for power-on reset, before the notice of a card slot found in READER_FAULT (R13). -/
def State.poweredOn (pins : Pins) (fate : FlashFate) (s : State) : State :=
  let ch := { Channel.reset with watchdog := s.timer Config.watchdogMs }
  { State.reset with
    clock := s.clock, link := { Link.reset with rateHigh := pins.rateHigh, hrdy := pins.hrdy }, chP := ch, chB := ch
    cal := { Calib.reset with switchClosed := pins.metrologyClosed }, flash := s.brokenFlash fate
    card := Card.powerOn pins (s.timer (Card.reset.leftS * 1000))
    drw1 := Drawer.sampled true pins.drawer1High (s.timer ((Drawer.reset true).overdueS * 1000))
    drw2 := Drawer.sampled false pins.drawer2High none
    prn := Printer.sampled pins, pending := s.pending }

theorem evPowerOnReset_eq (pins : Pins) (fate : FlashFate) (s : State) : evPowerOnReset pins fate s =
    if (s.poweredOn pins fate).card.seat = .readerFault then (s.poweredOn pins fate).raiseCard .fault else s.poweredOn pins fate :=
  rfl

theorem State.Stays.poweredOn (s : State) (pins : Pins) (fate : FlashFate) : s.Stays (s.poweredOn pins fate) where
  queue _ := Nat.zero_le _
  priced h := ⟨State.brokenFlash_priced h fate, nofun, nofun⟩
  capture _ := by
    obtain ⟨hst, hd, -, -⟩ := Card.powerOn_empty pins (s.timer (Card.reset.leftS * 1000))
    simp only [State.captureKept, State.poweredOn, hst, hd]
    exact ⟨rfl, rfl⟩
  read _ := by
    obtain ⟨-, -, hh, ht⟩ := Card.powerOn_empty pins (s.timer (Card.reset.leftS * 1000))
    simp only [State.readKept, State.poweredOn, hh, ht]
    rfl
  places _ := Nat.zero_le _
  bagged _ := Nat.zero_le _
  sales _ := Nat.zero_le _
  print _ := ⟨Nat.zero_le _, Nat.zero_le _⟩
  hold _ := ⟨nofun, fun h => absurd rfl h⟩
  zero c _ := by cases c <;> exact zero_within _ rfl rfl
  owing _ := ⟨Nat.zero_le _, rfl⟩
  rx _ := Nat.zero_le _
  lrdy _ _ := rfl

theorem State.Stays.evPowerOnReset (s : State) (pins : Pins) (fate : FlashFate) : s.Stays (Machine.evPowerOnReset pins fate s) := by
  have hr := State.Stays.poweredOn s pins fate
  rw [evPowerOnReset_eq]
  split
  · exact hr.trans ((State.Keeps.refl _).raiseCard _).toServes
  · exact hr

/-! ### Commands -/

theorem State.Serves.trans {s u t : State} (h : State.Serves 0 0 s u) (k : State.Serves 0 0 u t) : State.Serves 0 0 s t :=
  { h.toBounds.trans k.toBounds with
    rx := k.rx.trans h.rx
    lrdy := k.lrdy.trans h.lrdy
    owing := k.owing ∘ h.owing }

theorem State.Serves.laneResetStep (s : State) (tag : Byte) : State.Serves 0 0 s (Machine.laneResetStep tag s) := by
  fun_cases Machine.laneResetStep tag s
  · next t ht => exact s.applyLaneReset_serves t (ht ▸ rfl)
  · next u t ht => exact Serves.trans (s.takeRequest_serves tag .laneReset) (State.applyLaneReset_serves _ t (ht ▸ rfl))
  · exact s.takeRequest_serves tag .laneReset

/-! ### Every command, and every step -/

theorem State.Stays.of_next {s u t : State} (h : (.next u : Host.Outcome State Fault Refusal) = .next t) (hu : s.Stays u) :
    s.Stays t := by
  cases h
  exact hu

/-- The notices and the choice at the end of a command keep what its own work leaves. -/
theorem State.Stays.of_ended {s u t : State} (h : ended s u = .next t) (hu : s.Stays u) : s.Stays t :=
  .of_next h (hu.trans ((State.Keeps.refl u).finish s).toServes)

theorem State.Stays.of_event {s u t : State} (h : ended s u = .next t) (hu : State.Keeps 0 0 s u) : s.Stays t :=
  .of_ended h hu.stays

theorem State.Stays.of_request {s t : State} {tag : Byte} {r : Request} (h : ended s (s.takeRequest tag r) = .next t) : s.Stays t :=
  .of_ended h (s.takeRequest_serves tag r).stays

theorem State.Stays.printRecordsStep (s : State) (tag : Byte) (body : List Byte) : s.Stays (Machine.printRecordsStep tag body s) := by
  fun_cases Machine.printRecordsStep tag body s
  · exact (s.takeRequest_serves tag _).stays
  · next hm => exact (((State.Keeps.refl s).reservePlace hm).pushReply _).stays
  · exact (State.Keeps.refl s).stays

/-- Every command keeps the bounds of the state and the places of the reply queue. -/
theorem exec_stays {i : Instr} {s t : State} (h : exec i s = .next t) : s.Stays t := by
  have k := State.Keeps.refl s
  cases i
  case powerOnReset pins fate => exact .of_next h (.evPowerOnReset s pins fate)
  case recoveryScanEnd scan => exact .of_next h (k.evRecoveryScanEnd scan).chooseFrame.stays
  case laneReset tag =>
    exact .of_next h ((State.Serves.laneResetStep s tag).trans (State.Keeps.refl _).chooseFrame.toServes).stays
  case byteReceived byte gap framingError => exact .of_ended h (.evByteReceived s byte gap framingError)
  case candidateAbandoned => exact .of_ended h (.evCandidateAbandoned s)
  case frameTaken => exact .of_ended h (.evFrameTaken s)
  case hrdyChange asserted => exact .of_ended h (.evHrdyChange s asserted)
  case frameSent => exact .of_ended h (.evFrameSent s)
  case byteSent => exact .of_ended h (.evByteSent s)
  case printRecords tag body => exact .of_ended h (.printRecordsStep s tag body)
  case conversionComplete c raw => exact .of_event h (k.evConversionComplete c raw)
  case conversionWatchdogExpiry c => exact .of_event h (k.evConversionWatchdogExpiry c)
  case trackingStep c => exact .of_event h (k.evTrackingStep c)
  case metrologySwitchChange closed => exact .of_event h (k.evMetrologySwitchChange closed)
  case saleRecordHandover => exact .of_event h k.evSaleRecordHandover
  case settleTimerExpiry => exact .of_event h k.evSettleTimerExpiry
  case recordProgramEnd verified => exact .of_event h (k.evRecordProgramEnd verified)
  case headerMarkEnd verified => exact .of_event h (k.evHeaderMarkEnd verified)
  case recordReadEnd slots => exact .of_event h (k.evRecordReadEnd slots)
  case erasePulseEnd => exact .of_event h k.evErasePulseEnd
  case blankVerifyEnd blank => exact .of_event h (k.evBlankVerifyEnd blank)
  case deadlineExpiry index => exact .of_event h (k.evDeadlineExpiry index)
  case cardSwitchChange switch closed => exact .of_event h (k.evCardSwitchChange switch closed)
  case fluxTransition track elapsed => exact .of_event h (k.evFluxTransition track elapsed)
  case fluxGap track => exact .of_event h (k.evFluxGap track)
  case decodeEnd => exact .of_event h k.evDecodeEnd
  case cardLeftTimerExpiry => exact .of_event h k.evCardLeftTimerExpiry
  case holdTimerExpiry => exact .of_event h k.evHoldTimerExpiry
  case drawerSensorChange port high => exact .of_event h (k.evDrawerSensorChange port high)
  case kickTimerExpiry port => exact .of_event h (k.evKickTimerExpiry port)
  case holdLimitExpiry port => exact .of_event h (k.evHoldLimitExpiry port)
  case overdueTimerExpiry port => exact .of_event h (k.evOverdueTimerExpiry port)
  case strobePhaseEnd => exact .of_event h k.evStrobePhaseEnd
  case paperAdvanceEnd => exact .of_event h k.evPaperAdvanceEnd
  case weighedLineReadHandover => exact .of_event h k.evWeighedLineReadHandover
  case cutterDriveEnd => exact .of_event h k.evCutterDriveEnd
  case cutterHomeChange home => exact .of_event h (k.evCutterHomeChange home)
  case jamTimerExpiry => exact .of_event h k.evJamTimerExpiry
  case paperSensorChange present => exact .of_event h (k.evPaperSensorChange present)
  case coverSensorChange coverOpen => exact .of_event h (k.evCoverSensorChange coverOpen)
  case paperLowChange low => exact .of_event h (k.evPaperLowChange low)
  case headMonitorSample supply temp => exact .of_event h (k.evHeadMonitorSample supply temp)
  case hostBeepEnd => exact .of_event h k.evHostBeepEnd
  case acceptEnd => exact .of_event h k.evAcceptEnd
  all_goals exact .of_request h

/-- The queue of commands is in no block that a bound names. -/
theorem State.Stays.of_pending {s t : State} {rest : List Instr} (h : State.Stays { s with pending := rest } t) : s.Stays t :=
  { h with }

/-- Every step keeps the bounds of the state and the places of the reply queue. -/
theorem step_stays {s t : State} (h : step s = .next t) : s.Stays t := by
  unfold step at h
  split at h
  · exact .of_next h ((State.Keeps.refl s).setClock _).chooseFrame.stays
  · exact (exec_stays h).of_pending

/-! ### The statements on every step -/

theorem State.replyPlacesKept_iff (s : State) : s.replyPlacesKept ↔ s.owing 0 := by
  simp only [State.replyPlacesKept, State.owing, Nat.add_zero]
  cases s.link.resetTag <;> rfl

theorem State.saleListsKept_iff (s : State) : s.saleListsKept ↔
    s.bag.entries.length + s.bag.reserved ≤ 16 ∧ s.bag.bagged.length ≤ 8 ∧ s.salesWithin 0 := by
  simp only [State.saleListsKept, State.salesWithin, Nat.add_zero]
  cases s.pw.inFlight <;> rfl

/-- Settles O57. -/
theorem everyStepKeepsTheReplyPlaces : Obligations.EveryStepKeepsTheReplyPlaces := fun s t hk h => by
  rw [State.replyPlacesKept_iff] at hk ⊢
  exact (step_stays h).owing hk

/-- Settles O58. -/
theorem everyStepKeepsSalesPriced : Obligations.EveryStepKeepsSalesPriced := fun _ _ hk h => (step_stays h).priced hk

/-- Settles O59. -/
theorem everyStepKeepsTheBounds : Obligations.EveryStepKeepsTheBounds := fun s t h => by
  have hs := step_stays h
  refine ⟨fun ⟨hrx, hq⟩ => ⟨hs.rx hrx, hs.queue hq⟩, hs.capture, fun hk => ?_, hs.print, hs.hold, hs.read, hs.zero .p, hs.zero .b⟩
  rw [State.saleListsKept_iff] at hk ⊢
  obtain ⟨hp, hb, hl⟩ := hk
  exact ⟨hs.places hp, hs.bagged hb, hs.sales hl⟩

/-- Settles O5. -/
theorem lrdyRisesOnlyOnAnEmptyBuffer : Obligations.LrdyRisesOnlyOnAnEmptyBuffer := fun _ _ h => (step_stays h).lrdy

/-! ### Right after reset -/

/-- Settles O60: every list is empty at reset, and every count is 0. -/
theorem keptConditionsHoldAtReset : Obligations.KeptConditionsHoldAtReset := by
  unfold Obligations.KeptConditionsHoldAtReset State.supplyKept Drawer.loadKept State.kicksKept State.waitAllowed
    State.replyPlacesKept State.buffersKept State.captureKept State.saleListsKept State.printQueueKept State.holdKept
    State.readKept
  have hf : ∀ x ∈ State.reset.flash, x.slots = [] := by decide
  refine ⟨by decide, by decide, by decide, ⟨fun x hx n r hr => ?_, nofun, nofun⟩, by decide, by decide, by decide, by decide,
    by decide, by decide, zero_within _ rfl rfl, zero_within _ rfl rfl⟩
  rw [hf x hx] at hr
  cases hr

/-- Settles O2. -/
theorem emptyQueueLetsAMillisecondPass : Obligations.EmptyQueueLetsAMillisecondPass := fun s h => by
  have hs : step s = .next s.tick := by rw [step, h]
  exact hs

/-! ### The end of a command -/

/-- No notice follows a command that leaves the transaction, the verifier, the ports and the printer as they were (R3, R11). -/
theorem State.finish_of_same {s before : State} (ht : s.txn = before.txn := by rfl) (hb : s.bag = before.bag := by rfl)
    (h₁ : s.drw1 = before.drw1 := by rfl) (h₂ : s.drw2 = before.drw2 := by rfl) (hp : s.prn = before.prn := by rfl) :
    s.finish before = s.chooseFrame := by
  simp only [State.finish, State.raiseChanges, ht, hb, h₁, h₂, hp, if_true]

/-- A request that is taken and answered at once (R7, R8). -/
theorem State.takeRequest_of_answer {s t : State} {tag : Byte} {r : Request} {a : Answer} (hm : s.link.mayTake = true)
    (hd : decide3 tag r s.reservePlace = (t, some a)) : s.takeRequest tag r = t.reply r.kind tag a := by
  rw [State.takeRequest, if_pos hm, State.answerRequest, hd]

/-- A request that changes nothing is answered, and the transmitter chooses. -/
theorem ended_of_answer {s : State} {tag : Byte} {r : Request} {a : Answer} (hm : s.link.mayTake = true)
    (hd : decide3 tag r s.reservePlace = (s.reservePlace, some a)) :
    ended s (s.takeRequest tag r) = .next (s.answer r.kind tag a).chooseFrame := by
  rw [ended, s.takeRequest_of_answer hm hd]
  exact congrArg _ State.finish_of_same

/-- Outside the start-up period a request with valid fields goes to its block (R7). -/
theorem decide3_of_fieldsOk {s : State} (tag : Byte) {r : Request} (hs : s.link.starting = false)
    (hf : r.fieldsOk = true := by rfl) : decide3 tag r s = serve tag r s := by
  simp [decide3, hs, hf]

/-- A request that the start-up period does not refuse goes to its block (R14). -/
theorem decide3_of_servedStarting (s : State) (tag : Byte) {r : Request} (hr : r.servedStarting = true := by rfl)
    (hf : r.fieldsOk = true := by rfl) : decide3 tag r s = serve tag r s := by
  simp [decide3, hr, hf]

/-! ### The requests that report -/

theorem flagsByte_singleton (b : Bool) : byte1 (flagsByte [b]) = [if b then 1 else 0] := by cases b <;> rfl

/-- Settles O9. -/
theorem pingAnswersThePartAndTouchesNothing : Obligations.PingAnswersThePartAndTouchesNothing := fun s tag hm => by
  have ha : (reqPing s.reservePlace).2 = .accept [0x40, 0x03, 0x01, if s.link.rateHigh then 1 else 0] := by
    rw [reqPing, flagsByte_singleton]
    rfl
  rw [← ha]
  exact ended_of_answer hm (decide3_of_servedStarting s.reservePlace tag (r := .ping))

theorem sectorBytes_eq (e : SectorEntry) : sectorBytes e =
    [Byte.of e.state.code, if e.released then 1 else 0, if e.pending then 1 else 0] ++ le32 e.seq ++ [Byte.of e.used] := by
  simp only [sectorBytes, flagsByte_singleton]
  rfl

theorem slotCode_byte (c : Card) : Byte.of c.slotCode = if c.decoder.isSome then 4 else Byte.of c.seat.code :=
  apply_ite ..

/-- Settles O10. -/
theorem reportRequestsChangeNothing : Obligations.ReportRequestsChangeNothing := fun s tag hm => by
  have hstatus := ended_of_answer hm (decide3_of_servedStarting s.reservePlace tag (r := .statusGet))
  rw [show (reqStatusGet s.reservePlace).2 = .accept s.statusBytes from rfl, State.statusBytes, flagsByte_singleton] at hstatus
  refine ⟨?_, fun hs => ⟨?_, ?_⟩⟩
  · rw [← slotCode_byte]
    simp only [byte1, List.append_assoc, List.cons_append, List.nil_append] at hstatus ⊢
    exact hstatus
  · have hinfo := ended_of_answer hm (decide3_of_fieldsOk (s := s.reservePlace) (r := .alibiInfo) tag hs)
    rw [show (reqAlibiInfo s.reservePlace).2 = (reqAlibiInfo s).2 from rfl, reqAlibiInfo, funext sectorBytes_eq] at hinfo
    exact hinfo
  · have hget := ended_of_answer hm (decide3_of_fieldsOk (s := s.reservePlace) (r := .bagGet) tag hs)
    rw [show (reqBagGet s.reservePlace).2 = (reqBagGet s).2 from rfl] at hget
    simp only [reqBagGet, flagsByte_singleton] at hget
    exact hget

/-! ### The transmitter -/

theorem Link.choose_of_sending {l : Link} (h : l.tx.isSome = true) : l.choose = l := by
  obtain ⟨t, ht⟩ := Option.isSome_iff_exists.1 h
  simp only [Link.choose, ht]

theorem Link.choose_of_reply {l : Link} {f : Frame} {rest : List Frame} (ht : l.tx = none) (hr : l.replies = f :: rest) :
    l.choose = { l with tx := some { bytes := f.bytes, index := 0, inFlight := l.hrdy, isReply := true } } := by
  simp only [Link.choose, Link.choice, ht, hr]
  rfl

theorem Link.choose_of_notice {l : Link} {before after : List Slot} {k : Slot} {body : List Byte} (ht : l.tx = none)
    (hr : l.replies = []) (ho : Slot.order = before ++ k :: after) (hb : ∀ j ∈ before, l.slots.get j = none)
    (hk : l.slots.get k = some body) :
    l.choose = { l with
      tx := some { bytes := ({ kind := Byte.of k.kind, tag := 0, body := body } : Frame).bytes, index := 0,
                   inFlight := l.hrdy, isReply := false }
      slots := l.slots.set k none } := by
  have hf : Slot.order.find? (fun k => (l.slots.get k).isSome) = some k :=
    List.find?_eq_some_iff_append.2 ⟨by simp [hk], before, after, ho, fun j hj => by simp [hb j hj]⟩
  simp only [Link.choose, Link.choice, ht, hr, hf, Option.map_some, hk]
  rfl

theorem Link.choose_of_empty {l : Link} (ht : l.tx = none) (hr : l.replies = []) (hk : ∀ k, l.slots.get k = none) : l.choose = l := by
  have hf : Slot.order.find? (fun k => (l.slots.get k).isSome) = none :=
    List.find?_eq_none.2 fun k _ => by simp [hk k]
  simp only [Link.choose, Link.choice, ht, hr, hf]
  rfl

/-- A command of the link ends with the transmitter's choice alone. -/
theorem ended_setLink (s : State) (v : Link) : ended s (s.setLink v) = .next (s.setLink v).chooseFrame := by
  rw [ended, State.finish_of_same]

theorem ended_self (s : State) : ended s s = .next s.chooseFrame := by
  rw [ended, State.finish_of_same]

/-- Settles O3. -/
theorem transmitterChoosesAndSendsOneFrame : Obligations.TransmitterChoosesAndSendsOneFrame := by
  refine ⟨fun l => ⟨Link.choose_of_sending, fun f rest => Link.choose_of_reply, fun before k after body => Link.choose_of_notice,
    Link.choose_of_empty⟩, fun s => ⟨fun asserted => ended_setLink s _, fun t ht hf hi => ?_, fun t ht hf hi => ?_, fun ht => ?_⟩⟩
  · have he : evByteSent s = s.setLink { s.link with tx := some { t with index := t.index + 1, inFlight := s.link.hrdy } } := by
      simp only [evByteSent, ht, hf, hi, and_self, if_true]
    refine ((congrArg (ended s) he).trans (ended_setLink s _)).trans ?_
    rw [State.chooseFrame, Link.choose_of_sending rfl]
    rfl
  · have he : evFrameSent s = s.setLink { s.link with
        tx := none, replies := if t.isReply then s.link.replies.tail else s.link.replies } := by
      simp only [evFrameSent, ht, hf, hi, and_self, if_true]
    exact (congrArg (ended s) he).trans (ended_setLink s _)
  · have hb : evByteSent s = s := by simp only [evByteSent, ht]
    have hf : evFrameSent s = s := by simp only [evFrameSent, ht]
    exact ⟨(congrArg (ended s) hb).trans (ended_self s), (congrArg (ended s) hf).trans (ended_self s)⟩

/-! ### The receiver -/

/-- One more byte leaves from the head of the buffer: no sync byte, or that of a candidate to discard (R5, R6). -/
theorem hunted.cons {quiet : Bool} {b : RxByte} {rest after : List RxByte} (h : hunted quiet rest after)
    (hb : b.byte ≠ 0xA5 ∨ verdict quiet rest = .discard) : hunted quiet (b :: rest) after := by
  obtain ⟨gone, rfl, hg, ha⟩ := h
  refine ⟨b :: gone, rfl, fun x y z hx => ?_, ha⟩
  cases x with
  | nil =>
    obtain ⟨rfl, rfl⟩ := List.cons.inj hx
    exact hb
  | cons w x =>
    obtain ⟨-, hx⟩ := List.cons.inj hx
    exact hg x y z hx

theorem hunted_examine (quiet : Bool) (l : List RxByte) : hunted quiet l (examine quiet l) := by
  fun_induction examine quiet l with
  | case1 => exact ⟨[], rfl, fun a b c h => by simp at h, nofun⟩
  | case2 b rest hb ih => exact ih.cons (.inl hb)
  | case3 b rest _ hd ih => exact ih.cons (.inr hd)
  | case4 b rest hb hd =>
    refine ⟨[], rfl, fun x y z h => by simp at h, fun y z h => ?_⟩
    obtain ⟨rfl, rfl⟩ := List.cons.inj h
    exact ⟨not_not.1 hb, hd⟩

theorem Link.hunt_eq (l : Link) : l.hunt =
    { l with rx := examine l.lineQuiet l.rx, lrdy := if examine l.lineQuiet l.rx = [] then true else l.lrdy } := by
  simp only [Link.hunt, List.isEmpty_iff]

/-- Settles O4. -/
theorem receivedByteIsStoredOrLost : Obligations.ReceivedByteIsStoredOrLost := by
  refine fun s byte gap framingError => ⟨fun h => ?_, fun hf hl => ?_, examine true s.link.rx, hunted_examine _ _, ?_⟩
  · have he : evByteReceived byte gap framingError s = s.setLink { s.link with lineQuiet := false, lossNext := true } := if_pos h
    exact (congrArg (ended s) he).trans (ended_setLink s _)
  · have he : evByteReceived byte gap framingError s = s.setLink (({ s.link with lineQuiet := false } : Link).storeByte byte gap).hunt :=
      if_neg (by simp [hf, Config.rxSize, hl])
    refine ⟨_, hunted_examine false _, ((congrArg (ended s) he).trans (ended_setLink s _)).trans ?_⟩
    simp only [Link.hunt_eq, Link.storeByte, List.length_append, List.length_singleton]
    rfl
  · refine (ended_setLink s _).trans ?_
    rw [Link.hunt_eq]
    rfl

/-! ### The bytes of a frame -/

theorem Byte.toNat_of (n : Nat) : (Byte.of n).toNat = n % 256 := BitVec.toNat_ofNat n 8

/-- A number that two bytes hold is read back from them. -/
theorem le16_toNat {n : Nat} (h : n < 65536) : (Byte.of n).toNat + 256 * (Byte.of (n / 256)).toNat = n := by
  rw [Byte.toNat_of, Byte.toNat_of]
  omega

/-- A byte received without gap or loss. -/
def RxByte.clean (b : Byte) : RxByte := { byte := b, gap := false, loss := false }

theorem map_byte_clean (l : List Byte) : (l.map RxByte.clean).map (·.byte) = l := by
  rw [List.map_map]
  exact List.map_id l

theorem Frame.covered_length (f : Frame) : f.covered.length = 4 + f.body.length := by
  simp only [Frame.covered, le16, List.length_append, List.length_cons, List.length_nil]

theorem checkGood_of_frame (f : Frame) :
    checkGood f.body.length ((f.covered ++ le16 (crc16 f.covered).toNat).map RxByte.clean) = true := by
  rw [checkGood, map_byte_clean, ← f.covered_length, List.drop_left, List.take_left]
  exact beq_self_eq_true _

theorem candidateLength_of_frame (f : Frame) (more : List RxByte) (hl : f.body.length ≤ 1024) :
    candidateLength ((f.covered ++ le16 (crc16 f.covered).toNat).map RxByte.clean ++ more) = some f.body.length :=
  congrArg some (le16_toNat (by omega))

theorem frame_length (f : Frame) :
    ((f.covered ++ le16 (crc16 f.covered).toNat).map RxByte.clean).length = f.body.length + 6 := by
  rw [List.length_map, List.length_append, f.covered_length, le16, List.length_cons, List.length_singleton]
  omega

/-- A candidate that consists of the bytes of a frame is good (R5). -/
theorem verdict_of_frame (quiet : Bool) (f : Frame) (more : List RxByte) (hl : f.body.length ≤ 1024) :
    verdict quiet ((f.covered ++ le16 (crc16 f.covered).toNat).map RxByte.clean ++ more) = .good := by
  have hmine := List.take_left' (l₂ := more) (frame_length f)
  rw [verdict, candidateLength_of_frame f more hl]
  simp only [hmine, List.length_append, frame_length]
  rw [checkGood_of_frame]
  simp [RxByte.clean, Config.maxBody, hl]

theorem Link.headFrame_of_good {l : Link} {first : RxByte} {rest : List RxByte} {n : Nat} (hrx : l.rx = first :: rest)
    (hs : first.byte = 0xA5) (hv : verdict l.lineQuiet rest = .good) (hn : candidateLength rest = some n) :
    l.headFrame = some ({ kind := (rest.map (·.byte)).getD 2 0, tag := (rest.map (·.byte)).getD 3 0,
                          body := ((rest.map (·.byte)).drop 4).take n }, rest.drop (n + 6)) := by
  simp [Link.headFrame, hrx, hs, hv, hn, Config.sync]

/-- Settles O6. -/
theorem frameBytesReadBackAsTheFrame : Obligations.FrameBytesReadBackAsTheFrame := by
  intro l f first more hl hs hrx
  rw [Link.headFrame_of_good (rest := (f.covered ++ le16 (crc16 f.covered).toNat).map RxByte.clean ++ more) hrx hs
    (verdict_of_frame l.lineQuiet f more hl) (candidateLength_of_frame f more hl), List.drop_left' (frame_length f),
    List.map_append, map_byte_clean]
  simp [Frame.covered, le16]

/-! ### Frames that the link answers itself -/

/-- A frame that is taken leaves the buffer, and its answer ends the command (R7). -/
theorem exec_frameTaken {s : State} {f : Frame} {rest : List RxByte} (hf : s.link.headFrame = some (f, rest))
    (hm : s.link.mayTake = true) : exec .frameTaken s =
      ended s ((s.setLink { s.link with rx := rest }.hunt).reservePlace.answerFrame f) := by
  have he : evFrameTaken s = (s.setLink { s.link with rx := rest }.hunt).reservePlace.answerFrame f := by
    simp only [evFrameTaken, hf, hm, if_true]
  exact congrArg (ended s) he

theorem Byte.of_add (b : Byte) (n : Nat) : Byte.of (b.toNat + n) = b + Byte.of n := by
  simp [Byte.of, BitVec.ofNat_add]

theorem State.answerFrame_of_badBody {s : State} {f : Frame} (hk : knownKind f.kind.toNat = true)
    (hp : parseBody f.kind.toNat f.body = none) : s.answerFrame f = s.reply f.kind.toNat f.tag (.refuse .badFrame) := by
  rw [State.answerFrame, hk, hp]
  rfl

theorem State.answerFrame_of_request {s : State} {f : Frame} {r : Request} (hk : knownKind f.kind.toNat = true)
    (hp : parseBody f.kind.toNat f.body = some r) : s.answerFrame f = s.answerRequest f.tag r := by
  rw [State.answerFrame, hk, hp]
  rfl

/-- Settles O8. -/
theorem frameWaitsOrIsRefusedByTheLink : Obligations.FrameWaitsOrIsRefusedByTheLink := by
  refine fun s f rest hf => ⟨fun hm => ?_, fun hm hk => ?_, fun hm hk hp => ?_⟩
  · have he : evFrameTaken s = s := by simp only [evFrameTaken, hf, hm]; rfl
    exact (congrArg (ended s) he).trans (ended_self s)
  · rw [exec_frameTaken hf hm, State.answerFrame, hk]
    exact ended_setLink s _
  · rw [exec_frameTaken hf hm, State.answerFrame_of_badBody hk hp]
    refine (ended_setLink s _).trans ?_
    rw [replyFrame, Byte.of_add]
    rfl

/-! ### NOTICE_MASK -/

theorem Slots.get_set (x : Slots) (j k : Slot) (v : Option (List Byte)) : (x.set j v).get k = if j = k then v else x.get k := by
  cases j <;> cases k <;> rfl

/-- The slots of some kinds are gone through: those of a disabled kind are emptied (R12). -/
theorem Slots.get_foldl_keepEnabled (mask : BitVec 10) (weightB : Bool) (l : List Slot) (x : Slots) (k : Slot) :
    (l.foldl (fun acc j => if j.enabled mask weightB then acc else acc.set j none) x).get k =
      if k ∈ l ∧ k.enabled mask weightB = false then none else x.get k := by
  induction l generalizing x with
  | nil => simp
  | cons j l ih =>
    rw [List.foldl_cons, ih]
    by_cases hj : j = k
    · subst hj
      cases he : j.enabled mask weightB <;> simp [Slots.get_set]
    · cases he : j.enabled mask weightB <;> simp [Slots.get_set, hj, Ne.symm hj]

theorem Slot.mem_order (k : Slot) : k ∈ Slot.order := by cases k <;> decide

theorem Slots.get_keepEnabled (mask : BitVec 10) (weightB : Bool) (x : Slots) (k : Slot) :
    (x.keepEnabled mask weightB).get k = if k.enabled mask weightB then x.get k else none := by
  rw [Slots.keepEnabled, Slots.get_foldl_keepEnabled]
  cases k.enabled mask weightB <;> simp [Slot.mem_order]

/-- Outside the start-up period a request with a field of no listed value is answered BAD_VALUE (R7). -/
theorem decide3_of_badField {s : State} (tag : Byte) {r : Request} (hs : s.link.starting = false) (hf : r.fieldsOk = false) :
    decide3 tag r s = (s, some (.refuse .badValue)) := by
  simp [decide3, hs, hf]

/-- Settles O12. -/
theorem noticeMaskEmptiesWhatItDisables : Obligations.NoticeMaskEmptiesWhatItDisables := by
  intro s tag mask hr
  obtain ⟨hm, hs⟩ := hr
  refine ⟨fun h => ⟨s.link.slots.keepEnabled (mask.setWidth 10) s.link.weightB, Slots.get_keepEnabled _ _ _, ?_⟩, fun h => ?_⟩
  · have hd := decide3_of_fieldsOk (s := s.reservePlace) (r := .noticeMask mask.toNat) tag hs (decide_eq_true h)
    rw [show exec (.noticeMask tag mask) s = ended s (s.takeRequest tag (.noticeMask mask.toNat)) from rfl,
      State.takeRequest_of_answer hm hd, ended, State.finish_of_same]
    rfl
  · have hd := decide3_of_badField (s := s.reservePlace) (r := .noticeMask mask.toNat) tag hs
      (decide_eq_false (Nat.not_le.2 h))
    exact ended_of_answer hm hd

/-! ### The rows that are requests -/

/-- A request row other than LANE_RESET takes its request, and ends as every command does. -/
theorem exec_of_request {c : Instr} {tag : Byte} {r : Request} (hc : c.request? = some (tag, r)) (hr : r ≠ .laneReset) (s : State) :
    exec c s = ended s (s.takeRequest tag r) := by
  cases c
  case laneReset => cases hc; exact absurd rfl hr
  case printRecords tag' body =>
    obtain ⟨rs, hrs, he⟩ := Option.map_eq_some_iff.1 hc
    cases he
    have hp : parseBody printKind body = some (.printRecords rs) := by simp only [parseBody, if_true, hrs, Option.map_some]
    exact congrArg (ended s) (by rw [printRecordsStep, hp])
  all_goals cases hc
  all_goals rfl

/-! ### The fields of a body -/

/-- A number that four bytes hold is read back from them. -/
theorem le32_toNat (v : BitVec 32) : (Byte.of v.toNat).toNat + 256 * (Byte.of (v.toNat / 256)).toNat
    + 65536 * ((Byte.of (v.toNat / 65536)).toNat + 256 * (Byte.of (v.toNat / 16777216)).toNat) = v.toNat := by
  have hv := v.isLt
  simp only [Byte.toNat_of]
  omega

theorem le32_toInt (v : BitVec 32) : (BitVec.ofNat 32 ((Byte.of v.toNat).toNat + 256 * (Byte.of (v.toNat / 256)).toNat
    + 65536 * ((Byte.of (v.toNat / 65536)).toNat + 256 * (Byte.of (v.toNat / 16777216)).toNat))).toInt = v.toInt := by
  rw [le32_toNat, BitVec.ofNat_toNat, BitVec.setWidth_eq]

theorem le16_toInt (v : BitVec 16) :
    (BitVec.ofNat 16 ((Byte.of v.toNat).toNat + 256 * (Byte.of (v.toNat / 256)).toNat)).toInt = v.toInt := by
  rw [le16_toNat v.isLt, BitVec.ofNat_toNat, BitVec.setWidth_eq]

/-- The frame of a request row carries its request: each field is read back from its bytes. -/
theorem parseBody_of_frame {c : Instr} {f : Frame} {tag : Byte} {r : Request} (hf : c.frame? = some f)
    (hr : c.request? = some (tag, r)) :
    knownKind f.kind.toNat = true ∧ f.tag = tag ∧ parseBody f.kind.toNat f.body = some r := by
  cases c
  all_goals cases hf
  case printRecords t body =>
    obtain ⟨rs, hrs, he⟩ := Option.map_eq_some_iff.1 hr
    cases he
    exact ⟨rfl, rfl, congrArg (Option.map Request.printRecords) hrs⟩
  all_goals cases hr
  case settingPut b n v => exact ⟨rfl, rfl, congrArg (some <| Request.settingPut _ _ ·) (le32_toNat v)⟩
  case noticeMask m => exact ⟨rfl, rfl, congrArg (some <| Request.noticeMask ·) (le16_toNat m.isLt)⟩
  case tareSemi v => exact ⟨rfl, rfl, congrArg (some <| Request.tare 0 ·) (le32_toInt v)⟩
  case tarePreset v => exact ⟨rfl, rfl, congrArg (some <| Request.tare 1 ·) (le32_toInt v)⟩
  case tareClear v => exact ⟨rfl, rfl, congrArg (some <| Request.tare 2 ·) (le32_toInt v)⟩
  case calPointZero m => exact ⟨rfl, rfl, congrArg (some <| Request.calPoint 0 ·) (le32_toNat m)⟩
  case calPointSpan m => exact ⟨rfl, rfl, congrArg (some <| Request.calPoint 1 ·) (le32_toNat m)⟩
  case calParams m e n st tr =>
    exact ⟨rfl, rfl, congrArg₂ (some <| Request.calParams · · _ _ _) (le32_toInt m) (le16_toNat e.isLt)⟩
  case txnOpen v => exact ⟨rfl, rfl, congrArg (some <| Request.txnOpen ·) (le32_toNat v)⟩
  case priceWeigh u p fl tol =>
    exact ⟨rfl, rfl, (congrArg₂ (some <| Request.priceWeigh · · _ _) (le32_toNat u) (le32_toInt p)).trans
      (congrArg (some <| Request.priceWeigh _ _ _ ·) (le16_toInt tol))⟩
  case alibiRead n k => exact ⟨rfl, rfl, congrArg (some <| Request.alibiRead · _) (le32_toNat n)⟩
  case alibiRelease n => exact ⟨rfl, rfl, congrArg (some <| Request.alibiRelease ·) (le32_toNat n)⟩
  case expectAdd ref w tol fl =>
    exact ⟨rfl, rfl, (congrArg₂ (some <| Request.expectAdd · · _ _) (le32_toNat ref) (le32_toInt w)).trans
      (congrArg (some <| Request.expectAdd _ _ · _) (le16_toInt tol))⟩
  case expectRemove ref w tol =>
    exact ⟨rfl, rfl, (congrArg₂ (some <| Request.expectRemove · · _) (le32_toNat ref) (le32_toInt w)).trans
      (congrArg (some <| Request.expectRemove _ _ ·) (le16_toInt tol))⟩
  case bagSkip ref => exact ⟨rfl, rfl, congrArg (some <| Request.bagSkip ·) (le32_toNat ref)⟩
  all_goals exact ⟨rfl, rfl, rfl⟩

theorem kind_of_frame {c : Instr} {f : Frame} {tag : Byte} {r : Request} (hf : c.frame? = some f)
    (hr : c.request? = some (tag, r)) : f.kind = Byte.of r.kind := by
  cases c
  all_goals cases hf
  case printRecords t body =>
    obtain ⟨rs, -, he⟩ := Option.map_eq_some_iff.1 hr
    cases he
    rfl
  all_goals cases hr
  all_goals rfl

/-- The one row with a frame that may carry no request is PRINT_RECORDS, with a body that is no sequence of records. -/
theorem printRecords_of_frame {c : Instr} {f : Frame} (hf : c.frame? = some f) (hr : c.request? = none) :
    c = .printRecords f.tag f.body ∧ f.kind.toNat = printKind ∧ parseBody printKind f.body = none := by
  cases c
  all_goals cases hf
  case printRecords t body => exact ⟨rfl, rfl, congrArg (Option.map Request.printRecords) (Option.map_eq_none_iff.1 hr)⟩
  all_goals cases hr

/-- What a command ends with compares the blocks alone with those before it. -/
theorem ended_setLink_before (s u : State) (v : Link) : ended (s.setLink v) u = ended s u := rfl

/-- Settles O7. -/
theorem requestFrameRunsItsRow : Obligations.RequestFrameRunsItsRow := by
  intro s c f rest hf hk hh hm
  have hm' : (s.setLink { s.link with rx := rest }.hunt).link.mayTake = true := hm
  rw [exec_frameTaken hh hm, ← ended_setLink_before s _ { s.link with rx := rest }.hunt]
  cases hr : c.request? with
  | none =>
    obtain ⟨hc, hkind, hp⟩ := printRecords_of_frame hf hr
    have hs : printRecordsStep f.tag f.body (s.setLink { s.link with rx := rest }.hunt) =
        (s.setLink { s.link with rx := rest }.hunt).reservePlace.reply printKind f.tag (.refuse .badFrame) := by
      rw [printRecordsStep, hp]
      exact if_pos hm'
    rw [hc, State.answerFrame_of_badBody (f := f) (by rw [hkind]; rfl) (by rw [hkind]; exact hp), hkind]
    exact congrArg (ended _) hs.symm
  | some x =>
    obtain ⟨tag, r⟩ := x
    obtain ⟨hknown, htag, hp⟩ := parseBody_of_frame hf hr
    have hn : r ≠ .laneReset := fun h => hk (by rw [kind_of_frame hf hr, h]; rfl)
    rw [exec_of_request hr hn, State.answerFrame_of_request hknown hp, State.takeRequest, if_pos hm', htag]

/-! ### A request that is refused changes nothing -/

/-- What a request answers leaves the state as it was, where it is a refusal (R8). -/
def Declines (s : State) (x : State × Answer) : Prop := x.2.result ≠ .ok → x.1 = s

@[simp] theorem declines_same (s : State) (a : Answer) : Declines s (s, a) := fun _ => rfl
@[simp] theorem declines_accept (s u : State) (fields : List Byte) : Declines s (u, .accept fields) := fun h => absurd rfl h
@[simp] theorem declines_tareReply (s u v : State) : Declines s (u, tareReply v) := fun h => absurd rfl h
@[simp] theorem declines_removeReply (s u : State) (o : Nat) (x y : Int) : Declines s (u, removeReply o x y) := fun h => absurd rfl h

section
variable (s : State)

theorem declines_reqZero (c : Ch) : Declines s (reqZero c s) := by fun_cases reqZero c s <;> simp
theorem declines_tareSemi : Declines s (tareSemi s) := by fun_cases tareSemi s <;> simp
theorem declines_tarePreset (v : Int) : Declines s (tarePreset v s) := by fun_cases tarePreset v s <;> simp
theorem declines_tareClear : Declines s (tareClear s) := by fun_cases tareClear s <;> simp
theorem declines_reqTare (a : Nat) (v : Int) : Declines s (reqTare a v s) := by
  fun_cases reqTare a v s
  · exact declines_tareSemi s
  · exact declines_tarePreset s v
  · exact declines_tareClear s
theorem declines_reqAttnBeep (c p : Nat) : Declines s (reqAttnBeep c p s) := by fun_cases reqAttnBeep c p s <;> simp
theorem declines_reqExpectAdd (r : Nat) (w t : Int) (f : Nat) : Declines s (reqExpectAdd r w t f s) := by
  fun_cases reqExpectAdd r w t f s <;> simp
theorem declines_reqExpectRemove (r : Nat) (w t : Int) : Declines s (reqExpectRemove r w t s) := by
  fun_cases reqExpectRemove r w t s <;> simp
theorem declines_reqBagClear : Declines s (reqBagClear s) := by fun_cases reqBagClear s <;> simp
theorem declines_reqBagSkip (r : Nat) : Declines s (reqBagSkip r s) := by fun_cases reqBagSkip r s <;> simp
theorem declines_reqAlibiRelease (n : Nat) : Declines s (reqAlibiRelease n s) := by fun_cases reqAlibiRelease n s <;> simp
theorem declines_reqCalBegin (c : Ch) : Declines s (reqCalBegin c s) := by fun_cases reqCalBegin c s <;> simp
theorem declines_calPointZero : Declines s (calPointZero s) := by fun_cases calPointZero s <;> simp
theorem declines_calPointSpan (m : Nat) : Declines s (calPointSpan m s) := by fun_cases calPointSpan m s <;> simp
theorem declines_reqCalPoint (p m : Nat) : Declines s (reqCalPoint p m s) := by
  fun_cases reqCalPoint p m s
  · exact declines_calPointZero s
  · exact declines_calPointSpan s m
theorem declines_reqCalParams (m : Int) (e n st t : Nat) : Declines s (reqCalParams m e n st t s) := by
  fun_cases reqCalParams m e n st t s <;> simp
theorem declines_reqCalCommit : Declines s (reqCalCommit s) := by fun_cases reqCalCommit s <;> simp
theorem declines_reqCalAbandon : Declines s (reqCalAbandon s) := by fun_cases reqCalAbandon s <;> simp
theorem declines_reqCardArm (t : Nat) : Declines s (reqCardArm t s) := by fun_cases reqCardArm t s <;> simp
theorem declines_reqCardDisarm : Declines s (reqCardDisarm s) := by fun_cases reqCardDisarm s; simp
theorem declines_reqCardFetch : Declines s (reqCardFetch s) := by fun_cases reqCardFetch s <;> simp
theorem declines_reqPriceWeigh (u : Nat) (t : Int) (f : Nat) (tol : Int) : Declines s (reqPriceWeigh u t f tol s) := by
  fun_cases reqPriceWeigh u t f tol s <;> simp
theorem declines_reqPriceCancel : Declines s (reqPriceCancel s) := by fun_cases reqPriceCancel s <;> simp
theorem declines_reqDrawerOpen (p : Port) (r : Nat) : Declines s (reqDrawerOpen p r s) := by fun_cases reqDrawerOpen p r s <;> simp
theorem declines_reqPrintResume : Declines s (reqPrintResume s) := by
  fun_cases reqPrintResume s
  case case1 | case2 => exact declines_same _ _
  all_goals exact declines_accept s _ _
theorem declines_reqPrintCancel : Declines s (reqPrintCancel s) := by fun_cases reqPrintCancel s; simp
theorem declines_reqPrintRecords (l : List PrintRecord) : Declines s (reqPrintRecords l s) := by
  fun_cases reqPrintRecords l s
  case case3 => exact declines_accept s _ _
  all_goals exact declines_same _ _
theorem declines_reqTxnOpen (t : Nat) : Declines s (reqTxnOpen t s) := by fun_cases reqTxnOpen t s <;> simp
theorem declines_reqTxnTender (k : Nat) : Declines s (reqTxnTender k s) := by fun_cases reqTxnTender k s <;> simp
theorem declines_reqTxnResume : Declines s (reqTxnResume s) := by fun_cases reqTxnResume s <;> simp
theorem declines_reqTxnClose : Declines s (reqTxnClose s) := by fun_cases reqTxnClose s <;> simp
theorem declines_reqTxnAbort : Declines s (reqTxnAbort s) := by fun_cases reqTxnAbort s <;> simp
theorem declines_reqSettingPut (b n v : Nat) : Declines s (reqSettingPut b n v s) := by fun_cases reqSettingPut b n v s <;> simp
theorem declines_reqSettingGet (b n : Nat) : Declines s (reqSettingGet b n s) := by fun_cases reqSettingGet b n s <;> simp

theorem declines_forChannel (c : Nat) {f : Ch → State → State × Answer} (hf : ∀ c, Declines s (f c s)) :
    Declines s (forChannel c f s) := by
  fun_cases forChannel c f s
  · exact hf _
  · exact declines_same _ _

theorem declines_serveCalBegin (c : Nat) : Declines s (serveCalBegin c s) := by
  fun_cases serveCalBegin c s
  · exact declines_same _ _
  · exact declines_forChannel s c (declines_reqCalBegin s)

theorem declines_serveDrawerOpen (p r : Nat) : Declines s (serveDrawerOpen p r s) := by
  fun_cases serveDrawerOpen p r s
  · exact declines_reqDrawerOpen s _ r
  · exact declines_same _ _

end

/-- A request that its block refuses leaves the state as it was. -/
theorem serve_of_refused {tag : Byte} {r : Request} {s : State} {a : Answer} (ha : (serve tag r s).2 = some a)
    (hn : a.result ≠ .ok) : (serve tag r s).1 = s := by
  have of_declines : ∀ {x : State × Answer}, Declines s x → (answered x).2 = some a → (answered x).1 = s := by
    intro x hx h
    cases h
    exact hx hn
  cases r
  case laneReset => cases ha
  case zero c => exact of_declines (declines_forChannel s c (declines_reqZero s)) ha
  case weightGet c => exact of_declines (declines_forChannel s c fun _ => declines_same _ _) ha
  case noticeMask m => exact of_declines (declines_accept s _ _) ha
  case attnSilence => exact of_declines (declines_accept s _ _) ha
  case settingPut b n v => exact of_declines (declines_reqSettingPut s b n v) ha
  case settingGet b n => exact of_declines (declines_reqSettingGet s b n) ha
  case attnBeep c p => exact of_declines (declines_reqAttnBeep s c p) ha
  case tare a v => exact of_declines (declines_reqTare s a v) ha
  case calBegin c => exact of_declines (declines_serveCalBegin s c) ha
  case calPoint p m => exact of_declines (declines_reqCalPoint s p m) ha
  case calParams m e n st t => exact of_declines (declines_reqCalParams s m e n st t) ha
  case calCommit => exact of_declines (declines_reqCalCommit s) ha
  case calAbandon => exact of_declines (declines_reqCalAbandon s) ha
  case txnOpen t => exact of_declines (declines_reqTxnOpen s t) ha
  case txnTender k => exact of_declines (declines_reqTxnTender s k) ha
  case txnResume => exact of_declines (declines_reqTxnResume s) ha
  case txnClose => exact of_declines (declines_reqTxnClose s) ha
  case txnAbort => exact of_declines (declines_reqTxnAbort s) ha
  case priceWeigh u t f tol => exact of_declines (declines_reqPriceWeigh s u t f tol) ha
  case priceCancel => exact of_declines (declines_reqPriceCancel s) ha
  case alibiRead n c =>
    have hr : ∀ x : State × Option Answer, x = reqAlibiRead tag n c s → x.2 = some a → x.1 = s := by
      fun_cases reqAlibiRead tag n c s
      · rintro _ rfl _; rfl
      · rintro _ rfl _; rfl
      · rintro _ rfl h; cases h
    exact hr _ rfl ha
  case alibiRelease n => exact of_declines (declines_reqAlibiRelease s n) ha
  case expectAdd r w t f => exact of_declines (declines_reqExpectAdd s r w t f) ha
  case expectRemove r w t => exact of_declines (declines_reqExpectRemove s r w t) ha
  case bagClear => exact of_declines (declines_reqBagClear s) ha
  case bagSkip r => exact of_declines (declines_reqBagSkip s r) ha
  case cardArm t => exact of_declines (declines_reqCardArm s t) ha
  case cardDisarm => exact of_declines (declines_reqCardDisarm s) ha
  case cardFetch => exact of_declines (declines_reqCardFetch s) ha
  case drawerOpen p r => exact of_declines (declines_serveDrawerOpen s p r) ha
  case printRecords rs => exact of_declines (declines_reqPrintRecords s _) ha
  case printCancel => exact of_declines (declines_reqPrintCancel s) ha
  case printResume => exact of_declines (declines_reqPrintResume s) ha
  all_goals exact of_declines (declines_same _ _) ha

theorem decide3_of_refused {tag : Byte} {r : Request} {s : State} {a : Answer} (ha : (decide3 tag r s).2 = some a)
    (hn : a.result ≠ .ok) : (decide3 tag r s).1 = s := by
  revert ha
  fun_cases decide3 tag r s
  · exact fun ha => serve_of_refused ha hn
  · exact fun _ => rfl
  · exact fun ha => serve_of_refused ha hn
  · exact fun _ => rfl

/-! ### The refusal in the reply queue -/

theorem Result.eq_ok_of_code {r : Result} (h : Byte.of r.code = 0) : r = .ok := by
  cases r
  case ok => rfl
  all_goals exact absurd h (by decide)

/-- A reply of another result than OK is none of those that end an access or that accept (R8). -/
theorem replyFrame_head {kind : Nat} {tag : Byte} {res : Result} (hn : res ≠ .ok) :
    (replyFrame kind tag (.refuse res)).body.head? ≠ some 0 := fun h =>
  hn (Result.eq_ok_of_code (Option.some.inj h))

/-- A command that adds only replies of accesses that ended adds no refusal. -/
theorem State.Keeps.not_refused {g e : Nat} {s u : State} (h : State.Keeps g e s u) {x : Frame} (hx : x.body.head? ≠ some 0) :
    u.link.replies ≠ s.link.replies ++ [x] := fun he => by
  obtain ⟨mid, hm, hok⟩ := h.replies
  rw [hm] at he
  exact hx (hok x (by simp [List.append_cancel_left he]))

/-- Where a refusal is the last of the replies that a command adds, behind those of accesses that ended, it is the only one. -/
theorem State.Keeps.of_refused {g e : Nat} {s u : State} (h : State.Keeps g e s u) {f x : Frame}
    (he : u.link.replies ++ [f] = s.link.replies ++ [x]) : f = x := by
  obtain ⟨mid, hm, -⟩ := h.replies
  rw [hm, List.append_assoc] at he
  have hmid : mid ++ [f] = [x] := List.append_cancel_left he
  cases mid with
  | nil => exact List.head_eq_of_cons_eq hmid
  | cons y mid => simp at hmid

@[simp] theorem State.raise_replies (k : Slot) (body : List Byte) (s : State) : (s.raise k body).link.replies = s.link.replies := by
  unfold State.raise
  split <;> rfl

@[simp] theorem State.raiseChanges_replies (s before : State) : (s.raiseChanges before).link.replies = s.link.replies := by
  unfold State.raiseChanges State.raiseTxn State.raiseBag
  simp only [apply_ite State.link, apply_ite Link.replies, State.raise_replies, ite_self]

@[simp] theorem State.finish_replies (s before : State) : (s.finish before).link.replies = s.link.replies := by
  simp [State.finish, State.chooseFrame]

theorem Result.eq_of_code {r q : Result} (h : Byte.of r.code = Byte.of q.code) : r = q := by
  have hinv : ∀ r : Result, Result.ofNat (Byte.of r.code).toNat = r := fun r => by cases r <;> rfl
  rw [← hinv r, h, hinv q]

theorem answer_of_replyFrame {kind : Nat} {tag : Byte} {a b : Answer} (h : replyFrame kind tag a = replyFrame kind tag b) : a = b := by
  obtain ⟨hc, hf⟩ := List.cons.inj (Frame.mk.inj h).2.2
  cases a
  cases b
  cases Result.eq_of_code hc
  cases hf
  rfl

theorem refused_of_taken {s t : State} {tag : Byte} {r : Request} {res : Result} (hl : r ≠ .laneReset) (hn : res ≠ .ok)
    (ht : ended s (s.takeRequest tag r) = .next t)
    (hr : t.link.replies = s.link.replies ++ [replyFrame r.kind tag (.refuse res)]) :
    t = (s.answer r.kind tag (.refuse res)).chooseFrame := by
  have hx := replyFrame_head (kind := r.kind) (tag := tag) hn
  obtain rfl := Host.Outcome.next.inj ht
  rw [State.finish_replies, State.takeRequest] at hr
  split at hr
  · next hm =>
    have hd := ((State.Keeps.refl s).reservePlace hm).decide3 (g := 0) tag r hl
    have ha := fun a => decide3_of_refused (tag := tag) (r := r) (s := s.reservePlace) (a := a)
    unfold State.answerRequest at hr
    split at hr
    · next u a he =>
      rw [he] at hd ha
      obtain rfl := answer_of_replyFrame (hd.of_refused hr)
      obtain rfl : u = s.reservePlace := ha _ rfl hn
      exact Host.Outcome.next.inj (ended_of_answer hm he)
    · next u he =>
      rw [he] at hd
      exact (hd.not_refused hx hr).elim
  · simp at hr

/-! ### LANE_RESET -/

/-- Outside the start-up period the taking of LANE_RESET only sets the flag (R19). -/
theorem State.takeRequest_laneReset {s : State} (tag : Byte) (hr : s.ready) : s.takeRequest tag .laneReset =
    s.setLink { s.link with reserved := s.link.reserved + 1, resetTag := some tag } := by
  obtain ⟨hm, hs⟩ := hr
  have hd := decide3_of_fieldsOk (s := s.reservePlace) (r := .laneReset) tag hs
  rw [State.takeRequest, if_pos hm, State.answerRequest, hd]
  rfl

/-- In the start-up period LANE_RESET is answered STARTING (R14). -/
theorem State.takeRequest_laneReset_starting {s : State} (tag : Byte) (hm : s.link.mayTake = true) (hs : s.link.starting = true) :
    s.takeRequest tag .laneReset = s.answer 0x03 tag (.refuse .starting) := by
  have hd : decide3 tag .laneReset s.reservePlace = (s.reservePlace, some (.refuse .starting)) := if_pos hs
  rw [State.takeRequest_of_answer hm hd]
  rfl

/-- What a taking of LANE_RESET leaves (R7, R14, R19). -/
theorem State.takeRequest_laneReset_cases (s : State) (tag : Byte) :
    s.takeRequest tag .laneReset = s
      ∨ s.takeRequest tag .laneReset = s.answer 0x03 tag (.refuse .starting)
      ∨ s.takeRequest tag .laneReset = s.setLink { s.link with reserved := s.link.reserved + 1, resetTag := some tag } := by
  by_cases hm : s.link.mayTake = true
  · cases hs : s.link.starting
    · exact .inr (.inr (s.takeRequest_laneReset tag ⟨hm, hs⟩))
    · exact .inr (.inl (s.takeRequest_laneReset_starting tag hm hs))
  · exact .inl (if_neg hm)

/-- An accepted LANE_RESET adds no refusal. -/
theorem State.applyLaneReset_not_refused {s : State} {tag : Byte} {x : Frame} (hx : x.body.head? ≠ some 0) :
    (s.applyLaneReset tag).link.replies ≠ s.link.replies ++ [x] := by
  intro he
  have hf := (State.Keeps.refl s).resetBlocks.of_refused (f := replyFrame 0x03 tag (.accept [])) he
  exact hx (hf ▸ rfl)

theorem refused_of_laneReset {s : State} {tag : Byte} {res : Result} (hn : res ≠ .ok)
    (hr : (laneResetStep tag s).link.replies = s.link.replies ++ [replyFrame 0x03 tag (.refuse res)]) :
    laneResetStep tag s = s.answer 0x03 tag (.refuse res) := by
  have hx := replyFrame_head (kind := 0x03) (tag := tag) hn
  cases ht : s.link.resetTag with
  | some tag' =>
    rw [laneResetStep, ht] at hr
    exact (State.applyLaneReset_not_refused hx hr).elim
  | none =>
    rcases s.takeRequest_laneReset_cases tag with hu | hu | hu
    · have he : laneResetStep tag s = s := by simp only [laneResetStep, ht, hu]
      rw [he] at hr
      simp at hr
    · have he : laneResetStep tag s = s.answer 0x03 tag (.refuse .starting) := by
        simp only [laneResetStep, ht, hu, State.answer, State.setLink_link]
      rw [he] at hr ⊢
      rw [answer_of_replyFrame (List.head_eq_of_cons_eq (List.append_cancel_left hr))]
    · have he : laneResetStep tag s =
          (s.setLink { s.link with reserved := s.link.reserved + 1, resetTag := some tag }).applyLaneReset tag := by
        simp only [laneResetStep, ht, hu, State.setLink_link]
      rw [he] at hr
      exact (State.applyLaneReset_not_refused hx hr).elim

/-- Settles O54. -/
theorem refusedRequestChangesNothing : Obligations.RefusedRequestChangesNothing := by
  intro s t c tag r res hc hn ht hr
  by_cases hl : r = .laneReset
  · subst hl
    obtain rfl : c = .laneReset tag := by
      cases c
      case laneReset => cases hc; rfl
      case printRecords => obtain ⟨rs, -, he⟩ := Option.map_eq_some_iff.1 hc; cases he
      all_goals cases hc
    obtain rfl := Host.Outcome.next.inj ht
    simp only [State.chooseFrame, State.setLink_link, Link.choose_keeps] at hr
    exact congrArg State.chooseFrame (refused_of_laneReset hn hr)
  · rw [exec_of_request hc hl] at ht
    exact refused_of_taken hl hn ht hr

/-! ### Settings -/

/-- Every setting reads the same in both states. -/
structure State.SameSettings (s t : State) : Prop where
  mask : t.link.mask = s.link.mask := by rfl
  weightB : t.link.weightB = s.link.weightB := by rfl
  settleS : t.pw.settleS = s.pw.settleS := by rfl
  tareAutoclear : t.pw.tareAutoclear = s.pw.tareAutoclear := by rfl
  enableSet : t.bag.enableSet = s.bag.enableSet := by rfl
  band : t.bag.band = s.bag.band := by rfl
  placementS : t.bag.placementS = s.bag.placementS := by rfl
  pairMatch : t.bag.pairMatch = s.bag.pairMatch := by rfl
  requireClear : t.bag.requireClear = s.bag.requireClear := by rfl
  acceptChirp : t.bag.acceptChirp = s.bag.acceptChirp := by rfl
  leftS : t.card.leftS = s.card.leftS := by rfl
  holdS : t.card.holdS = s.card.holdS := by rfl
  staged : t.supply.staged = s.supply.staged := by rfl
  kickFirst : t.supply.kickFirst = s.supply.kickFirst := by rfl
  drawer : ∀ p n, (t.drw p).setting n = (s.drw p).setting n
  darknessSet : t.prn.darknessSet = s.prn.darknessSet := by rfl
  decimals : t.prn.decimals = s.prn.decimals := by rfl
  eraseFirst : t.store.eraseFirst = s.store.eraseFirst := by rfl
  holdUnexported : t.store.holdUnexported = s.store.holdUnexported := by rfl
  tone : t.attn.tone = s.attn.tone := by rfl

theorem State.SameSettings.setting {s t : State} (h : s.SameSettings t) (b n : Nat) : t.setting b n = s.setting b n := by
  have h₁ : ∀ n, t.drw1.setting n = s.drw1.setting n := h.drawer .one
  have h₂ : ∀ n, t.drw2.setting n = s.drw2.setting n := h.drawer .two
  unfold State.setting
  split <;> simp only [h.mask, h.weightB, h.settleS, h.tareAutoclear, h.enableSet, h.band, h.placementS, h.pairMatch,
    h.requireClear, h.acceptChirp, h.leftS, h.holdS, h.staged, h.kickFirst, h₁, h₂, h.darknessSet, h.decimals, h.eraseFirst,
    h.holdUnexported, h.tone]

theorem State.reset_setting : ∀ row ∈ settingRows, State.reset.setting row.block row.setting = row.default_ := by decide

/-! ### The blocks after power-on reset -/

theorem seatOf_eq (front rear : Bool) : seatOf front rear =
    (match front, rear with
      | false, false => .empty | true, false => .entering | true, true => .seated | false, true => .readerFault) := by
  cases front <;> cases rear <;> rfl

theorem seatOf_seated (front rear : Bool) : seatOf front rear = .seated ↔ front = true ∧ rear = true := by
  cases front <;> cases rear <;> decide

/-- A fitted port takes its state from its sensor (R166). -/
theorem Drawer.sampled_fitted (high : Bool) (overdue : Timer) : Drawer.sampled true high overdue =
    { Drawer.reset true with
      levelHigh := high, sensorOpen := high, state := if high then .opened else .closed
      overdueTimer := if high then overdue else none } := by
  cases high <;> rfl

theorem Drawer.sampled_setting (fitted high : Bool) (overdue : Timer) (n : Nat) :
    (Drawer.sampled fitted high overdue).setting n = (Drawer.reset fitted).setting n := by
  cases fitted <;> cases high <;> rfl

/-- A power-on reset is that of the blocks, with the notice of a card slot found in READER_FAULT (R143). -/
theorem evPowerOnReset_slots (pins : Pins) (fate : FlashFate) (s : State) : ∃ slots : Slots,
    (∀ k, k ≠ .weightP → k ≠ .cardState → slots.get k = none)
      ∧ evPowerOnReset pins fate s = (s.poweredOn pins fate).setLink { (s.poweredOn pins fate).link with slots := slots } := by
  have hreset : ∀ k, k ≠ .weightP → (s.poweredOn pins fate).link.slots.get k = none := fun k hk => by
    cases k
    case weightP => exact absurd rfl hk
    all_goals rfl
  rw [evPowerOnReset_eq]
  split
  · refine ⟨(s.poweredOn pins fate).link.slots.set .cardState (some ((s.poweredOn pins fate).card.bytes .fault)),
      fun k hk hc => ?_, if_pos (show Slot.enabled 1023 false .cardState = true by decide)⟩
    rw [Slots.get_set, if_neg (Ne.symm hc)]
    exact hreset k hk
  · exact ⟨_, fun k hk _ => hreset k hk, rfl⟩

/-! ### The flash array after power-on reset -/

theorem Flash.modify_of_get {l : List FlashSector} {i : Nat} {x : FlashSector} (h : l[i]? = some x) (f : FlashSector → FlashSector) :
    Flash.modify i f l = l.set i (f x) := by
  rw [Flash.modify, List.getD_eq_getElem?_getD, h, Option.getD_some]

section
variable {l : List FlashSector} {i : Nat} {x : FlashSector} {fate : FlashFate}

theorem brokenProgram_of_get (h : l[i]? = some x) (hf : fate ≠ .notApplied) (u : UsedSlot) :
    brokenProgram fate i u l = l.set i { x with slots := x.slots ++ [if fate = .applied then u else .cleared] } := by
  cases fate
  · exact absurd rfl hf
  · exact Flash.modify_of_get h fun x => { x with slots := x.slots ++ [u] }
  · exact Flash.modify_of_get h fun x => { x with slots := x.slots ++ [.cleared] }

theorem brokenMark_of_get (h : l[i]? = some x) (hf : fate ≠ .notApplied) (applied : Header → Header) :
    brokenMark fate i applied l = l.set i { x with header := if fate = .applied then applied x.header else .damaged } := by
  cases fate
  · exact absurd rfl hf
  · exact Flash.modify_of_get h fun x => { x with header := applied x.header }
  · exact Flash.modify_of_get h fun x => { x with header := .damaged }

theorem brokenPulse_of_get (h : l[i]? = some x) (hf : fate ≠ .notApplied) :
    brokenPulse fate i l = l.set i (if fate = .applied then { header := .blank, slots := [] } else { x with header := .damaged }) := by
  cases fate
  · exact absurd rfl hf
  · exact Flash.modify_of_get h fun _ => { header := .blank, slots := [] }
  · exact Flash.modify_of_get h fun x => { x with header := .damaged }

end

/-- With no operation on the array in progress, or one that had not begun, the array is kept (R13). -/
theorem State.brokenFlash_of_kept {s : State} {fate : FlashFate}
    (h : s.store.op = .idle ∨ s.store.op = .read ∨ s.store.op = .verify ∨ fate = .notApplied) : s.brokenFlash fate = s.flash := by
  rcases h with h | h | h | rfl
  · simp only [State.brokenFlash, h]
  · simp only [State.brokenFlash, h]
  · simp only [State.brokenFlash, h]
  · unfold State.brokenFlash
    dsimp only
    repeat' split
    all_goals rfl

/-- Settles O15. -/
theorem powerOnResetGivesEveryBlockItsValue : Obligations.PowerOnResetGivesEveryBlockItsValue := by
  intro s pins fate
  obtain ⟨slots, hslots, he⟩ := evPowerOnReset_slots pins fate s
  have h₁ : (s.poweredOn pins fate).drw1 = _ := Drawer.sampled_fitted pins.drawer1High _
  refine ⟨_, congrArg Host.Outcome.next he, State.brokenFlash_of_kept, fun i x hx hf => ?_, ?_⟩
  · refine ⟨fun body rest ho hq ha => ?_, fun c k ho hk ha => ?_, fun released u f r ho hh => ?_, fun seq ho => ?_,
      fun u f r ho hh => ?_, fun first e ho he hi => ?_⟩
    · exact (show s.brokenFlash fate = _ by simp only [State.brokenFlash, ho, hq, ha]).trans (brokenProgram_of_get hx hf _)
    · exact (show s.brokenFlash fate = _ by simp only [State.brokenFlash, ho, hk, ha]).trans (brokenProgram_of_get hx hf _)
    · have hm : s.brokenFlash fate = brokenMark fate i (markFullOn released) s.flash := by simp only [State.brokenFlash, ho]
      exact hm.trans ((brokenMark_of_get hx hf _).trans (by rw [hh]; rfl))
    · have hm : s.brokenFlash fate = brokenMark fate i (fun _ => .marked (some seq) false false) s.flash := by
        simp only [State.brokenFlash, ho]
      exact hm.trans (brokenMark_of_get hx hf _)
    · have hm : s.brokenFlash fate = brokenMark fate i markReleasedOn s.flash := by simp only [State.brokenFlash, ho]
      exact hm.trans ((brokenMark_of_get hx hf _).trans (by rw [hh]; rfl))
    · subst hi
      exact (show s.brokenFlash fate = _ by simp only [State.brokenFlash, ho, he]).trans (brokenPulse_of_get hx hf)
  · have hreset : State.reset.SameSettings ((s.poweredOn pins fate).setLink { (s.poweredOn pins fate).link with slots := slots }) :=
      { drawer := fun p n => by
          cases p
          · exact Drawer.sampled_setting true pins.drawer1High _ n
          · exact Drawer.sampled_setting false pins.drawer2High none n }
    refine ⟨rfl, rfl, rfl, rfl, rfl, rfl, rfl, rfl, rfl, rfl, rfl, hslots, fun c => ?_, rfl, rfl, rfl, rfl, rfl, rfl, rfl, rfl,
      rfl, rfl, rfl, rfl, rfl, rfl, rfl, rfl, rfl, rfl, rfl, rfl, rfl, rfl, rfl, rfl, rfl, rfl, rfl, rfl, rfl, rfl, rfl, rfl, rfl,
      rfl, rfl, rfl, rfl, rfl, rfl, rfl, rfl, rfl, rfl, rfl, rfl, rfl, rfl, rfl, rfl, if_congr (seatOf_seated _ _) rfl rfl, rfl,
      congrArg Drawer.fitted h₁, rfl, congrArg Drawer.state h₁, congrArg Drawer.sensorOpen h₁, rfl,
      congrArg Drawer.overdueTimer h₁, rfl, fun p => ?_, rfl, rfl, rfl, rfl, rfl, rfl, rfl, rfl, rfl, rfl, rfl, rfl, rfl, rfl, rfl,
      rfl, rfl, rfl, rfl, rfl, fun k => ?_, rfl, rfl, fun row hrow => (hreset.setting _ _).trans (State.reset_setting row hrow)⟩
    · cases c <;> exact ⟨rfl, rfl, rfl, rfl, rfl, rfl, rfl, rfl, rfl, rfl⟩
    · cases p
      · exact ⟨congrArg Drawer.forced h₁, congrArg Drawer.grant h₁, congrArg Drawer.reason h₁, congrArg Drawer.kickTimer h₁,
          congrArg Drawer.holdTimer h₁⟩
      · exact ⟨rfl, rfl, rfl, rfl, rfl⟩
    · cases k <;> exact ⟨rfl, rfl⟩

/-! ### A lane reset touches of the link only the notice slots -/

/-- Of the link, only the notice slots have changed. -/
def State.SlotsOnly (s t : State) : Prop := ∃ slots, t.link = { s.link with slots := slots }

namespace State.SlotsOnly
variable {s t : State}

theorem of_link (h : t.link = s.link) : s.SlotsOnly t := ⟨s.link.slots, h⟩

theorem setCh (h : s.SlotsOnly t) (c : Ch) (v : Channel) : s.SlotsOnly (t.setCh c v) := by cases c <;> exact h
theorem setCal (h : s.SlotsOnly t) (v : Calib) : s.SlotsOnly (t.setCal v) := h
theorem setTxn (h : s.SlotsOnly t) (v : Txn) : s.SlotsOnly (t.setTxn v) := h
theorem setPw (h : s.SlotsOnly t) (v : Pricing) : s.SlotsOnly (t.setPw v) := h
theorem setBag (h : s.SlotsOnly t) (v : Bag) : s.SlotsOnly (t.setBag v) := h

theorem ite {c : Prop} [Decidable c] {u : State} (ht : s.SlotsOnly t) (hu : s.SlotsOnly u) : s.SlotsOnly (if c then t else u) := by
  split
  · exact ht
  · exact hu

theorem raise (h : s.SlotsOnly t) (k : Slot) (body : List Byte) : s.SlotsOnly (t.raise k body) := by
  obtain ⟨slots, h⟩ := h
  unfold State.raise
  split
  · exact ⟨t.link.slots.set k (some body), by rw [State.setLink_link, h]⟩
  · exact ⟨slots, h⟩

theorem raiseWeight (h : s.SlotsOnly t) (c : Ch) : s.SlotsOnly (t.raiseWeight c) := ite h ((h.setCh c _).raise _ _)

theorem setTare (h : s.SlotsOnly t) (mg : Int) : s.SlotsOnly (t.setTare mg) :=
  ite h (((h.setPw _).setCh .p _).raiseWeight .p)

theorem moveChannel (h : s.SlotsOnly t) (c : Ch) (target : ChState) (nChanged : Bool) :
    s.SlotsOnly (t.moveChannel c target nChanged) :=
  have hc := h.setCh c ((t.ch c).moved target nChanged)
  have ht := ite (c := c = .p ∧ target.clearsTare = true) (hc.setTare 0) hc
  ite ht (ht.raiseWeight c)

theorem resetSession (h : s.SlotsOnly t) : s.SlotsOnly t.resetSession := by
  fun_cases State.resetSession t
  · exact h
  · exact h.setCal _
  · exact ((h.setCal _).moveChannel _ _ _).raise _ _

theorem abortRequest (h : s.SlotsOnly t) : s.SlotsOnly t.abortRequest := by
  have hr : s.SlotsOnly (if t.pw.reserved = true then t.releaseSlot else t) := ite (h.setBag _) h
  fun_cases State.abortRequest t
  case case1 | case2 => exact ((hr.setPw _).setTxn _).raise _ _
  case case3 => exact ((hr.setPw _).setTxn _).raise _ _
  case case4 | case5 => exact h

theorem resetBlocks (s : State) : s.SlotsOnly s.resetBlocks := by
  have hp : s.SlotsOnly ((s.resetPort .one).resetPort .two).resetPrinter.testBudget := of_link (by simp)
  have ha := hp.abortRequest
  have ht : s.SlotsOnly ((s.resetPort .one).resetPort .two).resetPrinter.testBudget.abortRequest.bagReset.resetTxn := by
    simpa [State.SlotsOnly] using ha
  simpa [State.SlotsOnly, State.resetBlocks] using (ht.setTare 0).resetSession

end State.SlotsOnly

/-! ### A lane reset does not look at the link -/

/-- The two states differ at most in the link. -/
def State.Alike (s t : State) : Prop := ∃ l, t = s.setLink l

/-! The operations that raise no notice commute with a change of the link. -/

section
variable (s : State) (l : Link)

theorem State.setLink_ch (c : Ch) : (s.setLink l).ch c = s.ch c := by cases c <;> rfl
theorem State.setLink_drw (p : Port) : (s.setLink l).drw p = s.drw p := by cases p <;> rfl
theorem State.setDrw_setLink (p : Port) (v : Drawer) : (s.setLink l).setDrw p v = (s.setDrw p v).setLink l := by cases p <;> rfl

theorem State.releaseSource_setLink (k : SourceName) (b : Bool) : (s.setLink l).releaseSource k b = (s.releaseSource k b).setLink l := by
  cases b <;> rfl

theorem State.releaseForced_setLink : (s.setLink l).releaseForced = s.releaseForced.setLink l := State.releaseSource_setLink s l _ _
theorem State.releaseOverdue_setLink : (s.setLink l).releaseOverdue = s.releaseOverdue.setLink l := State.releaseSource_setLink s l _ _

theorem State.enterOpen_setLink (p : Port) (b : Bool) : (s.setLink l).enterOpen p b = (s.enterOpen p b).setLink l := by
  cases p <;> rfl

theorem State.sampleSensor_setLink (p : Port) : (s.setLink l).sampleSensor p = (s.sampleSensor p).setLink l := by
  simp only [State.sampleSensor, State.setLink_drw, State.setDrw_setLink, State.enterOpen_setLink]
  split <;> rfl

theorem State.applyFitted_setLink (p : Port) : (s.setLink l).applyFitted p = (s.applyFitted p).setLink l := by
  simp only [State.applyFitted, State.setLink_drw, State.setDrw_setLink, State.sampleSensor_setLink, State.releaseForced_setLink,
    State.releaseOverdue_setLink]
  split
  · rfl
  · split <;> rfl

theorem State.resetPort_setLink (p : Port) : (s.setLink l).resetPort p = (s.resetPort p).setLink l := by
  simp only [State.resetPort, State.setLink_drw, State.setDrw_setLink, State.enterOpen_setLink]
  split
  · rfl
  · split <;> simp only [State.releaseForced_setLink, State.releaseOverdue_setLink, State.applyFitted_setLink]

theorem State.testBudget_setLink : (s.setLink l).testBudget = s.testBudget.setLink l := by
  rw [State.testBudget, State.testBudget, apply_ite (State.setLink l)]
  rfl

theorem State.bagEnd_setLink : (s.setLink l).bagEnd = s.bagEnd.setLink l := by
  rw [State.bagEnd, State.bagEnd, apply_ite (State.setLink l)]
  rfl

theorem State.bagReset_setLink : (s.setLink l).bagReset = s.bagReset.setLink l := by
  rw [State.bagReset, State.bagEnd_setLink]
  rfl

theorem State.resetTxn_setLink : (s.setLink l).resetTxn = s.resetTxn.setLink l := by
  rw [State.resetTxn, State.resetTxn, apply_ite (State.setLink l)]
  rfl

theorem State.releaseCardLeft_setLink : (s.setLink l).releaseCardLeft = s.releaseCardLeft.setLink l := by
  rw [State.releaseCardLeft, State.releaseCardLeft, apply_ite (State.setLink l)]
  rfl

theorem State.resetCard_setLink : (s.setLink l).resetCard = s.resetCard.setLink l := by
  rw [State.resetCard, State.releaseCardLeft_setLink]
  rfl

end

namespace State.Alike
variable {s t : State}

theorem ite {c d : Prop} [Decidable c] [Decidable d] {s' t' : State} (hc : c ↔ d) (h : s.Alike t) (h' : s'.Alike t') :
    (if c then s else s').Alike (if d then t else t') := by
  by_cases hd : d
  · rw [if_pos (hc.2 hd), if_pos hd]
    exact h
  · rw [if_neg (mt hc.1 hd), if_neg hd]
    exact h'

theorem raise (h : s.Alike t) (j k : Slot) (body body' : List Byte) : (s.raise j body).Alike (t.raise k body') := by
  obtain ⟨l, rfl⟩ := h
  unfold State.raise
  repeat' split
  all_goals exact ⟨_, rfl⟩

theorem ch (h : s.Alike t) (c : Ch) : t.ch c = s.ch c := by
  obtain ⟨l, rfl⟩ := h
  exact s.setLink_ch l c

theorem raiseWeight (h : s.Alike t) (c : Ch) : (s.raiseWeight c).Alike (t.raiseWeight c) := by
  obtain ⟨l, rfl⟩ := h
  cases c
  · exact ite Iff.rfl ⟨l, rfl⟩ (raise ⟨l, rfl⟩ _ _ _ _)
  · exact ite Iff.rfl ⟨l, rfl⟩ (raise ⟨l, rfl⟩ _ _ _ _)

theorem setTare (h : s.Alike t) (mg : Int) : (s.setTare mg).Alike (t.setTare mg) := by
  obtain ⟨l, rfl⟩ := h
  exact ite Iff.rfl ⟨l, rfl⟩ (raiseWeight ⟨l, rfl⟩ .p)

theorem moveChannel (h : s.Alike t) (c : Ch) (target : ChState) (nChanged : Bool) :
    (s.moveChannel c target nChanged).Alike (t.moveChannel c target nChanged) := by
  obtain ⟨l, rfl⟩ := h
  have hc : (s.setCh c ((s.ch c).moved target nChanged)).Alike ((s.setLink l).setCh c (((s.setLink l).ch c).moved target nChanged)) :=
    ⟨l, by cases c <;> rfl⟩
  have ht := ite (Iff.refl (c = .p ∧ target.clearsTare = true)) (hc.setTare 0) hc
  unfold State.moveChannel
  exact ite (Iff.of_eq (congrArg₂ (fun x y : Channel => x.state = y.state) (ht.ch c).symm (s.setLink_ch l c).symm)) ht
    (ht.raiseWeight c)

theorem resetSession (h : s.Alike t) : s.resetSession.Alike t.resetSession := by
  obtain ⟨l, rfl⟩ := h
  unfold State.resetSession
  rw [State.setLink_cal]
  split
  · exact ⟨l, rfl⟩
  · next x _ =>
    exact ite Iff.rfl ⟨l, rfl⟩ (raise (moveChannel ⟨l, rfl⟩ _ _ _) _ _ _ _)

theorem setPw (h : s.Alike t) {v w : Pricing} (hv : w = v) : (s.setPw v).Alike (t.setPw w) := by
  obtain ⟨l, rfl⟩ := h
  exact ⟨l, hv ▸ rfl⟩

theorem clearInFlight (h : s.Alike t) : s.clearInFlight.Alike t.clearInFlight := by
  obtain ⟨l, rfl⟩ := h
  exact ⟨l, rfl⟩

theorem pw (h : s.Alike t) : t.pw = s.pw := by
  obtain ⟨l, rfl⟩ := h
  rfl

/-- A reservation that the request held is released. -/
theorem releaseReserved (h : s.Alike t) :
    (if s.pw.reserved = true then s.releaseSlot else s).Alike (if t.pw.reserved = true then t.releaseSlot else t) := by
  obtain ⟨l, rfl⟩ := h
  exact ite Iff.rfl ⟨l, rfl⟩ ⟨l, rfl⟩

theorem endRequest (h : s.Alike t) (result : PwResult) (reason : PwReason) :
    (s.endRequest result reason).Alike (t.endRequest result reason) :=
  have hr := h.releaseReserved
  (hr.setPw (congrArg (fun x : Pricing => x.ended result reason 0) hr.pw)).clearInFlight.raise _ _ _ _

theorem abortRequest (h : s.Alike t) : s.abortRequest.Alike t.abortRequest := by
  have hr := h.releaseReserved
  have hs := (hr.setPw (congrArg (fun x : Pricing => { x with state := .detached, reserved := false }) hr.pw)).clearInFlight
  unfold State.abortRequest
  rw [h.pw]
  split
  · exact h.endRequest _ _
  · exact h.endRequest _ _
  · rw [h.pw] at hs
    exact hs.raise _ _ _ _
  · exact h
  · exact h

theorem resetPort (h : s.Alike t) (p : Port) : (s.resetPort p).Alike (t.resetPort p) := by
  obtain ⟨l, rfl⟩ := h
  exact ⟨l, s.resetPort_setLink l p⟩

theorem resetPrinter (h : s.Alike t) : s.resetPrinter.Alike t.resetPrinter := by
  obtain ⟨l, rfl⟩ := h
  exact ⟨l, rfl⟩

theorem testBudget (h : s.Alike t) : s.testBudget.Alike t.testBudget := by
  obtain ⟨l, rfl⟩ := h
  exact ⟨l, s.testBudget_setLink l⟩

theorem bagReset (h : s.Alike t) : s.bagReset.Alike t.bagReset := by
  obtain ⟨l, rfl⟩ := h
  exact ⟨l, s.bagReset_setLink l⟩

theorem resetTxn (h : s.Alike t) : s.resetTxn.Alike t.resetTxn := by
  obtain ⟨l, rfl⟩ := h
  exact ⟨l, s.resetTxn_setLink l⟩

theorem resetCard (h : s.Alike t) : s.resetCard.Alike t.resetCard := by
  obtain ⟨l, rfl⟩ := h
  exact ⟨l, s.resetCard_setLink l⟩

theorem endBeep (h : s.Alike t) : s.endBeep.Alike t.endBeep := by
  obtain ⟨l, rfl⟩ := h
  exact ⟨l, rfl⟩

theorem unmute (h : s.Alike t) : (s.setAttn s.attn.unmute).Alike (t.setAttn t.attn.unmute) := by
  obtain ⟨l, rfl⟩ := h
  exact ⟨l, rfl⟩

theorem resetBlocks (h : s.Alike t) : s.resetBlocks.Alike t.resetBlocks :=
  ((h.resetPort .one).resetPort .two).resetPrinter.testBudget.abortRequest.bagReset.resetTxn.setTare 0
    |>.resetSession.resetCard.endBeep.unmute

end State.Alike

/-! ### The lane reset of a request taken -/

theorem laneResetStep_of_taken {s : State} {tag : Byte} (other : Byte) (h : s.link.resetTag = some tag) :
    laneResetStep other s = s.applyLaneReset tag := by
  rw [laneResetStep, h]

theorem laneResetStep_of_ready {s : State} (tag : Byte) (h : s.ready) : laneResetStep tag s =
    (s.setLink { s.link with reserved := s.link.reserved + 1, resetTag := some tag }).applyLaneReset tag := by
  have hn : s.link.resetTag = none := by simpa [Link.mayTake] using (Bool.and_eq_true_iff.1 h.1).2
  simp only [laneResetStep, hn, s.takeRequest_laneReset tag h, State.setLink_link]

/-- The link after a lane reset: the slots are empty, the reply fills the place reserved, and the flag is cleared (R19). -/
theorem State.applyLaneReset_link (s : State) (tag : Byte) : (s.applyLaneReset tag).link = { s.link with
    slots := Slots.empty, reserved := s.link.reserved - 1, replies := s.link.replies ++ [replyFrame 0x03 tag (.accept [])]
    resetTag := none } := by
  obtain ⟨slots, h⟩ := State.SlotsOnly.resetBlocks s
  simp only [State.applyLaneReset, State.endReset, State.reply, State.pushReply, State.setLink_link, State.setChB_link,
    State.setChP_link, h]

theorem State.Alike.endReset {s t : State} (h : s.Alike t) (tag other : Byte) : (s.endReset tag).Alike (t.endReset other) := by
  obtain ⟨l, rfl⟩ := h
  exact ⟨_, rfl⟩

theorem State.Alike.eq_of_link {s t : State} (h : s.Alike t) : s = { t with link := s.link } := by
  obtain ⟨l, rfl⟩ := h
  rfl

theorem State.Alike.chooseFrame {s t : State} (h : s.Alike t) : s.chooseFrame.Alike t.chooseFrame := by
  obtain ⟨l, rfl⟩ := h
  exact ⟨_, rfl⟩

theorem exec_laneReset_of_taken {s : State} {tag : Byte} (other : Byte) (h : s.link.resetTag = some tag) :
    exec (.laneReset other) s = .next (s.applyLaneReset tag).chooseFrame := by
  rw [← laneResetStep_of_taken other h]
  rfl

theorem exec_laneReset_of_ready {s : State} (tag : Byte) (h : s.ready) : exec (.laneReset tag) s =
    .next ((s.setLink { s.link with reserved := s.link.reserved + 1, resetTag := some tag }).applyLaneReset tag).chooseFrame := by
  rw [← laneResetStep_of_ready tag h]
  rfl

/-- While a reply waits, the transmitter's choice empties no slot (R11). -/
theorem Link.choose_of_replies {l : Link} (h : l.replies ≠ []) : l.choose = { l with tx := l.choose.tx } := by
  obtain ⟨f, rest, hr⟩ := List.exists_cons_of_ne_nil h
  cases ht : l.tx with
  | some t => rw [Link.choose_of_sending (by rw [ht]; rfl)]
  | none => rw [Link.choose_of_reply ht hr]

/-- Settles O14. -/
theorem laneResetInTwoSteps : Obligations.LaneResetInTwoSteps := by
  intro s tag rest
  refine ⟨fun hf hr => ?_, fun other ht => ⟨⟨rfl, rfl⟩, _, _, exec_laneReset_of_taken other ht,
    exec_laneReset_of_ready tag ⟨rfl, rfl⟩, ?_, ?_, ?_, ?_, ?_⟩⟩
  · obtain ⟨hm, hs⟩ := hr
    have hu : (s.setLink { s.link with rx := rest }.hunt).takeRequest tag .laneReset = _ :=
      State.takeRequest_laneReset tag ⟨hm, hs⟩
    have he : exec .frameTaken s = ended s ((s.setLink { s.link with rx := rest }.hunt).takeRequest tag .laneReset) := by
      rw [exec_frameTaken hf hm, State.answerFrame_of_request (r := .laneReset) rfl rfl, State.takeRequest, if_pos]
      exact hm
    rw [hu] at he
    refine ⟨_, he.trans (ended_setLink s _), rfl, ?_, ?_, ?_⟩
    · simp [State.chooseFrame]
    · simp [State.chooseFrame, Link.mayTake]
    · simp [State.chooseFrame, Link.hunt]
  · have ha : s.Alike (s.setLink { s.link with resetTag := some tag, starting := false, replies := [], reserved := 1 }) := ⟨_, rfl⟩
    exact ((ha.resetBlocks.endReset tag tag).chooseFrame).eq_of_link
  · rw [State.chooseFrame, State.setLink_link, (Link.choose_keeps _).2.2.1, State.applyLaneReset_link]
    rfl
  · have hl := s.applyLaneReset_link tag
    rw [State.chooseFrame, State.setLink_link, Link.choose_of_replies (by rw [hl]; simp), hl]
  · simp [State.applyLaneReset]
  · simp [State.applyLaneReset]

/-! ### The stages of a lane reset -/

/-- The ports, the printer and the supply have applied their lane reset. -/
def State.supplyReset (s : State) : State := ((s.resetPort .one).resetPort .two).resetPrinter.testBudget

/-- So have the priced weighing, the verifier and the transaction. -/
def State.saleReset (s : State) : State := s.supplyReset.abortRequest.bagReset.resetTxn

theorem State.resetBlocks_eq (s : State) : s.resetBlocks =
    let u := ((s.saleReset.setTare 0).resetSession).resetCard.endBeep
    u.setAttn u.attn.unmute := rfl

@[simp] theorem State.supplyReset_keeps (s : State) :
    s.supplyReset.clock = s.clock ∧ s.supplyReset.chP = s.chP ∧ s.supplyReset.chB = s.chB ∧ s.supplyReset.cal = s.cal
      ∧ s.supplyReset.txn = s.txn ∧ s.supplyReset.pw = s.pw ∧ s.supplyReset.bag = s.bag ∧ s.supplyReset.card = s.card := by
  simp [State.supplyReset]

@[simp] theorem State.saleReset_keeps (s : State) :
    s.saleReset.clock = s.clock ∧ s.saleReset.chP = s.chP ∧ s.saleReset.chB = s.chB ∧ s.saleReset.cal = s.cal
      ∧ s.saleReset.card = s.card ∧ s.saleReset.drw1 = s.supplyReset.drw1 ∧ s.saleReset.drw2 = s.supplyReset.drw2
      ∧ s.saleReset.supply = s.supplyReset.supply ∧ s.saleReset.store = s.supplyReset.store ∧ s.saleReset.prn = s.supplyReset.prn := by
  simp [State.saleReset]

/-! ### The priced weighing, the transaction and the verifier -/

theorem State.abortRequest_txn (s : State) : ∃ b, s.abortRequest.txn = { s.txn with inFlight := b } := by
  unfold State.abortRequest
  split
  · exact ⟨false, by simp [State.endRequest, State.clearInFlight, State.ite_fields]⟩
  · exact ⟨false, by simp [State.endRequest, State.clearInFlight, State.ite_fields]⟩
  · exact ⟨false, by simp [State.clearInFlight, State.ite_fields]⟩
  · exact ⟨_, rfl⟩
  · exact ⟨_, rfl⟩

theorem State.abortRequest_bag (s : State) : ∃ n, s.abortRequest.bag = { s.bag with reserved := n } := by
  have hr : ∃ n, (if s.pw.reserved then s.releaseSlot else s).bag = { s.bag with reserved := n } := by
    split
    · exact ⟨0, rfl⟩
    · exact ⟨_, rfl⟩
  obtain ⟨n, hr⟩ := hr
  unfold State.abortRequest
  split
  · exact ⟨n, by simpa [State.endRequest] using hr⟩
  · exact ⟨n, by simpa [State.endRequest] using hr⟩
  · exact ⟨n, by simpa using hr⟩
  · exact ⟨_, rfl⟩
  · exact ⟨_, rfl⟩

/-- A waiting request ends (R93, R94). -/
theorem State.abortRequest_pw_waiting {s : State} (h : s.pw.state = .waitRearm ∨ s.pw.state = .waitStable) :
    s.abortRequest.pw = s.pw.ended .aborted .none 0 := by
  unfold State.abortRequest
  rcases h with h | h <;> rw [h] <;> simp [State.endRequest, State.ite_fields]

/-- A latched request is detached (R93, R94). -/
theorem State.abortRequest_pw_storing {s : State} (h : s.pw.state = .storing) :
    s.abortRequest.pw = { s.pw with state := .detached, reserved := false } := by
  unfold State.abortRequest
  rw [h]
  simp [State.ite_fields]

theorem State.abortRequest_pw_other {s : State} (h : s.pw.state = .idle ∨ s.pw.state = .detached) : s.abortRequest.pw = s.pw := by
  unfold State.abortRequest
  rcases h with h | h <;> rw [h]

theorem State.abortRequest_pw_keeps (s : State) :
    s.abortRequest.pw.rearm = s.pw.rearm ∧ s.abortRequest.pw.reference = s.pw.reference
      ∧ s.abortRequest.pw.settleS = s.pw.settleS ∧ s.abortRequest.pw.tareAutoclear = s.pw.tareAutoclear := by
  cases h : s.pw.state
  case waitRearm => rw [State.abortRequest_pw_waiting (.inl h)]; exact ⟨rfl, rfl, rfl, rfl⟩
  case waitStable => rw [State.abortRequest_pw_waiting (.inr h)]; exact ⟨rfl, rfl, rfl, rfl⟩
  case storing => rw [State.abortRequest_pw_storing h]; exact ⟨rfl, rfl, rfl, rfl⟩
  case idle => rw [State.abortRequest_pw_other (.inl h)]; exact ⟨rfl, rfl, rfl, rfl⟩
  case detached => rw [State.abortRequest_pw_other (.inr h)]; exact ⟨rfl, rfl, rfl, rfl⟩

theorem State.resetTxn_txn (s : State) : s.resetTxn.txn = if s.txn.state = .idle then s.txn else
    { s.txn with state := .idle, inFlight := false, endCause := .reset, receipt := s.txn.receipt.aborted } := by
  unfold State.resetTxn
  split <;> rfl

theorem State.resetTxn_bag (s : State) : s.resetTxn.bag =
    { s.bag with enabled := if s.txn.state = .idle then s.bag.enabled else s.bag.enableSet } := by
  unfold State.resetTxn
  split <;> rfl

theorem State.bagReset_bag (s : State) : s.bagReset.bag =
    if s.bag.state = .inactive then { s.bag with bagged := [], baseline := 0, lastMatched := none }
    else { s.bag with
      state := .inactive, entries := [], reserved := 0, kind := .none, delta := 0, ref := none, bagged := [], baseline := 0
      lastMatched := none } := by
  unfold State.bagReset State.bagEnd
  split <;> simp [State.endSource]

theorem State.setTare_pw (s : State) (mg : Int) : (s.setTare mg).pw =
    if mg = s.chP.tare then s.pw else s.pw.shiftReference s.chP.tare mg := by
  unfold State.setTare
  split <;> simp

theorem State.setTare_zero_pw (s : State) : (s.setTare 0).pw = { s.pw with
    reference := if s.pw.rearm = true then s.pw.reference else s.pw.reference + s.chP.tare / 1000 } := by
  rw [State.setTare_pw, Pricing.shiftReference]
  split
  · next h => simp [← h]
  · split
    · rfl
    · simp

/-! ### The channels in a lane reset -/

/-- A channel without its last raised report, which a lane reset discards (R45). -/
def Channel.unreported (x : Channel) : Channel := { x with lastReport := none }

theorem State.raiseWeight_unreported (s : State) (c d : Ch) : ((s.raiseWeight c).ch d).unreported = (s.ch d).unreported := by
  unfold State.raiseWeight State.raise
  dsimp only
  repeat' split
  all_goals cases c <;> cases d <;> rfl

theorem State.raiseWeight_tare (s : State) (c : Ch) : (s.raiseWeight c).chP.tare = s.chP.tare := by
  have h := congrArg Channel.tare (s.raiseWeight_unreported c .p)
  exact h

theorem State.setTare_of_eq {s : State} {mg : Int} (h : mg = s.chP.tare) : s.setTare mg = s := if_pos h

theorem State.setTare_tare (s : State) (mg : Int) : (s.setTare mg).chP.tare = mg := by
  unfold State.setTare
  split
  · next h => exact h.symm
  · rw [State.raiseWeight_tare]
    rfl

/-- Clearing the tare changes of the channels only P's tare, beside the last raised report. -/
theorem State.setTare_unreported (s : State) (mg : Int) (c : Ch) : ((s.setTare mg).ch c).unreported =
    { s.ch c with tare := if c = .p then mg else (s.ch c).tare, lastReport := none } := by
  unfold State.setTare
  split
  · next h => subst h; cases c <;> rfl
  · rw [State.raiseWeight_unreported]
    cases c <;> rfl

/-- The state in which a move finds a channel: of one in FAULT, the one to which it resumes (R21). -/
def Channel.movedFrom (x : Channel) : ChState := if x.state = .fault then x.resume else x.state

/-- The moves of R21, on the fields of a channel: those with no change of N. -/
theorem Channel.moved_eq (x : Channel) (target : ChState) : x.moved target false = { x with
    window := if x.movedFrom.counts = target.counts then x.window else []
    latest := if x.movedFrom.counts = target.counts then x.latest else x.latest.map fun r => { r with stable := false }
    state := if x.state = .fault then .fault else target
    resume := if x.state = .fault then target else x.resume
    zo := if target = .noZero then 0 else x.zo
    zoInit := if target = .noZero then 0 else x.zoInit
    tracking := if target = .noZero ∨ target = .calibrating then none else x.tracking } := by
  by_cases hs : x.movedFrom.counts = target.counts
  all_goals
    by_cases hf : x.state = .fault
    all_goals
      simp only [Channel.movedFrom, hf, if_true, if_false] at hs
      by_cases hn : target = .noZero
      · subst hn
        simp [Channel.moved, Channel.movedFrom, hf, hs]
      · by_cases hc : target = .calibrating
        · subst hc
          simp [Channel.moved, Channel.movedFrom, hf, hs]
        · simp [Channel.moved, Channel.movedFrom, hf, hn, hc, hs]

theorem Channel.moved_tare (x : Channel) (target : ChState) : (x.moved target false).tare = x.tare := by rw [Channel.moved_eq]

/-- With P's tare 0, a move is that of the channel itself, with its report (R21, R45). -/
theorem State.moveChannel_of_noTare {s : State} (c : Ch) (target : ChState) (h : s.chP.tare = 0) :
    s.moveChannel c target false =
      if ((s.ch c).moved target false).state = (s.ch c).state then s.setCh c ((s.ch c).moved target false)
      else (s.setCh c ((s.ch c).moved target false)).raiseWeight c := by
  have ht : (s.setCh c ((s.ch c).moved target false)).setTare 0 = s.setCh c ((s.ch c).moved target false) := by
    refine State.setTare_of_eq ?_
    cases c
    · rw [← h, State.setCh, State.setChP_chP, Channel.moved_tare]
      rfl
    · exact h.symm
  simp only [State.moveChannel, ht, ite_self, State.setCh_ch]

theorem State.raise_ch (s : State) (k : Slot) (body : List Byte) (c : Ch) : (s.raise k body).ch c = s.ch c := by
  unfold State.raise
  split <;> cases c <;> rfl

theorem State.moveChannel_noTare_keeps {s : State} (c : Ch) (target : ChState) (h : s.chP.tare = 0) :
    (s.moveChannel c target false).pw = s.pw ∧ ∀ d, ((s.moveChannel c target false).ch d).unreported =
      if c = d then ((s.ch d).moved target false).unreported else (s.ch d).unreported := by
  rw [State.moveChannel_of_noTare c target h]
  have hd : ∀ d, ((s.setCh c ((s.ch c).moved target false)).ch d).unreported =
      if c = d then ((s.ch d).moved target false).unreported else (s.ch d).unreported := fun d => by
    split
    · next hcd => rw [hcd, State.setCh_ch]
    · next hcd => rw [State.setCh_ch_of_ne s (Ne.symm hcd)]
  split
  · exact ⟨by simp, hd⟩
  · exact ⟨by simp, fun d => by rw [State.raiseWeight_unreported]; exact hd d⟩

/-- The end of a session in a lane reset (R60): its channel returns home. -/
theorem State.resetSession_of_open {s : State} {x : Session} (hx : s.cal.session = some x) (ho : x.committing = false)
    (ht : s.chP.tare = 0) :
    s.resetSession.cal = { s.cal with session := none } ∧ s.resetSession.pw = s.pw
      ∧ ∀ c, (s.resetSession.ch c).unreported =
        if x.channel = c then ((s.ch c).moved x.home false).unreported else (s.ch c).unreported := by
  have hm : s.resetSession = (s.endSession x).raiseCal .abandoned .reset := by
    simp [State.resetSession, hx, ho]
  obtain ⟨hp, hc⟩ := State.moveChannel_noTare_keeps (s := s.dropSession) x.channel x.home ht
  rw [hm]
  refine ⟨by simp [State.endSession, State.dropSession], by simpa [State.endSession] using hp, fun c => ?_⟩
  rw [State.raiseCal, State.raise_ch]
  exact hc c

theorem State.resetSession_of_committing {s : State} {x : Session} (hx : s.cal.session = some x) (ho : x.committing = true) :
    s.resetSession = s.setCal { s.cal with session := some { x with endMark := true, cause := .reset } } := by
  simp [State.resetSession, hx, ho]

theorem State.resetSession_of_none {s : State} (hx : s.cal.session = none) : s.resetSession = s := by
  simp [State.resetSession, hx]

/-! ### The drawer ports in a lane reset -/

theorem State.setDrw_drw_ne (s : State) {p q : Port} (h : q ≠ p) (v : Drawer) : (s.setDrw p v).drw q = s.drw q := by
  cases p <;> cases q
  case one.one | two.two => exact absurd rfl h
  all_goals rfl

/-- A port keeps FORCED in a lane reset while its sensor reads open in OPEN or OVERDUE (R175). -/
def Drawer.keepsForced (d : Drawer) : Bool := d.forced && (d.state == .opened || d.state == .overdue) && d.sensorOpen

theorem Drawer.keepsForced_eq (d : Drawer) :
    d.keepsForced = decide (d.forced = true ∧ (d.state = .opened ∨ d.state = .overdue) ∧ d.sensorOpen = true) := by
  rw [Bool.eq_iff_iff, decide_eq_true_iff]
  simp [Drawer.keepsForced, and_assoc]

/-- A fitted port with its state taken from its sensor (R175). -/
def State.portSampled (p : Port) (s : State) : State :=
  let u := s.setDrw p { (s.drw p).idle .closed with forced := (s.drw p).keepsForced }
  if (s.drw p).sensorOpen then u.enterOpen p (s.drw p).keepsForced else u

theorem State.resetPort_of_fitted {s : State} {p : Port} (h : (s.drw p).fitted = true) :
    s.resetPort p = ((s.portSampled p).releaseOverdue.releaseForced).applyFitted p := by
  rw [State.resetPort, h]
  rfl

theorem State.resetPort_of_unfitted {s : State} {p : Port} (h : (s.drw p).fitted = false) : s.resetPort p = s := by
  rw [State.resetPort, h]
  rfl

theorem State.portSampled_drw (s : State) (p : Port) : (s.portSampled p).drw p = { s.drw p with
    state := if (s.drw p).sensorOpen = true then .opened else .closed, grant := 0, kickTimer := none, holdTimer := none
    overdueTimer := if (s.drw p).sensorOpen = true then some (s.clock + (s.drw p).overdueS * 1000) else none
    forced := (s.drw p).keepsForced } := by
  unfold State.portSampled
  cases h : (s.drw p).sensorOpen <;> cases p <;> simp_all [State.enterOpen, State.setDrw, State.drw, Drawer.idle, State.timer]

theorem State.portSampled_drw_other (s : State) {p q : Port} (h : q ≠ p) : (s.portSampled p).drw q = s.drw q := by
  unfold State.portSampled State.enterOpen
  split
  · exact (State.setDrw_drw_ne _ h _).trans (State.setDrw_drw_ne _ h _)
  · exact State.setDrw_drw_ne _ h _

theorem State.releaseSource_drw (s : State) (k : SourceName) (b : Bool) (q : Port) : (s.releaseSource k b).drw q = s.drw q := by
  cases b <;> cases q <;> rfl

theorem State.releaseForced_drw (s : State) (q : Port) : s.releaseForced.drw q = s.drw q := s.releaseSource_drw _ _ q
theorem State.releaseOverdue_drw (s : State) (q : Port) : s.releaseOverdue.drw q = s.drw q := s.releaseSource_drw _ _ q

theorem State.applyFitted_of_same {s : State} {p : Port} (h : (s.drw p).fittedSet = (s.drw p).fitted) : s.applyFitted p = s := by
  rw [State.applyFitted]
  exact if_pos (.inl h)

/-- A port at rest that becomes unfitted (R174). -/
theorem State.applyFitted_of_unfit {s : State} {p : Port} (hf : (s.drw p).fitted = true) (hs : (s.drw p).fittedSet = false)
    (hr : (s.drw p).state.atRest = true) : s.applyFitted p =
      (s.setDrw p { (s.drw p).idle .closed with fitted := false, forced := false }).releaseForced.releaseOverdue := by
  simp [State.applyFitted, hf, hs, hr]

/-- The lane reset of a fitted port whose fitted value stands, and of one that it unfits (R174, R175). -/
theorem State.resetPort_drw {s : State} {p : Port} (h : (s.drw p).fitted = true) :
    ((s.drw p).fittedSet = true → (s.resetPort p).drw p = (s.portSampled p).drw p)
      ∧ ((s.drw p).fittedSet = false → (s.resetPort p).drw p =
        { (s.portSampled p).drw p with state := .closed, overdueTimer := none, fitted := false, forced := false })
      ∧ ∀ q, q ≠ p → (s.resetPort p).drw q = s.drw q := by
  have hd : ∀ q, ((s.portSampled p).releaseOverdue.releaseForced).drw q = (s.portSampled p).drw q := fun q =>
    (State.releaseForced_drw _ q).trans (State.releaseOverdue_drw _ q)
  have hp := s.portSampled_drw p
  rw [State.resetPort_of_fitted h]
  cases hs : (s.drw p).fittedSet
  · rw [State.applyFitted_of_unfit (by rw [hd, hp]; exact h) (by rw [hd, hp]; exact hs)
      (by rw [hd, hp]; dsimp only; split <;> rfl)]
    refine ⟨nofun, fun _ => ?_, fun q hq => ?_⟩
    · rw [State.releaseOverdue_drw, State.releaseForced_drw, State.setDrw_drw, hd, hp]
      rfl
    · rw [State.releaseOverdue_drw, State.releaseForced_drw, State.setDrw_drw_ne _ hq, hd,
        State.portSampled_drw_other s hq]
  · rw [State.applyFitted_of_same (by rw [hd, hp]; exact hs.trans h.symm)]
    exact ⟨fun _ => hd p, nofun, fun q hq => (hd q).trans (s.portSampled_drw_other hq)⟩

/-! ### The attention sources in a lane reset -/

theorem Attention.get_set (x : Attention) (j k : SourceName) (v : Source) : (x.set j v).get k = if j = k then v else x.get k := by
  cases j <;> cases k <;> rfl

theorem Attention.set_acceptEnd (x : Attention) (k : SourceName) (v : Source) : (x.set k v).acceptEnd = x.acceptEnd := by
  cases k <;> rfl

theorem Attention.get_unmute (x : Attention) (k : SourceName) : x.unmute.get k = { x.get k with muted := false } := by
  cases k <;> rfl

theorem Attention.set_tone (x : Attention) (k : SourceName) (v : Source) : (x.set k v).tone = x.tone := by
  cases k <;> rfl

/-- A source that has been ended is inactive (R199). -/
theorem State.endSource_inactive (s : State) (k : SourceName) : ((s.endSource k).attn.get k).active = false := by
  rw [State.endSource, State.setAttn_attn, Attention.get_set, if_pos rfl]

/-- No source becomes active, and ACCEPT and the tone are as they were. -/
structure State.Calmer (s t : State) : Prop where
  inactive : ∀ k, (s.attn.get k).active = false → (t.attn.get k).active = false
  accept : t.attn.accept.active = s.attn.accept.active
  acceptEnd : t.attn.acceptEnd = s.attn.acceptEnd
  tone : t.attn.tone = s.attn.tone

namespace State.Calmer
variable {s t : State}

theorem of_attn (h : t.attn = s.attn) : s.Calmer t := ⟨by rw [h]; exact fun _ => id, by rw [h], by rw [h], by rw [h]⟩

theorem trans {u : State} (h : s.Calmer t) (k : t.Calmer u) : s.Calmer u :=
  ⟨fun j => k.inactive j ∘ h.inactive j, k.accept.trans h.accept, k.acceptEnd.trans h.acceptEnd, k.tone.trans h.tone⟩

theorem setBag (h : s.Calmer t) (v : Bag) : s.Calmer (t.setBag v) := h.trans (of_attn rfl)
theorem setCard (h : s.Calmer t) (v : Card) : s.Calmer (t.setCard v) := h.trans (of_attn rfl)

theorem ite {c : Prop} [Decidable c] {u : State} (ht : s.Calmer t) (hu : s.Calmer u) : s.Calmer (if c then t else u) := by
  split
  · exact ht
  · exact hu

theorem endSource (h : s.Calmer t) (k : SourceName) (hk : k ≠ .accept := by decide) : s.Calmer (t.endSource k) := by
  have he : ∀ j, (t.endSource k).attn.get j = if k = j then { t.attn.get k with active := false, muted := false } else t.attn.get j :=
    fun j => Attention.get_set ..
  refine ⟨fun j hj => ?_, ?_, (Attention.set_acceptEnd ..).trans h.acceptEnd, (Attention.set_tone ..).trans h.tone⟩
  · rw [he]
    split
    · rfl
    · exact h.inactive j hj
  · exact (congrArg Source.active ((he .accept).trans (if_neg hk))).trans h.accept

theorem releaseSource (h : s.Calmer t) (k : SourceName) (b : Bool) (hk : k ≠ .accept := by decide) : s.Calmer (t.releaseSource k b) :=
  ite h (h.endSource k hk)

theorem setDrw (h : s.Calmer t) (p : Port) (v : Drawer) : s.Calmer (t.setDrw p v) := h.trans (of_attn (by cases p <;> rfl))

theorem portSampled (h : s.Calmer t) (p : Port) : s.Calmer (t.portSampled p) := ite ((h.setDrw _ _).setDrw _ _) (h.setDrw _ _)

theorem applyFitted (h : s.Calmer t) (p : Port) : s.Calmer (t.applyFitted p) :=
  ite h (ite (ite (((h.setDrw _ _).setDrw _ _).setDrw _ _) ((h.setDrw _ _).setDrw _ _))
    (((h.setDrw _ _).releaseSource _ _).releaseSource _ _))

theorem resetPort (h : s.Calmer t) (p : Port) : s.Calmer (t.resetPort p) := by
  cases hf : (t.drw p).fitted
  · rw [State.resetPort_of_unfitted hf]
    exact h
  · rw [State.resetPort_of_fitted hf]
    exact (((h.portSampled p).releaseSource _ _).releaseSource _ _).applyFitted p

theorem unmute (h : s.Calmer t) : s.Calmer (t.setAttn t.attn.unmute) :=
  h.trans ⟨fun k hk => by rw [State.setAttn_attn, Attention.get_unmute]; exact hk, rfl, rfl, rfl⟩

/-- The stages behind that of the ports. -/
theorem afterPorts (s : State) : ((s.resetPort .one).resetPort .two).Calmer s.supplyReset.abortRequest :=
  of_attn ((State.abortRequest_keeps _).2.2.2.2.2.2.2.2.2.2.2.2.1.trans (by simp [State.supplyReset]))

theorem bagReset (h : s.Calmer t) : s.Calmer t.bagReset :=
  (ite h ((h.setBag _).endSource .bagHold) : s.Calmer t.bagEnd).setBag _

theorem resetTxn (h : s.Calmer t) : s.Calmer t.resetTxn := h.trans (of_attn (by simp))

theorem sessionReset (h : s.Calmer t) : s.Calmer (t.setTare 0).resetSession := h.trans (of_attn (by simp))

theorem resetCard (h : s.Calmer t) : s.Calmer t.resetCard :=
  (ite ((h.setCard _).endSource .cardLeft) h : s.Calmer t.releaseCardLeft).trans (of_attn rfl)

theorem endBeep (h : s.Calmer t) : s.Calmer t.endBeep :=
  (h.endSource .hostBeep).trans ⟨fun k hk => by cases k <;> exact hk, rfl, rfl, rfl⟩

/-- The stages behind that of the verifier. -/
theorem afterBag (h : s.Calmer t) : s.Calmer
    (((t.resetTxn.setTare 0).resetSession.resetCard.endBeep).setAttn ((t.resetTxn.setTare 0).resetSession.resetCard.endBeep).attn.unmute) :=
  h.resetTxn.sessionReset.resetCard.endBeep.unmute

theorem resetBlocks (s : State) : s.Calmer s.resetBlocks :=
  ((((of_attn rfl : s.Calmer s).resetPort .one).resetPort .two).trans (afterPorts s)).bagReset.afterBag

end State.Calmer

theorem State.releaseOverdue_of_none {s : State} (h : ∀ q, (s.drw q).state ≠ .overdue) :
    s.releaseOverdue.attn.drawerOverdue.active = false := by
  have h₁ : s.drw1.state ≠ .overdue := h .one
  have h₂ : s.drw2.state ≠ .overdue := h .two
  have he : s.releaseOverdue = s.endSource .drawerOverdue := by
    simp [State.releaseOverdue, State.releaseSource, h₁, h₂]
  rw [he]
  exact s.endSource_inactive .drawerOverdue

theorem State.releaseForced_of_none {s : State} (h : ∀ q, (s.drw q).forced = false) :
    s.releaseForced.attn.drawerForced.active = false := by
  have h₁ : s.drw1.forced = false := h .one
  have h₂ : s.drw2.forced = false := h .two
  have he : s.releaseForced = s.endSource .drawerForced := by
    simp [State.releaseForced, State.releaseSource, h₁, h₂]
  rw [he]
  exact s.endSource_inactive .drawerForced

/-- A port reset with no other port OVERDUE ends DRAWER_OVERDUE (R175, R199). -/
theorem State.resetPort_overdue {s : State} {p : Port} (h : (s.drw p).fitted = true)
    (hq : ∀ q, q ≠ p → (s.drw q).state ≠ .overdue) : (s.resetPort p).attn.drawerOverdue.active = false := by
  have hn : ∀ q, ((s.portSampled p).drw q).state ≠ .overdue := fun q => by
    by_cases hqp : q = p
    · rw [hqp, State.portSampled_drw]
      dsimp only
      split <;> decide
    · rw [s.portSampled_drw_other hqp]
      exact hq q hqp
  have hc : (s.portSampled p).releaseOverdue.Calmer (s.resetPort p) := by
    rw [State.resetPort_of_fitted h]
    exact ((State.Calmer.of_attn rfl).releaseSource _ _).applyFitted p
  exact hc.inactive .drawerOverdue (State.releaseOverdue_of_none hn)

/-- A port reset that leaves no port forced ends DRAWER_FORCED (R175, R199). -/
theorem State.resetPort_forced {s : State} {p : Port} (h : (s.drw p).fitted = true)
    (hq : ∀ q, ((s.resetPort p).drw q).forced = false) : (s.resetPort p).attn.drawerForced.active = false := by
  have hd : ∀ q, ((s.portSampled p).releaseOverdue.releaseForced).drw q = (s.portSampled p).drw q := fun q =>
    (State.releaseForced_drw _ q).trans (State.releaseOverdue_drw _ q)
  have hp := s.portSampled_drw p
  rw [State.resetPort_of_fitted h] at hq ⊢
  cases hs : (s.drw p).fittedSet
  · rw [State.applyFitted_of_unfit (by rw [hd, hp]; exact h) (by rw [hd, hp]; exact hs)
      (by rw [hd, hp]; dsimp only; split <;> rfl)] at hq ⊢
    refine ((State.Calmer.of_attn rfl).releaseSource _ _).inactive .drawerForced (State.releaseForced_of_none fun q => ?_)
    exact (congrArg Drawer.forced ((State.releaseOverdue_drw _ q).trans (State.releaseForced_drw _ q))).symm.trans (hq q)
  · rw [State.applyFitted_of_same (by rw [hd, hp]; exact hs.trans h.symm)] at hq ⊢
    exact State.releaseForced_of_none fun q => (congrArg Drawer.forced (State.releaseForced_drw _ q)).symm.trans (hq q)

/-! ### The ports, the supply and the printer after a lane reset -/

/-- What a lane reset makes of a port at a moment (R175). -/
def Drawer.laneReset (d : Drawer) (clock : Nat) : Drawer :=
  if d.fitted = false then d
  else if d.fittedSet = true then
    { d with
      state := if d.sensorOpen = true then .opened else .closed, grant := 0, kickTimer := none, holdTimer := none
      overdueTimer := if d.sensorOpen = true then some (clock + d.overdueS * 1000) else none, forced := d.keepsForced }
  else
    { d with
      state := .closed, grant := 0, kickTimer := none, holdTimer := none, overdueTimer := none, forced := false, fitted := false }

theorem State.resetPort_drw_other (s : State) {p q : Port} (h : q ≠ p) : (s.resetPort p).drw q = s.drw q := by
  cases hf : (s.drw p).fitted
  · rw [State.resetPort_of_unfitted hf]
  · exact (State.resetPort_drw hf).2.2 q h

theorem State.resetPort_drw_same (s : State) (p : Port) : (s.resetPort p).drw p = (s.drw p).laneReset s.clock := by
  unfold Drawer.laneReset
  by_cases hf : (s.drw p).fitted = false
  · rw [if_pos hf, State.resetPort_of_unfitted hf]
  · have hft : (s.drw p).fitted = true := by simpa using hf
    obtain ⟨hset, hunset, -⟩ := State.resetPort_drw hft
    have hp := s.portSampled_drw p
    rw [if_neg hf]
    by_cases hs : (s.drw p).fittedSet = true
    · rw [if_pos hs, hset hs, hp]
    · rw [if_neg hs, hunset (by simpa using hs), hp]

/-- Both ports have applied their lane reset. -/
theorem State.portsReset_drw (s : State) (p : Port) : ((s.resetPort .one).resetPort .two).drw p = (s.drw p).laneReset s.clock := by
  cases p
  · rw [State.resetPort_drw_other _ (by decide), State.resetPort_drw_same]
  · rw [State.resetPort_drw_same, State.resetPort_drw_other _ (by decide)]
    simp

theorem Drawer.laneReset_state {d : Drawer} (hf : d.fitted = true) (clock : Nat) :
    (d.laneReset clock).state = .opened ∨ (d.laneReset clock).state = .closed := by
  simp only [Drawer.laneReset, hf]
  cases d.fittedSet <;> cases d.sensorOpen <;> simp

theorem State.supplyReset_drw (s : State) (p : Port) : s.supplyReset.drw p = (s.drw p).laneReset s.clock := by
  rw [← s.portsReset_drw p]
  cases p <;> simp [State.supplyReset, State.drw]

theorem State.supplyReset_prn (s : State) : s.supplyReset.prn = { s.prn with
    queue := [], openReceipt := none, work := none, restart := .none, line := none, ending := false
    engine := if s.prn.cutter ≠ none then .cutting else if s.prn.reasons.any = true then .suspended else .idle } := by
  simp [State.supplyReset, State.resetPrinter, Option.isSome_iff_ne_none]

theorem State.supplyReset_store (s : State) : s.supplyReset.store = s.store.dropLineRead := by
  simp [State.supplyReset, State.resetPrinter]

/-- The staged budget takes effect where no port holds a grant (R160). -/
theorem State.supplyReset_supply (s : State) :
    (∃ b, s.supplyReset.supply = { s.supply with phase := none, owed := none, budget := b })
      ∧ ((∀ p, (s.drw p).fitted = true ∨ (s.drw p).state ≠ .kick ∧ (s.drw p).state ≠ .hold) →
        s.supplyReset.supply.budget = s.supply.staged) := by
  have hu : (((s.resetPort .one).resetPort .two).resetPrinter).supply = { s.supply with phase := none, owed := none } := by
    simp [State.resetPrinter]
  have hd : ∀ p, (((s.resetPort .one).resetPort .two).resetPrinter).drw p = (s.drw p).laneReset s.clock := fun p => by
    rw [← s.portsReset_drw p]
    cases p <;> simp [State.drw]
  unfold State.supplyReset State.testBudget
  refine ⟨?_, fun h => ?_⟩
  · split
    · exact ⟨_, by rw [State.setSupply_supply, hu]⟩
    · exact ⟨_, hu⟩
  · have hg : ∀ p, ((s.drw p).laneReset s.clock).state.holdsGrant = false := fun p => by
      cases hf : (s.drw p).fitted
      · obtain ⟨hk, hh⟩ := (h p).resolve_left (by simp [hf])
        rw [Drawer.laneReset, if_pos hf]
        cases hst : (s.drw p).state <;> simp_all [DrawerState.holdsGrant]
      · rcases Drawer.laneReset_state hf s.clock with hst | hst <;> rw [hst] <;> rfl
    have h₁ : (((s.resetPort .one).resetPort .two).resetPrinter).drw1.state.holdsGrant = false :=
      (congrArg (·.state.holdsGrant) (hd .one)).trans (hg .one)
    have h₂ : (((s.resetPort .one).resetPort .two).resetPrinter).drw2.state.holdsGrant = false :=
      (congrArg (·.state.holdsGrant) (hd .two)).trans (hg .two)
    rw [if_pos ⟨by rw [hu], by rw [hu], by rw [h₁]; rfl, by rw [h₂]; rfl⟩, State.setSupply_supply, hu]

/-! ### The blocks after a lane reset -/

theorem State.resetSession_pw {s : State} (ht : s.chP.tare = 0) : s.resetSession.pw = s.pw := by
  cases hx : s.cal.session with
  | none => rw [State.resetSession_of_none hx]
  | some x =>
    cases ho : x.committing
    · exact (State.resetSession_of_open hx ho ht).2.1
    · rw [State.resetSession_of_committing hx ho]
      rfl

/-- A move does not look at the last raised report. -/
theorem Channel.moved_unreported (x : Channel) (target : ChState) :
    (x.moved target false).unreported = (x.unreported.moved target false).unreported := by
  rw [Channel.moved_eq, Channel.moved_eq x.unreported]
  rfl

theorem State.releaseCardLeft_card (s : State) : s.releaseCardLeft.card = { s.card with cardLeft := false } := by
  unfold State.releaseCardLeft
  split
  · rfl
  · next h => rw [← Bool.eq_false_of_not_eq_true h]

theorem State.resetCard_card (s : State) : s.resetCard.card = { s.card with
    held := none, decoder := none, armedA := false, armedB := false, holdTimer := none
    streams := ⟨none, none, none, none⟩, pass := none, cardLeft := false
    seat := match s.card.frontClosed, s.card.rearClosed with
      | false, false => .empty | true, false => .entering | true, true => .seated | false, true => .readerFault
    leftTimer := if s.card.frontClosed = true ∧ s.card.rearClosed = true then some (s.clock + s.card.leftS * 1000) else none } := by
  have ht : s.releaseCardLeft.timer (s.releaseCardLeft.card.leftS * 1000) = some (s.clock + s.card.leftS * 1000) := by
    rw [State.timer, s.releaseCardLeft_card]
    simp
  rw [State.resetCard, State.setCard_card, Card.sampled, ht, s.releaseCardLeft_card]
  simp only [seatOf_eq, ← seatOf_seated]
  rfl

section
variable (s : State)

theorem State.resetBlocks_txn : (∃ b, s.txn.state = .idle → s.resetBlocks.txn = { s.txn with inFlight := b })
    ∧ (s.txn.state ≠ .idle → s.resetBlocks.txn = { s.txn with
        state := .idle, inFlight := false, endCause := .reset, receipt := s.txn.receipt.aborted }) := by
  obtain ⟨b, hb⟩ := s.supplyReset.abortRequest_txn
  have hr : s.resetBlocks.txn = s.supplyReset.abortRequest.bagReset.resetTxn.txn := by simp [State.resetBlocks_eq, State.saleReset]
  have hs : s.supplyReset.abortRequest.bagReset.txn = { s.txn with inFlight := b } := by simp [hb]
  rw [hr, State.resetTxn_txn, hs]
  exact ⟨⟨b, fun h => if_pos h⟩, fun h => if_neg h⟩

theorem State.resetBlocks_bag : ∃ n, s.resetBlocks.bag =
    { (if s.bag.state = .inactive then
        { s.bag with reserved := n, bagged := [], baseline := 0, lastMatched := none }
      else { s.bag with
        state := .inactive, entries := [], reserved := 0, kind := .none, delta := 0, ref := none, bagged := [], baseline := 0
        lastMatched := none } : Bag) with
      enabled := if s.txn.state = .idle then s.bag.enabled else s.bag.enableSet } := by
  obtain ⟨n, hn⟩ := s.supplyReset.abortRequest_bag
  obtain ⟨b, hb⟩ := s.supplyReset.abortRequest_txn
  refine ⟨n, ?_⟩
  have hr : s.resetBlocks.bag = s.supplyReset.abortRequest.bagReset.resetTxn.bag := by simp [State.resetBlocks_eq, State.saleReset]
  have ht : s.supplyReset.abortRequest.bagReset.txn.state = s.txn.state := by simp [hb]
  rw [hr, State.resetTxn_bag, State.bagReset_bag, ht, hn]
  by_cases hi : s.bag.state = .inactive <;> simp [hi]

theorem State.resetBlocks_pw : s.resetBlocks.pw = { s.supplyReset.abortRequest.pw with
    reference := if s.pw.rearm = true then s.pw.reference else s.pw.reference + s.chP.tare / 1000 } := by
  have hr : s.resetBlocks.pw = (s.saleReset.setTare 0).resetSession.pw := by simp [State.resetBlocks_eq]
  have hs : s.saleReset.pw = s.supplyReset.abortRequest.pw := by simp [State.saleReset]
  obtain ⟨hrearm, href, -, -⟩ := s.supplyReset.abortRequest_pw_keeps
  rw [hr, State.resetSession_pw (State.setTare_tare _ _), State.setTare_zero_pw, hs, hrearm, href]
  simp

theorem State.resetBlocks_cal :
    (s.cal.session = none → s.resetBlocks.cal = s.cal)
      ∧ (∀ x, s.cal.session = some x → x.committing = true →
        s.resetBlocks.cal = { s.cal with session := some { x with endMark := true, cause := .reset } })
      ∧ (∀ x, s.cal.session = some x → x.committing = false → s.resetBlocks.cal = { s.cal with session := none }) := by
  have hr : s.resetBlocks.cal = (s.saleReset.setTare 0).resetSession.cal := by simp [State.resetBlocks_eq]
  have hc : (s.saleReset.setTare 0).cal = s.cal := by simp
  rw [hr, ← hc]
  exact ⟨fun h => by rw [State.resetSession_of_none h], fun x h ho => by rw [State.resetSession_of_committing h ho]; rfl,
    fun x h ho => (State.resetSession_of_open h ho (State.setTare_tare _ _)).1⟩

/-- A channel after a lane reset, beside its last raised report: P's tare is 0, and the channel of an open session has returned
home (R21, R47, R60). -/
theorem State.resetBlocks_ch (c : Ch) :
    ((∀ x, s.cal.session = some x → x.committing = false → x.channel ≠ c) → (s.resetBlocks.ch c).unreported =
        { s.ch c with tare := if c = .p then 0 else (s.ch c).tare, lastReport := none })
      ∧ (∀ x, s.cal.session = some x → x.committing = false → x.channel = c → (s.resetBlocks.ch c).unreported =
        (({ s.ch c with tare := if c = .p then 0 else (s.ch c).tare } : Channel).moved x.home false).unreported) := by
  have hr : s.resetBlocks.ch c = (s.saleReset.setTare 0).resetSession.ch c := by
    cases c <;> simp [State.resetBlocks_eq, State.ch]
  have hc : (s.saleReset.setTare 0).cal = s.cal := by simp
  have hs : s.saleReset.ch c = s.ch c := by cases c <;> simp [State.ch]
  have ht := State.setTare_unreported s.saleReset 0 c
  have h0 := State.setTare_tare s.saleReset 0
  rw [hs] at ht
  rw [hr, ← hc]
  refine ⟨fun h => ?_, fun x hx ho hxc => ?_⟩
  · cases hx : (s.saleReset.setTare 0).cal.session with
    | none => rw [State.resetSession_of_none hx, ht]
    | some x =>
      cases ho : x.committing
      · rw [(State.resetSession_of_open hx ho h0).2.2 c, if_neg (h x hx ho), ht]
      · rw [State.resetSession_of_committing hx ho, State.setCal_ch, ht]
  · rw [(State.resetSession_of_open hx ho h0).2.2 c, if_pos hxc, Channel.moved_unreported, ht]
    exact (Channel.moved_unreported { s.ch c with tare := if c = .p then 0 else (s.ch c).tare } x.home).symm

theorem State.resetBlocks_card : s.resetBlocks.card = { s.card with
    held := none, decoder := none, armedA := false, armedB := false, holdTimer := none
    streams := ⟨none, none, none, none⟩, pass := none, cardLeft := false
    seat := match s.card.frontClosed, s.card.rearClosed with
      | false, false => .empty | true, false => .entering | true, true => .seated | false, true => .readerFault
    leftTimer := if s.card.frontClosed = true ∧ s.card.rearClosed = true then some (s.clock + s.card.leftS * 1000) else none } := by
  have hr : s.resetBlocks.card = (s.saleReset.setTare 0).resetSession.resetCard.card := by simp [State.resetBlocks_eq]
  have hcard : (s.saleReset.setTare 0).resetSession.card = s.card := by simp
  have hclock : (s.saleReset.setTare 0).resetSession.clock = s.clock := by simp
  rw [hr, State.resetCard_card, hcard, hclock]

theorem State.resetBlocks_rest :
    s.resetBlocks.prn = s.supplyReset.prn ∧ s.resetBlocks.store = s.supplyReset.store ∧ s.resetBlocks.supply = s.supplyReset.supply
      ∧ ∀ p, s.resetBlocks.drw p = (s.drw p).laneReset s.clock := by
  refine ⟨by simp [State.resetBlocks_eq], by simp [State.resetBlocks_eq], by simp [State.resetBlocks_eq], fun p => ?_⟩
  rw [← s.supplyReset_drw p]
  cases p <;> simp [State.resetBlocks_eq, State.drw]

end

/-! ### The attention unit after a lane reset -/

/-- The stages of a lane reset behind the verifier's. -/
def State.afterBagReset (t : State) : State :=
  let u := (t.resetTxn.setTare 0).resetSession.resetCard.endBeep
  u.setAttn u.attn.unmute

theorem State.afterBagReset_calmer (t : State) : t.Calmer t.afterBagReset := (State.Calmer.of_attn rfl).afterBag

theorem State.resetBlocks_bagHold {s : State} (h : s.bag.state ≠ .inactive) : s.resetBlocks.attn.bagHold.active = false := by
  obtain ⟨n, hn⟩ := s.supplyReset.abortRequest_bag
  have hb : s.supplyReset.abortRequest.bag.state ≠ .inactive := by simpa [hn] using h
  have he : s.supplyReset.abortRequest.bagReset.attn.bagHold.active = false := by
    rw [State.bagReset, State.bagEnd, if_neg hb]
    exact State.endSource_inactive _ .bagHold
  exact (State.afterBagReset_calmer _).inactive .bagHold he

theorem State.releaseCardLeft_inactive {s : State} (h : s.card.cardLeft = true) : s.releaseCardLeft.attn.cardLeft.active = false := by
  rw [State.releaseCardLeft, if_pos h]
  exact State.endSource_inactive _ .cardLeft

theorem State.resetBlocks_cardLeft {s : State} (h : s.card.cardLeft = true) : s.resetBlocks.attn.cardLeft.active = false := by
  have hc : (s.saleReset.setTare 0).resetSession.card.cardLeft = true := by simpa using h
  have hr : (s.saleReset.setTare 0).resetSession.resetCard.Calmer s.resetBlocks :=
    (State.Calmer.of_attn rfl).endBeep.unmute
  exact hr.inactive .cardLeft (State.releaseCardLeft_inactive hc)

theorem State.resetBlocks_beep (s : State) : (∀ k, (s.resetBlocks.attn.get k).muted = false)
    ∧ s.resetBlocks.attn.hostBeep.active = false ∧ s.resetBlocks.attn.beepEnd = none :=
  ⟨fun k => by rw [State.resetBlocks_eq, State.setAttn_attn, Attention.get_unmute], rfl, rfl⟩

/-- The port that is reset last settles whether a port's source stays active (R175, R199). -/
theorem State.resetBlocks_drawers {s : State} (hf : ∃ p, (s.drw p).fitted = true) :
    ((∀ p, (s.drw p).fitted = true ∨ (s.drw p).state ≠ .overdue) → s.resetBlocks.attn.drawerOverdue.active = false)
      ∧ ((∀ p, ((s.drw p).laneReset s.clock).forced = false) → s.resetBlocks.attn.drawerForced.active = false) := by
  have hc : ((s.resetPort .one).resetPort .two).Calmer s.resetBlocks :=
    (State.Calmer.afterPorts s).bagReset.trans (State.afterBagReset_calmer _)
  have hs : ∀ p, (s.drw p).fitted = true ∨ (s.drw p).state ≠ .overdue → ((s.drw p).laneReset s.clock).state ≠ .overdue := fun p h => by
    cases hp : (s.drw p).fitted
    · rw [Drawer.laneReset, if_pos hp]
      exact h.resolve_left (by simp [hp])
    · rcases Drawer.laneReset_state hp s.clock with h | h <;> rw [h] <;> decide
  have hdrw := s.portsReset_drw
  cases h₂ : (s.drw .two).fitted
  · have h₁ : (s.drw .one).fitted = true := by
      obtain ⟨p, hp⟩ := hf
      cases p
      · exact hp
      · exact absurd hp (by simp [h₂])
    have he : (s.resetPort .one).resetPort .two = s.resetPort .one := by
      rw [State.resetPort_of_unfitted]
      rw [State.resetPort_drw_other _ (by decide)]
      exact h₂
    rw [he] at hc hdrw
    refine ⟨fun h => hc.inactive .drawerOverdue (State.resetPort_overdue h₁ fun q hq => ?_),
      fun h => hc.inactive .drawerForced (State.resetPort_forced h₁ fun q => ?_)⟩
    · rw [← State.resetPort_drw_other s hq, hdrw q]
      exact hs q (h q)
    · rw [hdrw q]
      exact h q
  · have h₂' : ((s.resetPort .one).drw .two).fitted = true := by
      rw [State.resetPort_drw_other _ (by decide)]
      exact h₂
    refine ⟨fun h => hc.inactive .drawerOverdue (State.resetPort_overdue h₂' fun q hq => ?_),
      fun h => hc.inactive .drawerForced (State.resetPort_forced h₂' fun q => ?_)⟩
    · rw [← State.resetPort_drw_other _ hq, hdrw q]
      exact hs q (h q)
    · rw [hdrw q]
      exact h q

/-- A lane reset keeps every setting (R18). -/
theorem State.resetBlocks_sameSettings (s : State) : s.SameSettings s.resetBlocks := by
  obtain ⟨slots, hl⟩ := State.SlotsOnly.resetBlocks s
  obtain ⟨hprn, hstore, hsupply, hdrw⟩ := s.resetBlocks_rest
  obtain ⟨⟨b, hsup⟩, -⟩ := s.supplyReset_supply
  obtain ⟨n, hbag⟩ := s.resetBlocks_bag
  obtain ⟨-, -, hsettle, hauto⟩ := s.supplyReset.abortRequest_pw_keeps
  have hpw := s.resetBlocks_pw
  have hcard := s.resetBlocks_card
  rw [s.supplyReset_prn] at hprn
  rw [s.supplyReset_store] at hstore
  rw [hsup] at hsupply
  refine ⟨by rw [hl], by rw [hl], ?_, ?_, ?_, ?_, ?_, ?_, ?_, ?_, by rw [hcard], by rw [hcard], by rw [hsupply], by rw [hsupply],
    fun p k => ?_, by rw [hprn], by rw [hprn], by rw [hstore]; rfl, by rw [hstore]; rfl, (State.Calmer.resetBlocks s).tone⟩
  · rw [hpw, hsettle, s.supplyReset_keeps.2.2.2.2.2.1]
  · rw [hpw, hauto, s.supplyReset_keeps.2.2.2.2.2.1]
  · rw [hbag]; dsimp only; split <;> rfl
  · rw [hbag]; dsimp only; split <;> rfl
  · rw [hbag]; dsimp only; split <;> rfl
  · rw [hbag]; dsimp only; split <;> rfl
  · rw [hbag]; dsimp only; split <;> rfl
  · rw [hbag]; dsimp only; split <;> rfl
  · rw [hdrw p]
    unfold Drawer.laneReset
    split
    · rfl
    · split <;> rfl

/-- The channel of a session that ends in a lane reset returns home (R21, R47). -/
theorem Channel.returned_eq (a : Channel) (home : ChState) (tare : Int) :
    let b := (({ a with tare := tare } : Channel).moved home false).unreported
    b = { a with
        tare := tare, lastReport := none, window := b.window, latest := b.latest
        state := if a.state = .fault then .fault else home
        resume := if a.state = .fault then home else a.resume
        zo := if home = .noZero then 0 else a.zo
        zoInit := if home = .noZero then 0 else a.zoInit
        tracking := if home = .noZero ∨ home = .calibrating then none else a.tracking }
      ∧ (a.movedFrom = .calibrating → home = .uncalibrated → b.window = a.window ∧ b.latest = a.latest)
      ∧ (a.movedFrom = .calibrating → home = .noZero ∨ home = .weighing →
        b.window = [] ∧ b.latest = a.latest.map fun r => { r with stable := false }) := by
  have hm : ({ a with tare := tare } : Channel).movedFrom = a.movedFrom := rfl
  dsimp only
  rw [Channel.moved_eq, hm]
  refine ⟨rfl, fun h hh => ?_, fun h hh => ?_⟩
  · rw [h, hh]
    exact ⟨rfl, rfl⟩
  · rcases hh with hh | hh <;> rw [h, hh] <;> exact ⟨rfl, rfl⟩

theorem State.Alike.chosen {s t : State} (h : s.Alike t) : s.chooseFrame.Alike t := by
  obtain ⟨l, rfl⟩ := h
  exact ⟨_, rfl⟩

/-- A lane reset with a place free: the blocks' own reset, with the reply in the queue and the slots empty (R19). -/
theorem exec_laneReset_blocks {s : State} (tag : Byte) (hready : s.ready) : ∃ t, exec (.laneReset tag) s = .next t
    ∧ t.link = { s.link with slots := Slots.empty, replies := s.link.replies ++ [replyFrame 0x03 tag (.accept [])], tx := t.link.tx }
    ∧ t.Alike (s.resetBlocks.endReset tag) := by
  let u := s.setLink { s.link with reserved := s.link.reserved + 1, resetTag := some tag }
  have hn : s.link.resetTag = none := by simpa [Link.mayTake] using (Bool.and_eq_true_iff.1 hready.1).2
  have ha : u.Alike s := ⟨_, rfl⟩
  have hu := u.applyLaneReset_link tag
  refine ⟨_, exec_laneReset_of_ready tag hready, ?_, (ha.resetBlocks.endReset tag tag : (u.applyLaneReset tag).Alike _).chosen⟩
  rw [State.chooseFrame, State.setLink_link, Link.choose_of_replies (by rw [hu]; simp), hu]
  simp [u, ← hn]

/-- Of the channels, the end of a lane reset discards the last raised reports (R45). -/
theorem State.endReset_ch (s : State) (tag : Byte) (c : Ch) : (s.endReset tag).ch c = (s.ch c).unreported := by
  cases c <;> rfl

/-- The blocks of a state that is alike beside the channels. -/
theorem State.Alike.blocks {s t : State} {tag : Byte} (h : s.Alike (t.endReset tag)) :
    s.txn = t.txn ∧ s.pw = t.pw ∧ s.bag = t.bag ∧ s.prn = t.prn ∧ s.store = t.store ∧ s.supply = t.supply ∧ s.card = t.card
      ∧ s.cal = t.cal ∧ s.attn = t.attn ∧ (∀ p, s.drw p = t.drw p) ∧ (∀ c, s.ch c = (t.ch c).unreported)
      ∧ s.clock = t.clock ∧ s.flash = t.flash ∧ s.noSale = t.noSale ∧ s.pending = t.pending := by
  obtain ⟨l, rfl⟩ : ∃ l, s = (t.endReset tag).setLink l := ⟨_, h.eq_of_link⟩
  have hd : ∀ p, ((t.endReset tag).setLink l).drw p = t.drw p := fun p => by cases p <;> rfl
  exact ⟨rfl, rfl, rfl, rfl, rfl, rfl, rfl, rfl, rfl, hd, t.endReset_ch tag, rfl, rfl, rfl, rfl⟩

/-- Settles O13. -/
theorem laneResetReturnsTheLaneToACleanPoint : Obligations.LaneResetReturnsTheLaneToACleanPoint := by
  intro s tag hready
  obtain ⟨t, he, hl, ha⟩ := exec_laneReset_blocks tag hready
  obtain ⟨htxn, hpw, hbag, hprn, hstore, hsupply, hcard, hcal, hattn, hdrw, hch, hclock, hflash, hnoSale, hpending⟩ := ha.blocks
  obtain ⟨⟨b, htxnIdle⟩, htxnLive⟩ := s.resetBlocks_txn
  obtain ⟨n, hbag'⟩ := s.resetBlocks_bag
  obtain ⟨hcalNone, hcalCommitting, hcalOpen⟩ := s.resetBlocks_cal
  obtain ⟨hprn', hstore', hsupply', hdrw'⟩ := s.resetBlocks_rest
  obtain ⟨⟨budget, hsup⟩, hbudget⟩ := s.supplyReset_supply
  obtain ⟨hmuted, hbeep, hbeepEnd⟩ := s.resetBlocks_beep
  have hpw₀ : s.supplyReset.pw = s.pw := s.supplyReset_keeps.2.2.2.2.2.1
  have hcalmer := State.Calmer.resetBlocks s
  have hset : s.SameSettings t := by
    have h := s.resetBlocks_sameSettings
    refine ⟨by rw [hl], by rw [hl], ?_, ?_, ?_, ?_, ?_, ?_, ?_, ?_, ?_, ?_, ?_, ?_, fun p k => ?_, ?_, ?_, ?_, ?_, ?_⟩
    · rw [hpw, h.settleS]
    · rw [hpw, h.tareAutoclear]
    · rw [hbag, h.enableSet]
    · rw [hbag, h.band]
    · rw [hbag, h.placementS]
    · rw [hbag, h.pairMatch]
    · rw [hbag, h.requireClear]
    · rw [hbag, h.acceptChirp]
    · rw [hcard, h.leftS]
    · rw [hcard, h.holdS]
    · rw [hsupply, h.staged]
    · rw [hsupply, h.kickFirst]
    · rw [hdrw, h.drawer]
    · rw [hprn, h.darknessSet]
    · rw [hprn, h.decimals]
    · rw [hstore, h.eraseFirst]
    · rw [hstore, h.holdUnexported]
    · rw [hattn, h.tone]
  rw [s.resetBlocks_pw] at hpw
  rw [hbag'] at hbag
  rw [hprn', s.supplyReset_prn] at hprn
  rw [hstore', s.supplyReset_store] at hstore
  rw [hsupply'] at hsupply
  rw [s.resetBlocks_card] at hcard
  simp only [hdrw'] at hdrw
  have hd : ∀ p, t.drw p = (s.drw p).laneReset s.clock := hdrw
  refine ⟨t, he, ⟨by rw [hl], by rw [hl]⟩, by rw [hl], fun h => htxn.trans (htxnLive h), fun h => ?_, by rw [hpw],
    fun h => ?_, fun h => ?_, fun h => ?_, by rw [hbag], fun h => ⟨?_, ?_⟩, fun h => ?_, hprn, hstore, ?_, ?_, fun h => ?_, hcard,
    fun p h => ?_, fun p h => ?_, fun p => ?_, fun p => ?_, fun h => ?_, fun h => hcal.trans (hcalNone h),
    fun x h k => hcal.trans (hcalCommitting x h k), fun x h k => hcal.trans (hcalOpen x h k), fun c => ?_, fun k => ?_, ?_, ?_, ?_, ?_,
    fun row _ => hset.setting _ _, ?_, ?_, ?_, ?_⟩
  · rw [htxn, htxnIdle h]
  · rw [hpw, State.abortRequest_pw_waiting (by rwa [hpw₀]), hpw₀]
    rfl
  · rw [hpw, State.abortRequest_pw_storing (by rwa [hpw₀]), hpw₀]
  · rw [hpw, State.abortRequest_pw_other (by rwa [hpw₀]), hpw₀]
  · rw [hattn]
    exact State.resetBlocks_bagHold h
  · rw [hbag, if_neg h]
  · rw [hbag, if_pos h]
  · rw [hsupply, hsup]
  · rw [hsupply]
    exact hbudget
  · rw [hattn]
    exact State.resetBlocks_cardLeft h
  · rw [hd p, Drawer.laneReset, if_neg (by simp [h])]
    split <;> exact ⟨rfl, rfl⟩
  · rw [hd p, Drawer.laneReset, if_pos h]
  · dsimp only
    intro hf hs
    rw [hd p, Drawer.laneReset, if_neg (by simp [hf]), if_pos hs, Drawer.keepsForced_eq]
  · dsimp only
    intro hf hs
    rw [hd p, Drawer.laneReset, if_neg (by simp [hf]), if_neg (by simp [hs])]
  · obtain ⟨hover, hforced⟩ := State.resetBlocks_drawers h
    rw [hattn]
    exact ⟨hover, fun hf => hforced fun p => by rw [← hd p]; exact hf p⟩
  · obtain ⟨hother, hown⟩ := s.resetBlocks_ch c
    dsimp only
    rw [hch c]
    refine ⟨fun h => (hother h).trans (by cases c <;> rfl), fun x hx ho hxc => ?_⟩
    rw [hown x hx ho hxc]
    have hr := Channel.returned_eq (s.ch c) x.home (if c = .p then 0 else (s.ch c).tare)
    cases c <;> exact hr
  · rw [hattn]
    exact hmuted k
  · rw [hattn]
    exact hbeep
  · rw [hattn]
    exact hbeepEnd
  · rw [hattn]
    exact hcalmer.accept
  · rw [hattn]
    exact hcalmer.acceptEnd
  · rw [hclock]
    simp
  · rw [hflash]
    simp
  · rw [hnoSale]
    simp
  · rw [hpending]
    simp

/-! ### A drawer setting written does not look at the link -/

section
variable (s : State) (l : Link)

theorem State.examineClosing_setLink : (s.setLink l).examineClosing = s.examineClosing.setLink l := by
  rw [State.examineClosing, State.examineClosing, apply_ite (State.setLink l)]
  rfl

theorem State.portChanged_setLink (p : Port) : (s.setLink l).portChanged p = (s.portChanged p).setLink l := by
  rw [State.portChanged, State.portChanged, apply_ite (State.setLink l), State.examineClosing_setLink]
  rfl

theorem State.portMoved_setLink (p : Port) : (s.setLink l).portMoved p = (s.portMoved p).setLink l := by
  rw [State.portMoved, State.applyFitted_setLink, State.portChanged_setLink]
  rfl

theorem State.grantKick_setLink (p : Port) : (s.setLink l).grantKick p = (s.grantKick p).setLink l := by
  have he : (s.setLink l).effectiveKick p = s.effectiveKick p := by
    rw [State.effectiveKick, State.setLink_drw]
    rfl
  simp only [State.grantKick, State.setLink_drw, State.setDrw_setLink, State.portChanged_setLink, he]
  rfl

end

namespace State.Alike
variable {s t : State}

theorem portMoved (h : s.Alike t) (p : Port) : (s.portMoved p).Alike (t.portMoved p) := by
  obtain ⟨l, rfl⟩ := h
  exact ⟨l, s.portMoved_setLink l p⟩

theorem grantKick (h : s.Alike t) (p : Port) : (s.grantKick p).Alike (t.grantKick p) := by
  obtain ⟨l, rfl⟩ := h
  exact ⟨l, s.grantKick_setLink l p⟩

theorem setDrw (h : s.Alike t) (p : Port) (v : Drawer) : (s.setDrw p v).Alike (t.setDrw p v) := by
  obtain ⟨l, rfl⟩ := h
  exact ⟨l, s.setDrw_setLink l p v⟩

theorem drw (h : s.Alike t) (p : Port) : t.drw p = s.drw p := by
  obtain ⟨l, rfl⟩ := h
  exact s.setLink_drw l p

theorem enterOpen (h : s.Alike t) (p : Port) (forced : Bool) : (s.enterOpen p forced).Alike (t.enterOpen p forced) := by
  obtain ⟨l, rfl⟩ := h
  exact ⟨l, s.enterOpen_setLink l p forced⟩

theorem assertSource (h : s.Alike t) (k : SourceName) : (s.assertSource k).Alike (t.assertSource k) := by
  obtain ⟨l, rfl⟩ := h
  exact ⟨l, rfl⟩

theorem releaseOverdue (h : s.Alike t) : s.releaseOverdue.Alike t.releaseOverdue := by
  obtain ⟨l, rfl⟩ := h
  exact ⟨l, s.releaseOverdue_setLink l⟩

theorem releaseForced (h : s.Alike t) : s.releaseForced.Alike t.releaseForced := by
  obtain ⟨l, rfl⟩ := h
  exact ⟨l, s.releaseForced_setLink l⟩

theorem servePort (h : s.Alike t) (p : Port) : (s.servePort p).Alike (t.servePort p) := by
  obtain ⟨l, rfl⟩ := h
  have hs : s.Alike (s.setLink l) := ⟨l, rfl⟩
  have he : (s.setLink l).effectiveKick p = s.effectiveKick p := by
    rw [State.effectiveKick, State.setLink_drw]
    rfl
  unfold State.servePort
  rw [he, State.setLink_drw, State.setLink_supply]
  refine ite Iff.rfl hs (ite Iff.rfl (hs.grantKick p) ?_)
  split
  · exact hs
  · next ph _ => exact ite Iff.rfl (grantKick ⟨l, rfl⟩ p) hs

theorem plan (h : s.Alike t) (x : Line) : (s.plan x).Alike (t.plan x) := by
  obtain ⟨l, rfl⟩ := h
  have ha : (s.setLink l).sampleSupply.available = s.sampleSupply.available := rfl
  unfold State.plan
  dsimp only
  rw [ha]
  refine ite Iff.rfl ⟨l, rfl⟩ ?_
  split
  · exact ⟨l, rfl⟩
  · exact ⟨l, rfl⟩

theorem phaseStart (h : s.Alike t) : s.phaseStart.Alike t.phaseStart := by
  obtain ⟨l, rfl⟩ := h
  unfold State.phaseStart
  rw [State.setLink_supply, State.setLink_prn]
  split
  · exact ite Iff.rfl ⟨l, rfl⟩ ⟨l, rfl⟩
  · split
    · exact ⟨l, rfl⟩
    · exact ite Iff.rfl ⟨l, rfl⟩ (plan ⟨l, rfl⟩ _)

theorem offerPrinter (h : s.Alike t) : s.offerPrinter.Alike t.offerPrinter := by
  obtain ⟨l, rfl⟩ := h
  exact ite Iff.rfl (phaseStart ⟨l, rfl⟩) ⟨l, rfl⟩

theorem afterRelease (h : s.Alike t) : s.afterRelease.Alike t.afterRelease :=
  ((h.servePort .one).servePort .two).offerPrinter.testBudget

theorem sensorEvent (h : s.Alike t) (p : Port) (opens : Bool) : (s.sensorEvent p opens).Alike (t.sensorEvent p opens) := by
  have hu := h.setDrw p { s.drw p with sensorOpen := opens }
  unfold State.sensorEvent
  rw [h.drw p]
  generalize s.setDrw p { s.drw p with sensorOpen := opens } = u at hu ⊢
  generalize t.setDrw p { s.drw p with sensorOpen := opens } = v at hu ⊢
  dsimp only
  rw [hu.drw p]
  split
  · exact ((hu.enterOpen p true).assertSource _).portMoved p
  · exact (hu.enterOpen p false).portMoved p
  · exact ((hu.enterOpen p false).afterRelease).portMoved p
  · exact (hu.enterOpen p false).portMoved p
  · exact (hu.setDrw p _).releaseOverdue.releaseForced.portMoved p
  · exact (hu.setDrw p _).releaseOverdue.releaseForced.portMoved p
  · exact hu

theorem putPolarity (h : s.Alike t) (p : Port) (v : Bool) : (s.putPolarity p v).Alike (t.putPolarity p v) := by
  have hu := h.setDrw p { s.drw p with polarity := v }
  unfold State.putPolarity
  rw [h.drw p]
  generalize s.setDrw p { s.drw p with polarity := v } = u at hu ⊢
  generalize t.setDrw p { s.drw p with polarity := v } = w at hu ⊢
  dsimp only
  rw [hu.drw p]
  exact ite Iff.rfl (hu.sensorEvent p _) hu

theorem putDrawer (h : s.Alike t) (p : Port) (n v : Nat) : (s.putDrawer p n v).Alike (t.putDrawer p n v) := by
  unfold State.putDrawer
  rw [h.drw p]
  dsimp only
  split
  case h_1 => exact (h.setDrw p _).portMoved p
  case h_6 => exact h.putPolarity p _
  all_goals exact h.setDrw p _

theorem putEnable (h : s.Alike t) (v : Bool) : (s.putEnable v).Alike (t.putEnable v) := by
  obtain ⟨l, rfl⟩ := h
  exact ite Iff.rfl ⟨l, rfl⟩ ⟨l, rfl⟩

/-- Beside the notices and hold_unexported, a setting written does not look at the link. -/
theorem putSetting (h : s.Alike t) {b n : Nat} (hb : b ≠ 1) (hn : b = 10 → n = 1) (v : Nat) :
    (s.putSetting b n v).Alike (t.putSetting b n v) := by
  unfold State.putSetting
  split
  case h_1 | h_2 => exact absurd rfl hb
  case h_5 => exact h.putEnable _
  case h_13 => obtain ⟨l, rfl⟩ := h; exact testBudget ⟨l, rfl⟩
  case h_15 => exact h.putDrawer .one _ _
  case h_16 => exact h.putDrawer .two _ _
  case h_20 hx => exact absurd (hn rfl) (hx)
  all_goals obtain ⟨l, rfl⟩ := h; exact ⟨l, rfl⟩

end State.Alike

/-! ### The rules of the settings -/

theorem exec_settingPut {s : State} (h : s.ready) (tag b n : Byte) (v : BitVec 32) : exec (.settingPut tag b n v) s = .next
    (((reqSettingPut b.toNat n.toNat v.toNat s.reservePlace).1.reply 0x04 tag
      (reqSettingPut b.toNat n.toNat v.toNat s.reservePlace).2).finish s) :=
  congrArg (ended s) (s.takeRequest_of_answer h.1 (decide3_of_fieldsOk (s := s.reservePlace) tag (r := .settingPut _ _ _) h.2))

theorem settingRange_of_row : ∀ row ∈ settingRows, settingRange row.block row.setting = some (row.lo, row.hi) := by decide

/-- The pairs with a range are those of the tables (R17). -/
theorem settingRow_of_range {b n : Nat} {r : Nat × Nat} (h : settingRange b n = some r) :
    ∃ row ∈ settingRows, row.block = b ∧ row.setting = n := by
  have hd : ∀ m, (drawerRange m).isSome → m < 8 := fun m hm => by
    unfold drawerRange at hm
    split at hm
    case h_8 => cases hm
    all_goals decide
  have hb : b < 12 ∧ n < 8 := by
    unfold settingRange at h
    split at h
    case h_15 | h_16 => exact ⟨by decide, hd _ (by rw [h]; rfl)⟩
    case h_22 => cases h
    all_goals decide
  have hall : ∀ b < 12, ∀ n < 8, (settingRange b n).isSome → ∃ row ∈ settingRows, row.block = b ∧ row.setting = n := by decide
  exact hall b hb.1 n hb.2 (by rw [h]; rfl)

theorem settingRange_of_noRow {b n : Nat} (h : ∀ row ∈ settingRows, ¬ (row.block = b ∧ row.setting = n)) : settingRange b n = none := by
  cases hr : settingRange b n with
  | none => rfl
  | some r =>
    obtain ⟨row, hrow, hbn⟩ := settingRow_of_range hr
    exact absurd hbn (h row hrow)

theorem reqSettingPut_of_range {b n lo hi : Nat} (h : settingRange b n = some (lo, hi)) (v : Nat) (s : State) :
    reqSettingPut b n v s = (s.putSetting b n (clampNat lo hi v), .accept (le32 (clampNat lo hi v))) := by
  rw [reqSettingPut, h]

theorem reqSettingPut_of_unknown {b n : Nat} (h : settingRange b n = none) (v : Nat) (s : State) :
    reqSettingPut b n v s = (s, .refuse .notFound) := by
  rw [reqSettingPut, h]

/-- The notices and the transmitter's choice at the end of a command touch the link alone. -/
theorem State.Alike.finish {s t : State} (h : s.Alike t) (before : State) : (s.finish before).Alike t := by
  have hr : ∀ {u : State} k body, u.Alike t → (u.raise k body).Alike t := fun k body hu => by
    obtain ⟨l, rfl⟩ := hu
    unfold State.raise
    split <;> exact ⟨_, rfl⟩
  have hi : ∀ {u : State} {c : Prop} [Decidable c] k body, u.Alike t → (if c then u else u.raise k body).Alike t :=
    fun k body hu => by
      split
      · exact hu
      · exact hr k body hu
  exact (hi _ _ (hi _ _ (hi _ _ (hi _ _ (hi _ _ h))))).chosen

theorem State.Alike.reply {s t : State} (h : s.Alike t) (kind : Nat) (tag : Byte) (a : Answer) : (s.reply kind tag a).Alike t := by
  obtain ⟨l, rfl⟩ := h
  exact ⟨_, rfl⟩

theorem State.reservePlace_alike (s : State) : s.reservePlace.Alike s := ⟨_, rfl⟩

/-- Beside the notices and hold_unexported, what SETTING_PUT leaves of the blocks is what the setting does. -/
theorem exec_settingPut_alike {s t : State} {tag b n : Byte} {v : BitVec 32} (h : s.ready) (ht : exec (.settingPut tag b n v) s = .next t)
    {lo hi : Nat} (hr : settingRange b.toNat n.toNat = some (lo, hi)) (hb : b.toNat ≠ 1) (hn : b.toNat = 10 → n.toNat = 1) :
    t.Alike (s.putSetting b.toNat n.toNat (clampNat lo hi v.toNat)) := by
  rw [exec_settingPut h, reqSettingPut_of_range hr] at ht
  rw [← Host.Outcome.next.inj ht]
  exact ((s.reservePlace_alike.putSetting hb hn _).reply _ _ _).finish s

/-! ### A setting written is read back -/

/-- No drawer setting has changed. -/
def State.SameDrawers (s t : State) : Prop := ∀ p n, (t.drw p).setting n = (s.drw p).setting n

namespace State.SameDrawers
variable {s t : State}

theorem of_drw (h : ∀ p, t.drw p = s.drw p) : s.SameDrawers t := fun p n => by rw [h p]

theorem setDrw (h : s.SameDrawers t) {p : Port} {v : Drawer} (hv : ∀ n, v.setting n = (t.drw p).setting n) :
    s.SameDrawers (t.setDrw p v) := fun q n => by
  by_cases hq : q = p
  · rw [hq, State.setDrw_drw, hv, h p]
  · rw [State.setDrw_drw_ne _ hq, h q]

theorem ite {c : Prop} [Decidable c] {u : State} (ht : s.SameDrawers t) (hu : s.SameDrawers u) :
    s.SameDrawers (if c then t else u) := by
  split
  · exact ht
  · exact hu

theorem enterOpen (h : s.SameDrawers t) (p : Port) (forced : Bool) : s.SameDrawers (t.enterOpen p forced) :=
  h.setDrw fun n => by unfold Drawer.setting; rfl

theorem same (h : s.SameDrawers t) {u : State} (hu : ∀ p, u.drw p = t.drw p) : s.SameDrawers u := fun p n => by rw [hu p, h p]

theorem releaseSource (h : s.SameDrawers t) (k : SourceName) (b : Bool) : s.SameDrawers (t.releaseSource k b) :=
  h.same fun p => t.releaseSource_drw k b p

theorem applyFitted (h : s.SameDrawers t) (p : Port) : s.SameDrawers (t.applyFitted p) := by
  have hs : ∀ {u : State}, s.SameDrawers u → s.SameDrawers (u.sampleSensor p) := fun {u} hu => by
    have hc : s.SameDrawers (u.setDrw p (({ u.drw p with
        sensorOpen := (u.drw p).readsOpen (u.drw p).levelHigh, forced := false } : Drawer).idle .closed)) :=
      hu.setDrw fun n => by unfold Drawer.setting; rfl
    exact ite (hc.enterOpen p false) hc
  exact ite h (ite (hs (h.setDrw fun n => by unfold Drawer.setting; rfl))
    (((h.setDrw fun n => by unfold Drawer.setting; rfl).releaseSource _ _).releaseSource _ _))

theorem portChanged (h : s.SameDrawers t) (p : Port) : s.SameDrawers (t.portChanged p) :=
  ite (ite (h.same fun p => by cases p <;> rfl) h) h

theorem portMoved (h : s.SameDrawers t) (p : Port) : s.SameDrawers (t.portMoved p) := (h.applyFitted p).portChanged p

theorem servePort (h : s.SameDrawers t) (p : Port) : s.SameDrawers (t.servePort p) := by
  have hg : ∀ {u : State}, s.SameDrawers u → s.SameDrawers (u.grantKick p) := fun hu =>
    (hu.setDrw fun n => by unfold Drawer.setting; rfl).portChanged p
  fun_cases State.servePort p t
  · exact h
  · exact hg h
  · exact h
  · exact hg (h.same fun p => by cases p <;> rfl)
  · exact h

theorem afterRelease (h : s.SameDrawers t) : s.SameDrawers t.afterRelease :=
  ((h.servePort .one).servePort .two).same fun p => by
    cases p <;> simp [State.afterRelease, State.servePorts, State.drw]

theorem sensorEvent (h : s.SameDrawers t) (p : Port) (opens : Bool) : s.SameDrawers (t.sensorEvent p opens) := by
  have hu : s.SameDrawers (t.setDrw p { t.drw p with sensorOpen := opens }) := h.setDrw fun n => by unfold Drawer.setting; rfl
  unfold State.sensorEvent
  dsimp only
  generalize t.setDrw p { t.drw p with sensorOpen := opens } = u at hu ⊢
  have hc : s.SameDrawers (u.setDrw p { (u.drw p).idle .closed with forced := false }) :=
    hu.setDrw fun n => by unfold Drawer.setting; rfl
  split
  · exact ((hu.enterOpen p true).same fun p => by cases p <;> rfl).portMoved p
  · exact (hu.enterOpen p false).portMoved p
  · exact ((hu.enterOpen p false).afterRelease).portMoved p
  · exact (hu.enterOpen p false).portMoved p
  · exact ((hc.releaseSource _ _).releaseSource _ _).portMoved p
  · exact ((hc.releaseSource _ _).releaseSource _ _).portMoved p
  · exact hu

end State.SameDrawers

theorem boolValue_switch {w : Nat} (h : w ≤ 1) : boolValue (w == 1) = w := by
  rcases Nat.le_one_iff_eq_zero_or_eq_one.1 h with rfl | rfl <;> rfl

theorem State.putPolarity_setting (s : State) (p : Port) (v : Bool) : ((s.putPolarity p v).drw p).setting 6 = boolValue v := by
  have hd : ∀ {u : State}, (s.setDrw p { s.drw p with polarity := v }).SameDrawers u → (u.drw p).setting 6 = boolValue v :=
    fun hu => by rw [hu p, State.setDrw_drw]; rfl
  have hr : (s.setDrw p { s.drw p with polarity := v }).SameDrawers (s.setDrw p { s.drw p with polarity := v }) := .of_drw fun _ => rfl
  exact hd (State.SameDrawers.ite (hr.sensorEvent p _) hr)

theorem State.putDrawer_setting (s : State) (p : Port) {n lo hi w : Nat} (h : drawerRange n = some (lo, hi)) (hw : w ≤ hi) :
    ((s.putDrawer p n w).drw p).setting n = w := by
  unfold drawerRange at h
  split at h
  case h_1 =>
    cases h
    have hr : (s.setDrw p { s.drw p with fittedSet := w == 1 }).SameDrawers (s.putDrawer p 1 w) :=
      State.SameDrawers.portMoved (.of_drw fun _ => rfl) p
    rw [hr p, State.setDrw_drw]
    exact boolValue_switch hw
  case h_6 =>
    cases h
    exact (s.putPolarity_setting p _).trans (boolValue_switch hw)
  case h_8 => cases h
  all_goals cases p <;> rfl

/-- A clamped value that is written is the value that a read returns (R17, R18). -/
theorem State.putSetting_setting (s : State) {b n lo hi w : Nat} (h : settingRange b n = some (lo, hi)) (hw : w ≤ hi)
    (hn : b = 10 → n = 1) : (s.putSetting b n w).setting b n = w := by
  unfold settingRange at h
  split at h
  case h_1 =>
    cases h
    exact Nat.mod_eq_of_lt (by omega)
  case h_5 =>
    cases h
    rw [State.putSetting, State.putEnable]
    split <;> exact boolValue_switch hw
  case h_13 =>
    rw [State.putSetting, State.testBudget]
    split <;> rfl
  case h_15 => exact s.putDrawer_setting .one h hw
  case h_16 => exact s.putDrawer_setting .two h hw
  case h_20 => cases hn rfl
  case h_22 => cases h
  case h_6 | h_7 | h_11 | h_12 | h_3 | h_17 | h_18 => rfl
  all_goals
    cases h
    exact boolValue_switch hw

theorem State.Alike.setting {s t : State} (h : s.Alike t) {b : Nat} (hb : b ≠ 1) (n : Nat) : s.setting b n = t.setting b n := by
  obtain ⟨l, rfl⟩ := h
  unfold State.setting
  split
  case h_1 | h_2 => exact absurd rfl hb
  all_goals rfl

/-! ### The store's choice keeps hold_unexported -/

theorem Store.fail_holdUnexported (x : Store) : x.fail.holdUnexported = x.holdUnexported := by
  simp only [Store.fail]
  split <;> rfl

theorem Store.spareCheck_holdUnexported (x : Store) : x.spareCheck.holdUnexported = x.holdUnexported := by
  unfold Store.spareCheck
  repeat' split
  all_goals rfl

theorem Store.eraseStep_holdUnexported (x : Store) (e : Erase) : (x.eraseStep e).holdUnexported = x.holdUnexported := by
  unfold Store.eraseStep
  split <;> rfl

theorem State.endRead_holdUnexported (s : State) (a : Access) (health : List Health) :
    (s.endRead a health).store.holdUnexported = s.store.holdUnexported := by
  unfold State.endRead
  split <;> simp [State.ite_fields, State.popAccess, State.reply, State.pushReply]

theorem State.serveErase_holdUnexported (s : State) :
    (match s.store.erase with | some y => (s.setStore (s.store.eraseStep y), false) | none => (s, false)).1.store.holdUnexported
      = s.store.holdUnexported := by
  split
  · exact Store.eraseStep_holdUnexported _ _
  · rfl

theorem State.choose1_holdUnexported (s : State) : s.choose1.1.store.holdUnexported = s.store.holdUnexported := by
  fun_cases State.choose1 s
  case case5 => rw [State.failCopies, State.evalCondition_store]; exact Store.fail_holdUnexported _
  case case7 | case9 => exact s.serveErase_holdUnexported
  case case8 => simp [State.popAccess]
  case case14 => exact State.endRead_holdUnexported _ _ _
  all_goals rfl

theorem State.pumpN_holdUnexported (k : Nat) (s : State) : (s.pumpN k).store.holdUnexported = s.store.holdUnexported := by
  induction k generalizing s with
  | zero => rfl
  | succ k ih =>
    rw [State.pumpN]
    dsimp only
    split
    · rfl
    · split
      · rw [ih, s.choose1_holdUnexported]
      · exact s.choose1_holdUnexported

theorem State.pump_holdUnexported (s : State) : s.pump.store.holdUnexported = s.store.holdUnexported := by
  unfold State.pump
  split
  · rfl
  · exact s.pumpN_holdUnexported 16

theorem State.putHold_setting (s : State) {w : Nat} (hw : w ≤ 1) : (s.putSetting 10 2 w).setting 10 2 = w := by
  have hp : (s.putSetting 10 2 w).store.holdUnexported = (w == 1) := by
    rw [State.putSetting, State.pump_holdUnexported, State.spareCheck_store]
    · exact Store.spareCheck_holdUnexported _
    · decide
  exact (congrArg boolValue hp).trans (boolValue_switch hw)

/-! ### The answers of the settings -/

/-- A read of a setting answers its value, and one of an unknown pair NOT_FOUND (R18). -/
theorem exec_settingGet {s : State} (h : s.ready) (tag b n : Byte) : exec (.settingGet tag b n) s = .next (s.answer 0x05 tag
    (if (settingRange b.toNat n.toNat).isSome then .accept (le32 (s.setting b.toNat n.toNat)) else .refuse .notFound)).chooseFrame := by
  have hset : s.SameSettings s.reservePlace := { drawer := fun p n => by cases p <;> rfl }
  refine (ended_of_answer h.1 (r := .settingGet b.toNat n.toNat) ?_ :)
  rw [decide3_of_fieldsOk (s := s.reservePlace) tag h.2]
  show answered (reqSettingGet _ _ _) = _
  rw [reqSettingGet]
  cases settingRange b.toNat n.toNat with
  | none => rfl
  | some r =>
    rw [hset.setting]
    rfl

theorem exec_settingPut_of_unknown {s : State} (h : s.ready) (tag b n : Byte) (v : BitVec 32)
    (hr : settingRange b.toNat n.toNat = none) :
    exec (.settingPut tag b n v) s = .next (s.answer 0x04 tag (.refuse .notFound)).chooseFrame := by
  rw [exec_settingPut h, reqSettingPut_of_unknown hr, State.finish_of_same]
  rfl

/-- A write of a notices setting is answered, and empties the slots that it disables (R12). -/
theorem exec_settingPut_of_notices {s : State} (h : s.ready) (tag b n : Byte) (v : BitVec 32) {lo hi : Nat} {mask : BitVec 10}
    {weightB : Bool} (hr : settingRange b.toNat n.toNat = some (lo, hi))
    (hp : s.reservePlace.putSetting b.toNat n.toNat (clampNat lo hi v.toNat) = s.reservePlace.setNotices mask weightB) :
    exec (.settingPut tag b n v) s = .next (({ s with link := { s.link with
      mask := mask, weightB := weightB, slots := s.link.slots.keepEnabled mask weightB } } : State).answer 0x04 tag
        (.accept (le32 (clampNat lo hi v.toNat)))).chooseFrame := by
  rw [exec_settingPut h, reqSettingPut_of_range hr, hp, State.finish_of_same]
  rfl

theorem clampNat_le {lo hi : Nat} (h : lo ≤ hi) (v : Nat) : clampNat lo hi v ≤ hi := by
  unfold clampNat
  omega

theorem clampNat_switch (v : Nat) : (clampNat 0 1 v == 1) = decide (1 ≤ v) := by
  unfold clampNat
  rw [Bool.eq_iff_iff, beq_iff_eq, decide_eq_true_iff]
  omega

theorem State.putSetting_mask (s : State) (v : Nat) : s.putSetting 1 1 v = s.setNotices (BitVec.ofNat 10 v) s.link.weightB := rfl
theorem State.putSetting_weightB (s : State) (v : Nat) : s.putSetting 1 2 v = s.setNotices s.link.mask (v == 1) := rfl

theorem exec_settingPut_mask {s : State} (h : s.ready) (tag : Byte) {b n : Byte} (v : BitVec 32) (hb : b.toNat = 1) (hn : n.toNat = 1) :
    exec (.settingPut tag b n v) s = .next (({ s with link := { s.link with
      mask := BitVec.ofNat 10 (min 1023 v.toNat), slots := s.link.slots.keepEnabled (BitVec.ofNat 10 (min 1023 v.toNat)) s.link.weightB
      } } : State).answer 0x04 tag (.accept (le32 (min 1023 v.toNat)))).chooseFrame := by
  have hr : settingRange b.toNat n.toNat = some (0, 1023) := by rw [hb, hn]; rfl
  have hc : clampNat 0 1023 v.toNat = min 1023 v.toNat := Nat.zero_max _
  rw [← hc]
  exact exec_settingPut_of_notices h tag b n v hr (by rw [hb, hn]; exact State.putSetting_mask _ _)

theorem exec_settingPut_weightB {s : State} (h : s.ready) (tag : Byte) {b n : Byte} (v : BitVec 32) (hb : b.toNat = 1) (hn : n.toNat = 2) :
    exec (.settingPut tag b n v) s = .next (({ s with link := { s.link with
      weightB := decide (1 ≤ v.toNat), slots := s.link.slots.keepEnabled s.link.mask (decide (1 ≤ v.toNat))
      } } : State).answer 0x04 tag (.accept (le32 (min 1 v.toNat)))).chooseFrame := by
  have hr : settingRange b.toNat n.toNat = some (0, 1) := by rw [hb, hn]; rfl
  have hc : clampNat 0 1 v.toNat = min 1 v.toNat := Nat.zero_max _
  rw [← hc, ← clampNat_switch]
  exact exec_settingPut_of_notices h tag b n v hr (by rw [hb, hn]; exact State.putSetting_weightB _ _)

/-- A write of a setting produces its own reply alone, but where the flash, which hold_unexported may let go on, ends reads (R111). -/
theorem exec_settingPut_replies {s t : State} {tag b n : Byte} {v : BitVec 32} (h : s.ready)
    (ht : exec (.settingPut tag b n v) s = .next t) {lo hi : Nat} (hr : settingRange b.toNat n.toNat = some (lo, hi)) :
    ∃ mid, t.link.replies = s.link.replies ++ mid ++ [replyFrame 0x04 tag (.accept (le32 (clampNat lo hi v.toNat)))]
      ∧ (b.toNat ≠ 10 → mid = []) := by
  rw [exec_settingPut h, reqSettingPut_of_range hr] at ht
  have hrep : ∀ w : State, ((w.reply 0x04 tag (.accept (le32 (clampNat lo hi v.toNat)))).finish s).link.replies =
      w.link.replies ++ [replyFrame 0x04 tag (.accept (le32 (clampNat lo hi v.toNat)))] := fun w => by
    rw [State.finish_replies]
    rfl
  obtain ⟨mid, hm, -⟩ := ((State.Keeps.refl s.reservePlace).putSetting b.toNat n.toNat (clampNat lo hi v.toNat)).replies
  rw [← Host.Outcome.next.inj ht, hrep, hm]
  refine ⟨mid, rfl, fun hb => ?_⟩
  have hk : (s.reservePlace.putSetting b.toNat n.toNat (clampNat lo hi v.toNat)).link.replies = s.reservePlace.link.replies := by
    generalize b.toNat = b at hb
    unfold State.putSetting
    split
    case h_19 | h_20 => exact absurd rfl hb
    case h_1 | h_2 => rfl
    all_goals simp
  rw [hk] at hm
  simpa using hm

theorem settingRow_notices {b n : Nat} {r : Nat × Nat} (h : settingRange b n = some r) (hb : b = 1) : n = 1 ∨ n = 2 := by
  obtain ⟨row, hrow, hrb, hrn⟩ := settingRow_of_range h
  have hall : ∀ row ∈ settingRows, row.block = 1 → row.setting = 1 ∨ row.setting = 2 := by decide
  exact hrn ▸ hall row hrow (hrb.trans hb)

theorem settingRow_store {b n : Nat} {r : Nat × Nat} (h : settingRange b n = some r) (hb : b = 10) : n = 1 ∨ n = 2 := by
  obtain ⟨row, hrow, hrb, hrn⟩ := settingRow_of_range h
  have hall : ∀ row ∈ settingRows, row.block = 10 → row.setting = 1 ∨ row.setting = 2 := by decide
  exact hrn ▸ hall row hrow (hrb.trans hb)

theorem exec_settingPut_setting {s t : State} {tag b n : Byte} {v : BitVec 32} (h : s.ready)
    (ht : exec (.settingPut tag b n v) s = .next t) {lo hi : Nat} (hr : settingRange b.toNat n.toNat = some (lo, hi)) (hlo : lo ≤ hi) :
    t.setting b.toNat n.toNat = clampNat lo hi v.toNat := by
  have hw := clampNat_le hlo v.toNat
  by_cases hb : b.toNat = 1
  · rcases settingRow_notices hr hb with hn | hn
    · rw [exec_settingPut_mask h tag v hb hn] at ht
      rw [← Host.Outcome.next.inj ht, hb, hn]
      rw [hb, hn] at hr
      cases hr
      have hm : ∀ l : Link, l.choose.mask = l.mask := fun l => by
        unfold Link.choose
        repeat' split
        all_goals rfl
      refine (congrArg BitVec.toNat (hm _)).trans ?_
      rw [clampNat, Nat.zero_max]
      exact Nat.mod_eq_of_lt (by omega)
    · rw [exec_settingPut_weightB h tag v hb hn] at ht
      rw [← Host.Outcome.next.inj ht, hb, hn]
      rw [hb, hn] at hr
      cases hr
      have hm : ∀ l : Link, l.choose.weightB = l.weightB := fun l => by
        unfold Link.choose
        repeat' split
        all_goals rfl
      refine (congrArg boolValue (hm _)).trans ?_
      rw [← boolValue_switch hw, clampNat_switch]
      rfl
  · rw [exec_settingPut h, reqSettingPut_of_range hr] at ht
    have ha : t.Alike (s.reservePlace.putSetting b.toNat n.toNat (clampNat lo hi v.toNat)) := by
      rw [← Host.Outcome.next.inj ht]
      exact (State.Alike.reply ⟨_, rfl⟩ _ _ _).finish s
    rw [ha.setting hb]
    by_cases hn : b.toNat = 10 → n.toNat = 1
    · exact s.reservePlace.putSetting_setting hr hw hn
    · obtain ⟨hb₁₀, hn₁⟩ := Classical.not_imp.1 hn
      have hn₂ := (settingRow_store hr hb₁₀).resolve_left hn₁
      rw [hb₁₀, hn₂] at hr ⊢
      cases hr
      exact s.reservePlace.putHold_setting hw

/-! ### What a drawer setting does to its port and to the transaction -/

theorem DrawerState.unfinished_iff (x : DrawerState) : x.unfinished = false ↔ x = .closed ∨ x = .noOpen := by
  cases x <;> decide

theorem ReceiptState.finished_iff (x : ReceiptState) : x.finished = true ↔ x = .none ∨ x = .printed ∨ x = .cancelled := by
  cases x <;> decide

/-- The closing condition, as the model tests it (R71). -/
theorem State.closes_iff (s : State) : s.closes s.txn ↔ s.txn.state = .closing ∧ s.closingHolds = true := by
  have hp : ∀ (fired : Bool) (x : DrawerState), (fired && x.unfinished) = false ↔ (fired = true → x = .closed ∨ x = .noOpen) :=
    fun fired x => by
      rw [← DrawerState.unfinished_iff]
      cases fired <;> simp
  have hq : (∀ p, s.txn.fired p = true → (s.drw p).state = .closed ∨ (s.drw p).state = .noOpen) ↔
      (s.txn.fired1 && s.drw1.state.unfinished) = false ∧ (s.txn.fired2 && s.drw2.state.unfinished) = false := by
    rw [hp, hp]
    exact ⟨fun h => ⟨h .one, h .two⟩, fun h p => by
      cases p
      · exact h.1
      · exact h.2⟩
  rw [State.closes, State.closingHolds, hq, ← ReceiptState.finished_iff]
  cases s.txn.fired1 <;> cases s.txn.fired2 <;> simp [and_assoc]

theorem State.portChanged_frame (s : State) (p : Port) :
    s.portChanged p = { s with txn := (s.portChanged p).txn, bag := (s.portChanged p).bag } := by
  unfold State.portChanged State.examineClosing
  repeat' split
  all_goals rfl

/-- A port that the transaction has fired may end it (R71); another changes nothing of it. -/
theorem State.portChanged_receipt (s : State) (p : Port) : if s.txn.fired p = true then s.receiptBecomes (s.portChanged p) s.txn
    else (s.portChanged p).txn = s.txn ∧ (s.portChanged p).bag = s.bag := by
  unfold State.portChanged
  split
  · unfold State.examineClosing
    refine ⟨fun hc => ?_, fun hc => ?_⟩
    · rw [if_pos (s.closes_iff.1 hc)]
      exact ⟨rfl, rfl⟩
    · rw [if_neg (mt s.closes_iff.2 hc)]
      exact ⟨rfl, rfl⟩
  · exact ⟨rfl, rfl⟩

/-- A fired port that does not meet the closing condition, and one that is not fired, change nothing of the transaction. -/
theorem State.portChanged_of_open {s : State} {p : Port} (h : s.txn.fired p = false ∨ ¬ s.closes s.txn) : s.portChanged p = s := by
  unfold State.portChanged State.examineClosing
  split
  · next hf => rw [if_neg (mt s.closes_iff.2 (h.resolve_left (by simp [hf])))]
  · rfl

/-- A port that has taken a state, with the attention sources it leaves, and what the transaction makes of it. -/
def State.turned (s : State) (p : Port) (d : Drawer) (attn : Attention) : State := ({ s.setDrw p d with attn := attn } : State).portChanged p

theorem State.turned_receipt {s t : State} {p : Port} {d : Drawer} {attn : Attention} (h : t.Alike (s.turned p d attn)) :
    t = { s.setDrw p d with link := t.link, attn := attn, txn := t.txn, bag := t.bag }
      ∧ (if s.txn.fired p = true then (s.setDrw p d).receiptBecomes t s.txn else t.txn = s.txn ∧ t.bag = s.bag) := by
  obtain ⟨l, rfl⟩ : ∃ l, t = (s.turned p d attn).setLink l := ⟨_, h.eq_of_link⟩
  cases p
  · exact ⟨congrArg (State.setLink l) (State.portChanged_frame ({ s.setDrw .one d with attn := attn } : State) .one),
      State.portChanged_receipt ({ s.setDrw .one d with attn := attn } : State) .one⟩
  · exact ⟨congrArg (State.setLink l) (State.portChanged_frame ({ s.setDrw .two d with attn := attn } : State) .two),
      State.portChanged_receipt ({ s.setDrw .two d with attn := attn } : State) .two⟩

/-- The sources that a port which is CLOSED and not forced leaves, the other port being `d` (R172, R199). -/
def Attention.shut (x : Attention) (d : Drawer) : Attention := { x with
  drawerForced := if d.forced = true then x.drawerForced else { x.drawerForced with active := false, muted := false }
  drawerOverdue := if d.state = .overdue then x.drawerOverdue else { x.drawerOverdue with active := false, muted := false } }

/-- A port that is CLOSED and not forced releases both its sources, in either order. -/
theorem State.release_shut (s : State) {p q : Port} {d : Drawer} (hpq : p ≠ q) (hf : d.forced = false) (hs : d.state ≠ .overdue) :
    (s.setDrw p d).releaseOverdue.releaseForced = { s.setDrw p d with attn := s.attn.shut (s.drw q) }
      ∧ (s.setDrw p d).releaseForced.releaseOverdue = { s.setDrw p d with attn := s.attn.shut (s.drw q) } := by
  have ho : (d.state == .overdue) = false := beq_eq_false_iff_ne.2 hs
  have hports : p = .one ∧ q = .two ∨ p = .two ∧ q = .one := by
    cases p <;> cases q <;> simp_all
  have hF : ∀ a : Attention, State.releaseForced { s.setDrw p d with attn := a } = { s.setDrw p d with
      attn := { a with drawerForced := if (s.drw q).forced = true then a.drawerForced else
        { a.drawerForced with active := false, muted := false } } } := fun a => by
    have hr : State.releaseForced { s.setDrw p d with attn := a } =
        State.releaseSource .drawerForced (s.drw q).forced { s.setDrw p d with attn := a } := by
      obtain ⟨rfl, rfl⟩ | ⟨rfl, rfl⟩ := hports <;> simp [State.releaseForced, State.setDrw, State.drw, hf]
    rw [hr, State.releaseSource]
    split <;> rfl
  have hO : ∀ a : Attention, State.releaseOverdue { s.setDrw p d with attn := a } = { s.setDrw p d with
      attn := { a with drawerOverdue := if (s.drw q).state = .overdue then a.drawerOverdue else
        { a.drawerOverdue with active := false, muted := false } } } := fun a => by
    have hr : State.releaseOverdue { s.setDrw p d with attn := a } =
        State.releaseSource .drawerOverdue ((s.drw q).state == .overdue) { s.setDrw p d with attn := a } := by
      obtain ⟨rfl, rfl⟩ | ⟨rfl, rfl⟩ := hports <;> simp [State.releaseOverdue, State.setDrw, State.drw, ho]
    rw [hr, State.releaseSource]
    simp only [beq_iff_eq]
    split <;> rfl
  have ha : s.setDrw p d = { s.setDrw p d with attn := s.attn } := by cases p <;> rfl
  refine ⟨?_, ?_⟩
  · rw [ha]
    exact (congrArg State.releaseForced (hO _)).trans (hF _)
  · rw [ha]
    exact (congrArg State.releaseOverdue (hF _)).trans (hO _)

theorem DrawerState.atRest_iff (x : DrawerState) : x.atRest = true ↔ x = .closed ∨ x = .opened ∨ x = .overdue ∨ x = .noOpen := by
  cases x <;> decide

/-- The closing condition reads only the ports' states (R71). -/
theorem State.closes_congr {s t : State} (h : ∀ p, (t.drw p).state = (s.drw p).state) (x : Txn) : t.closes x ↔ s.closes x := by
  unfold State.closes
  simp only [h]

theorem State.setDrw_txn (s : State) (p : Port) (d : Drawer) : (s.setDrw p d).txn = s.txn := by cases p <;> rfl
theorem State.setDrw_attn (s : State) (p : Port) (d : Drawer) : (s.setDrw p d).attn = s.attn := by cases p <;> rfl
theorem State.setDrw_clock (s : State) (p : Port) (d : Drawer) : (s.setDrw p d).clock = s.clock := by cases p <;> rfl
theorem State.setDrw_setDrw (s : State) (p : Port) (d e : Drawer) : (s.setDrw p d).setDrw p e = s.setDrw p e := by cases p <;> rfl
theorem State.setDrw_attn_eta (s : State) (p : Port) (d : Drawer) : { s.setDrw p d with attn := s.attn } = s.setDrw p d := by
  cases p <;> rfl
theorem State.setDrw_drw_state (s : State) {p : Port} {d : Drawer} (h : d.state = (s.drw p).state) (q : Port) :
    ((s.setDrw p d).drw q).state = (s.drw q).state := by
  by_cases hq : q = p
  · rw [hq, State.setDrw_drw, h]
  · rw [State.setDrw_drw_ne _ hq]

theorem State.assertSource_drw (s : State) (k : SourceName) (p : Port) : (s.assertSource k).drw p = s.drw p := by cases p <;> rfl

section
variable {s : State} {p : Port} {on : Bool}

/-- A fitted value that changes nothing, or that the port's state holds back (R174). -/
theorem State.putFitted_of_held (ht : s.txn.fired p = false ∨ ¬ s.closes s.txn) (h : on = (s.drw p).fitted ∨ (s.drw p).state.atRest ≠ true) :
    (s.setDrw p { s.drw p with fittedSet := on }).portMoved p = s.setDrw p { s.drw p with fittedSet := on } := by
  have ha : (s.setDrw p { s.drw p with fittedSet := on }).applyFitted p = s.setDrw p { s.drw p with fittedSet := on } := by
    rw [State.applyFitted, State.setDrw_drw]
    exact if_pos (h.imp_right fun hr => by simp [hr])
  rw [State.portMoved, ha]
  refine State.portChanged_of_open ?_
  rw [State.setDrw_txn, State.closes_congr (s.setDrw_drw_state (d := { s.drw p with fittedSet := on }) rfl)]
  exact ht

/-- A port at rest that a setting unfits (R174). -/
theorem State.putFitted_of_unfit {q : Port} (hpq : p ≠ q) (hr : (s.drw p).state.atRest = true) (hf : (s.drw p).fitted = true) :
    (s.setDrw p { s.drw p with fittedSet := false }).portMoved p = s.turned p { s.drw p with
      fittedSet := false, fitted := false, forced := false, kickTimer := none, holdTimer := none, grant := 0
      state := .closed, overdueTimer := none } (s.attn.shut (s.drw q)) := by
  rw [State.portMoved, State.applyFitted_of_unfit (by rw [State.setDrw_drw]; exact hf) (by rw [State.setDrw_drw])
    (by rw [State.setDrw_drw]; exact hr), State.setDrw_drw, State.setDrw_setDrw]
  exact congrArg (State.portChanged p) (s.release_shut hpq rfl (by simp [Drawer.idle])).2

/-- A port at rest that a setting fits takes its state from its sensor (R174). -/
theorem State.putFitted_of_fit (hr : (s.drw p).state.atRest = true) (hf : (s.drw p).fitted = false) :
    (s.setDrw p { s.drw p with fittedSet := true }).portMoved p = s.turned p
      (if (s.drw p).levelHigh != (s.drw p).polarity then { s.drw p with
          fittedSet := true, fitted := true, forced := false, kickTimer := none, holdTimer := none, grant := 0
          state := .opened, sensorOpen := true, overdueTimer := some (s.clock + (s.drw p).overdueS * 1000) }
        else { s.drw p with
          fittedSet := true, fitted := true, forced := false, kickTimer := none, holdTimer := none, grant := 0
          state := .closed, sensorOpen := false, overdueTimer := none }) s.attn := by
  have ha : (s.setDrw p { s.drw p with fittedSet := true }).applyFitted p =
      (s.setDrw p { s.drw p with fittedSet := true, fitted := true }).sampleSensor p := by
    simp only [State.applyFitted, State.setDrw_drw, State.setDrw_setDrw, hf, hr]
    rfl
  rw [State.portMoved, ha, State.turned, State.setDrw_attn_eta]
  congr 1
  simp only [State.sampleSensor, State.setDrw_drw, State.setDrw_setDrw, State.enterOpen, State.timer, State.setDrw_clock,
    Drawer.readsOpen]
  cases (s.drw p).levelHigh != (s.drw p).polarity <;> rfl

/-- A polarity under which the level reads as before (R167). -/
theorem State.putPolarity_of_same (h : (s.drw p).fitted = false ∨ ((s.drw p).levelHigh != on) = (s.drw p).sensorOpen) :
    s.putPolarity p on = s.setDrw p { s.drw p with polarity := on } := by
  rw [State.putPolarity, State.setDrw_drw]
  refine if_neg fun hc => ?_
  rcases h with h | h
  · exact absurd hc.1 (by simp [h])
  · exact hc.2 h

theorem State.putPolarity_of_other (hf : (s.drw p).fitted = true) (h : ((s.drw p).levelHigh != on) ≠ (s.drw p).sensorOpen) :
    s.putPolarity p on = (s.setDrw p { s.drw p with polarity := on }).sensorEvent p ((s.drw p).levelHigh != on) := by
  rw [State.putPolarity, State.setDrw_drw]
  exact if_pos ⟨hf, h⟩

/-- A polarity written acts as a sensor event where the level then reads otherwise (R167). -/
theorem evDrawerSensorChange_of_polarity (s : State) (p : Port) (on : Bool) :
    evDrawerSensorChange p (s.drw p).levelHigh (s.setDrw p { s.drw p with polarity := on, levelHigh := !(s.drw p).levelHigh }) =
      s.putPolarity p on := by
  have hl : (!(s.drw p).levelHigh) ≠ (s.drw p).levelHigh := by cases (s.drw p).levelHigh <;> decide
  rw [evDrawerSensorChange, State.setDrw_drw, if_neg hl, State.setDrw_setDrw, State.putPolarity, State.setDrw_drw]
  dsimp only
  rw [State.setDrw_drw]

theorem Drawer.fitted_eta {d : Drawer} (hf : d.fitted = true) (hs : d.fittedSet = true) :
    d = { d with fittedSet := true, fitted := true } := by
  cases d
  cases hf
  cases hs
  rfl

/-- A polarity under which an open port reads closed (R167). -/
theorem State.putPolarity_of_closing {q : Port} (hpq : p ≠ q) (hf : (s.drw p).fitted = true) (hs : (s.drw p).fittedSet = true)
    (hl : ((s.drw p).levelHigh != on) = false) (ho : (s.drw p).sensorOpen = true)
    (hst : (s.drw p).state = .opened ∨ (s.drw p).state = .overdue) : s.putPolarity p on = s.turned p { s.drw p with
      fittedSet := true, fitted := true, forced := false, kickTimer := none, holdTimer := none, grant := 0
      state := .closed, polarity := on, sensorOpen := false, overdueTimer := none } (s.attn.shut (s.drw q)) := by
  have hd : (s.setDrw p { s.drw p with polarity := on }).sensorEvent p false = (((s.setDrw p { s.drw p with
      polarity := on, sensorOpen := false, state := .closed, kickTimer := none, holdTimer := none, overdueTimer := none, grant := 0
      forced := false }).releaseOverdue).releaseForced).portMoved p := by
    unfold State.sensorEvent
    simp only [State.setDrw_drw, State.setDrw_setDrw]
    rcases hst with h | h <;> rw [h] <;> rfl
  rw [State.putPolarity_of_other hf (by simp [hl, ho]), hl, hd, (s.release_shut hpq rfl (by simp)).1, State.portMoved,
    State.applyFitted_of_same]
  · rw [Drawer.fitted_eta hf hs]
    rfl
  · have hp : ∀ a, ({ s.setDrw p { s.drw p with
        polarity := on, sensorOpen := false, state := .closed, kickTimer := none, holdTimer := none, overdueTimer := none, grant := 0
        forced := false } with attn := a } : State).drw p = _ := fun a => s.setDrw_drw p _
    rw [hp]
    exact hs.trans hf.symm

/-- A polarity under which a closed port reads open forces it (R167). -/
theorem State.putPolarity_of_opening (hf : (s.drw p).fitted = true) (hs : (s.drw p).fittedSet = true)
    (hl : ((s.drw p).levelHigh != on) = true) (ho : (s.drw p).sensorOpen = false) (hst : (s.drw p).state = .closed) :
    s.putPolarity p on = { s.setDrw p { s.drw p with
      polarity := on, sensorOpen := true, state := .opened, forced := true, kickTimer := none, holdTimer := none
      grant := 0, overdueTimer := some (s.clock + (s.drw p).overdueS * 1000) } with
        attn := { s.attn with drawerForced := { active := true, muted := false, start := s.clock } } } := by
  have hd : (s.setDrw p { s.drw p with polarity := on }).sensorEvent p true = (((s.setDrw p { s.drw p with
      polarity := on, sensorOpen := true, state := .opened, forced := true, kickTimer := none, holdTimer := none
      grant := 0, overdueTimer := some (s.clock + (s.drw p).overdueS * 1000) }).assertSource .drawerForced)).portMoved p := by
    unfold State.sensorEvent
    simp only [State.setDrw_drw, State.setDrw_setDrw, hst, State.enterOpen, State.timer, State.setDrw_clock]
    rfl
  rw [State.putPolarity_of_other hf (by simp [hl, ho]), hl, hd, State.portMoved, State.applyFitted_of_same,
    State.portChanged_of_open]
  · simp only [State.assertSource, State.setDrw_attn, State.setDrw_clock]
    cases p <;> rfl
  · refine or_iff_not_imp_left.2 fun hfired hc => ?_
    have hp := hc.2.2 p (by simpa using hfired)
    rw [State.assertSource_drw, State.setDrw_drw] at hp
    exact absurd hp (by simp)
  · rw [State.assertSource_drw, State.setDrw_drw]
    exact hs.trans hf.symm
end

/-! ### The oldest FULL sector -/

/-- The head of a list sorted by insertion is the first of the least elements. -/
theorem head_insertionSort_first {α : Type} {r : α → α → Prop} [DecidableRel r] (htotal : ∀ a b, r a b ∨ r b a)
    (htrans : ∀ a b c, r a b → r b c → r a c) : ∀ {l : List α} {b : α}, (l.insertionSort r).head? = some b →
      ∃ l₁ l₂, l = l₁ ++ b :: l₂ ∧ (∀ a ∈ l₁, ¬ r a b) ∧ ∀ c ∈ l₂, r b c
  | [], b, h => by cases h
  | a :: l, b, h => by
    have ih := @head_insertionSort_first α r _ htotal htrans l
    rw [List.insertionSort_cons] at h
    cases hs : l.insertionSort r with
    | nil =>
      have hl : l = [] := List.length_eq_zero_iff.1 (by rw [← List.length_insertionSort r, hs]; rfl)
      rw [hs] at h
      cases h
      exact ⟨[], [], by rw [hl]; rfl, nofun, nofun⟩
    | cons c t =>
      rw [hs] at h ih
      obtain ⟨l₁, l₂, hl, hbefore, hbehind⟩ := ih rfl
      rw [List.orderedInsert_cons] at h
      split at h
      · next hac =>
        cases h
        refine ⟨[], l, rfl, nofun, fun d hd => htrans a c d hac ?_⟩
        rw [hl, List.mem_append, List.mem_cons] at hd
        rcases hd with hd | rfl | hd
        · exact (htotal c d).resolve_right (hbefore d hd)
        · exact (htotal d d).elim id id
        · exact hbehind d hd
      · next hac =>
        cases h
        exact ⟨a :: l₁, l₂, by rw [hl]; rfl, by simpa using ⟨hac, hbefore⟩, hbehind⟩

theorem zipIdx_pairwise {α : Type} (l : List α) : l.zipIdx.Pairwise fun a b => a.2 < b.2 := by
  refine List.pairwise_map.1 ?_
  rw [List.zipIdx_map_snd]
  exact List.pairwise_lt_range'

/-- The entries of a test, in order of sequence number: the head is the first of those with the lowest (R97, R105). -/
theorem Store.head_bySeq {x : Store} {test : SectorEntry → Bool} {i : Nat} (h : (x.bySeq test).head? = some i) :
    ∃ e, x.table[i]? = some e ∧ test e = true
      ∧ ∀ j y, x.table[j]? = some y → test y = true → e.seq < y.seq ∨ e.seq = y.seq ∧ i ≤ j := by
  rw [Store.bySeq, List.head?_map, Option.map_eq_some_iff] at h
  obtain ⟨⟨e, k⟩, hh, rfl⟩ := h
  obtain ⟨l₁, l₂, hl, hbefore, hbehind⟩ := head_insertionSort_first (r := fun a b : SectorEntry × Nat => a.1.seq ≤ b.1.seq)
    (fun a b => Nat.le_total a.1.seq b.1.seq) (fun a b c => Nat.le_trans) hh
  have hmem : ∀ y : SectorEntry × Nat, y ∈ l₁ ++ (e, k) :: l₂ ↔ x.table[y.2]? = some y.1 ∧ test y.1 = true := fun y => by
    rw [← hl, List.mem_filter, List.mem_zipIdx_iff_getElem?]
  have hpos : (l₁ ++ (e, k) :: l₂).Pairwise fun a b => a.2 < b.2 := by
    rw [← hl]
    exact (zipIdx_pairwise _).filter _
  obtain ⟨he, ht⟩ := (hmem (e, k)).1 (by simp)
  refine ⟨e, he, ht, fun j y hj hy => ?_⟩
  have hy' := (hmem (y, j)).2 ⟨hj, hy⟩
  rw [List.mem_append, List.mem_cons] at hy'
  rcases hy' with hy' | hy' | hy'
  · exact .inl (Nat.not_le.1 (hbefore _ hy'))
  · cases hy'
    exact .inr ⟨rfl, Nat.le_refl _⟩
  · have hlt : k < j := (List.pairwise_cons.1 (List.pairwise_append.1 hpos).2.1).1 _ hy'
    exact (Nat.lt_or_eq_of_le (hbehind _ hy')).imp_right fun h => ⟨h, hlt.le⟩

theorem Store.bySeq_eq_nil {x : Store} {test : SectorEntry → Bool} (h : ∀ e ∈ x.table, test e = false) : x.bySeq test = [] := by
  have hf : x.table.zipIdx.filter (fun e => test e.1) = [] := by
    rw [List.filter_eq_nil_iff]
    rintro ⟨e, i⟩ he
    simp [h e (List.mem_of_getElem? (List.mem_zipIdx_iff_getElem?.1 he))]
  rw [Store.bySeq, hf]
  rfl

theorem Store.oldestFullIs_of_oldestFull {x : Store} {i : Nat} (h : x.oldestFull = some i) : x.oldestFullIs i := by
  obtain ⟨e, he, hs, hmin⟩ := Store.head_bySeq h
  exact ⟨e, he, by simpa using hs, fun j y hj hy => hmin j y hj (by simpa using hy)⟩

theorem Store.oldestFullIs_unique {x : Store} {i j : Nat} (hi : x.oldestFullIs i) (hj : x.oldestFullIs j) : i = j := by
  obtain ⟨e, he, hs, hmin⟩ := hi
  obtain ⟨y, hy, hsy, hminy⟩ := hj
  have h₁ := hmin j y hy hsy
  have h₂ := hminy i e he hs
  omega

theorem Store.oldestFull_eq_none_iff {x : Store} : x.oldestFull = none ↔ ∀ e ∈ x.table, e.state ≠ .full := by
  refine ⟨fun h e he hs => ?_, fun h => ?_⟩
  · rw [Store.oldestFull, List.head?_eq_none_iff, Store.bySeq, List.map_eq_nil_iff] at h
    have hl := congrArg List.length h
    rw [List.length_insertionSort] at hl
    obtain ⟨i, hi⟩ := List.getElem?_of_mem he
    have hm : (e, i) ∈ x.table.zipIdx.filter fun e => e.1.state == .full := by
      rw [List.mem_filter, List.mem_zipIdx_iff_getElem?]
      exact ⟨hi, by simp [hs]⟩
    rw [List.length_eq_zero_iff.1 hl] at hm
    cases hm
  · rw [Store.oldestFull, Store.bySeq_eq_nil fun e he => by simpa using h e he]
    rfl

/-- The model's choice of the oldest FULL sector (R105). -/
theorem Store.oldestFull_eq_some_iff {x : Store} {i : Nat} : x.oldestFull = some i ↔ x.oldestFullIs i := by
  refine ⟨Store.oldestFullIs_of_oldestFull, fun h => ?_⟩
  cases ho : x.oldestFull with
  | none =>
    obtain ⟨e, he, hs, -⟩ := h
    exact absurd hs (Store.oldestFull_eq_none_iff.1 ho e (List.mem_of_getElem? he))
  | some j => rw [Store.oldestFullIs_unique (Store.oldestFullIs_of_oldestFull ho) h]

/-! ### The idle flash with no access queued -/

section
variable {s : State} (hr : s.store.rotation = .none) (hq : s.store.queue = [])
include hr hq

/-- With nothing owed and no erase, the flash has nothing to do (R100). -/
theorem State.choose1_of_done (hc : s.store.copies = []) (he : s.store.erase = none) : s.choose1 = (s, false) := by
  simp [State.choose1, hr, hq, hc, he]

/-- With no copy owed, the next step of the erase begins (R106). -/
theorem State.choose1_of_erase (hc : s.store.copies = []) {e : Erase} (he : s.store.erase = some e) :
    s.choose1 = (s.setStore (s.store.eraseStep e), false) := by
  simp [State.choose1, hr, hq, hc, he]

end

section
variable {s : State} {c : Ch} {rest : List Ch} {e : Erase} (hr : s.store.rotation = .none) (hc : s.store.copies = c :: rest)
  (he : s.store.erase = some e) (ho : c ∈ s.store.copiesOwed e.sector)
include hr hc he ho

/-- A copy owed before an erase is programmed (R105). -/
theorem State.choose1_of_copy (hroom : s.store.room ≠ 0) : s.choose1 = (s.setStore { s.store with op := .programCopy c }, false) := by
  have hm : (s.store.copiesOwed e.sector).contains c = true := List.contains_iff_mem.2 ho
  simp [State.choose1, hr, hc, he, hroom, ho]

/-- A copy owed for which no slot is left fails the store (R105). -/
theorem State.choose1_of_noRoom (hroom : s.store.room = 0) : s.choose1 = (s.failCopies, true) := by
  simp [State.choose1, hr, hc, he, hroom, ho]

end

theorem State.pump_of_busy {s : State} (h : s.store.op ≠ .idle) : s.pump = s := by
  simp [State.pump, State.pumpN, h]

/-- A first choice that ends at once, and a second that leaves the flash nothing to do. -/
theorem State.pump_of_choose1_twice {s u : State} (hs : s.link.starting = false) (ho : s.store.op = .idle) (hc : s.choose1 = (u, true))
    (hu : u.choose1 = (u, false)) : s.pump = u := by
  simp [State.pump, hs, State.pumpN, ho, hc, hu]

/-! ### The spare check -/

theorem Store.spared_iff (x : Store) : x.spared ↔ (x.failed || x.anyErased || x.anyErasing) = true := by
  have he : (∃ e ∈ x.table, e.state = .erased ∨ e.state = .erasing ∨ e.pending = true) ↔
      (∃ e ∈ x.table, e.state = .erased) ∨ ∃ e ∈ x.table, e.state = .erasing ∨ e.pending = true := by
    simp only [and_or_left, exists_or]
  simp only [Store.spared, he, Store.anyErased, Store.anyErasing, Bool.or_eq_true, List.any_eq_true, beq_iff_eq, or_assoc]

/-- The spare check decides nothing (R105). -/
theorem Store.spareCheck_of_kept {x : Store} (h : x.spared ∨ (∀ e ∈ x.table, e.state ≠ .full)
    ∨ ∃ i, x.oldestFullIs i ∧ x.holdUnexported = true ∧ (x.entry i).released = false) : x.spareCheck = x := by
  unfold Store.spareCheck
  split
  · rfl
  · next hs =>
    rcases h with h | h | ⟨i, hi, hh, hrel⟩
    · exact absurd (x.spared_iff.1 h) hs
    · rw [Store.oldestFull_eq_none_iff.2 h]
    · rw [Store.oldestFull_eq_some_iff.2 hi]
      simp [hh, hrel]

/-- The spare check decides the erase of the oldest FULL sector (R105). -/
theorem Store.spareCheck_of_erase {x : Store} {i : Nat} (hs : ¬ x.spared) (hi : x.oldestFullIs i)
    (hk : ¬ (x.holdUnexported = true ∧ (x.entry i).released = false)) : x.spareCheck = { x.setEntry i { x.entry i with pending := true } with
      erase := some { sector := i, pulses := 0, next := .pulse }, copies := x.copiesOwed i } := by
  unfold Store.spareCheck
  rw [if_neg (mt x.spared_iff.2 hs), Store.oldestFull_eq_some_iff.2 hi]
  exact if_neg (by simpa using hk)

theorem Store.mem_copiesOwed {x : Store} {i : Nat} {c : Ch} : c ∈ x.copiesOwed i ↔ x.holdsCurrent i c := by
  have hc : c ∈ [Ch.p, Ch.b] := by cases c <;> decide
  rw [Store.copiesOwed, List.mem_filter, Store.holdsCurrent]
  cases c
  · cases hp : x.currentP <;> simp [Store.current, hp]
  · cases hp : x.currentB <;> simp [Store.current, hp]

theorem Store.copiesOwed_sublist (x : Store) (i : Nat) : (x.copiesOwed i).Sublist [.p, .b] := List.filter_sublist

theorem Store.entry_setEntry (x : Store) (i : Nat) (e : SectorEntry) (j : Nat) :
    (x.setEntry i e).entry j = if i = j ∧ i < x.table.length then e else x.entry j := by
  simp only [Store.entry, Store.setEntry, List.getD_eq_getElem?_getD, List.getElem?_set]
  by_cases hij : i = j
  · subst hij
    by_cases hl : i < x.table.length <;> simp [hl]
  · simp [hij]

/-- The mark of a pending erase changes nothing else of an entry. -/
theorem Store.entry_setPending (x : Store) (i : Nat) (b : Bool) (j : Nat) :
    ∃ b', (x.setEntry i { x.entry i with pending := b }).entry j = { x.entry j with pending := b' } := by
  rw [Store.entry_setEntry]
  split
  · next h => exact ⟨b, by rw [h.1]⟩
  · exact ⟨(x.entry j).pending, rfl⟩

theorem Store.active_setPending (x : Store) (i : Nat) (b : Bool) :
    (x.setEntry i { x.entry i with pending := b }).active = x.active := by
  have hs : ∀ y : Store, y.active = (y.table.map (·.state)).findIdx? (· == .active) := fun y => by
    rw [List.findIdx?_map]
    rfl
  have hm : (x.setEntry i { x.entry i with pending := b }).table.map (·.state) = x.table.map (·.state) := by
    rw [Store.setEntry, List.map_set]
    by_cases hl : i < x.table.length
    · have he : (x.entry i).state = (x.table.map (·.state))[i]'(by simpa using hl) := by simp [Store.entry, hl]
      dsimp only
      rw [he, List.set_getElem_self]
    · exact List.set_eq_of_length_le (by simpa using hl)
  rw [hs, hs, hm]

theorem Store.room_setPending (x : Store) (i : Nat) (b : Bool) : (x.setEntry i { x.entry i with pending := b }).room = x.room := by
  rw [Store.room, Store.room, Store.active_setPending]
  cases x.active with
  | none => rfl
  | some a =>
    obtain ⟨b', hb⟩ := x.entry_setPending i b a
    simp only [hb]

theorem Store.copiesOwed_setPending (x : Store) (i j : Nat) (b : Bool) :
    (x.setEntry i { x.entry i with pending := b }).copiesOwed j = x.copiesOwed j := by
  obtain ⟨b', hb⟩ := x.entry_setPending i b j
  simp only [Store.copiesOwed, hb]
  rfl

/-- The room of the ACTIVE sector, as the slots it has used (R98). -/
theorem Store.room_eq_zero_iff (x : Store) : x.room = 0 ↔ ∀ a, x.active = some a → 128 ≤ (x.entry a).used := by
  rw [Store.room]
  cases x.active with
  | none => simp
  | some a => simp [Config.slotsPerSector, Nat.sub_eq_zero_iff_le]

/-! ### The setting hold_unexported -/

/-- Of a state, only the link and the store have changed. -/
def State.StoreOnly (s t : State) : Prop := t = { s with link := t.link, store := t.store }

theorem State.StoreOnly.trans {s t u : State} (h : s.StoreOnly t) (k : t.StoreOnly u) : s.StoreOnly u := by
  unfold State.StoreOnly at *
  rw [k, h]

theorem State.StoreOnly.evalCondition (s : State) : s.StoreOnly s.evalCondition := by
  unfold State.evalCondition State.raiseStore State.raise
  dsimp only
  repeat' split
  all_goals rfl

theorem State.StoreOnly.setStore (s : State) (x : Store) : s.StoreOnly (s.setStore x) := rfl

theorem State.evalCondition_starting (s : State) : s.evalCondition.link.starting = s.link.starting := by
  unfold State.evalCondition State.raiseStore State.raise
  dsimp only
  repeat' split
  all_goals rfl

/-- The spare check of hold_unexported written. -/
def State.holdChecked (on : Bool) (s : State) : State := (s.setStore { s.store with holdUnexported := on }).spareCheck

theorem State.putSetting_hold (s : State) (w : Nat) : s.putSetting 10 2 w = (s.holdChecked (w == 1)).pump := rfl

theorem State.holdChecked_storeOnly (s : State) (on : Bool) : s.StoreOnly (s.holdChecked on) :=
  (State.StoreOnly.setStore s _).trans ((State.StoreOnly.setStore _ _).trans (State.StoreOnly.evalCondition _))

theorem State.holdChecked_starting (s : State) (on : Bool) : (s.holdChecked on).link.starting = s.link.starting :=
  State.evalCondition_starting _

section
variable {s : State} {on : Bool}

theorem State.holdChecked_store (s : State) (on : Bool) : ∃ c, (s.holdChecked on).store =
    { ({ s.store with holdUnexported := on } : Store).spareCheck with condition := c } := ⟨_, State.spareCheck_store _⟩

/-- The check decides nothing (R105). -/
theorem State.holdChecked_of_kept (h : s.store.spared ∨ (∀ e ∈ s.store.table, e.state ≠ .full)
    ∨ ∃ i, s.store.oldestFullIs i ∧ on = true ∧ (s.store.entry i).released = false) :
    ∃ c, (s.holdChecked on).store = { s.store with holdUnexported := on, condition := c } := by
  obtain ⟨c, hc⟩ := s.holdChecked_store on
  exact ⟨c, by rw [hc, Store.spareCheck_of_kept (x := { s.store with holdUnexported := on }) h]⟩

/-- The store in which hold_unexported has been written and the erase of a sector decided (R105). -/
def Store.holdDecided (x : Store) (on : Bool) (i : Nat) (c : StoreCondition) : Store :=
  { x.setEntry i { x.entry i with pending := true } with
    holdUnexported := on, erase := some ⟨i, 0, .pulse⟩, copies := x.copiesOwed i, condition := c }

/-- The check decides an erase (R105). -/
theorem State.holdChecked_of_erase {i : Nat} (hs : ¬ s.store.spared) (hi : s.store.oldestFullIs i)
    (hk : ¬ (on = true ∧ (s.store.entry i).released = false)) :
    ∃ c, (s.holdChecked on).store = s.store.holdDecided on i c := by
  obtain ⟨c, hc⟩ := s.holdChecked_store on
  exact ⟨c, by rw [hc, Store.spareCheck_of_erase (x := { s.store with holdUnexported := on }) hs hi hk]; rfl⟩

theorem State.holdChecked_op (s : State) (on : Bool) : (s.holdChecked on).store.op = s.store.op := by
  have hop : ∀ x : Store, x.spareCheck.op = x.op := fun x => by
    unfold Store.spareCheck
    repeat' split
    all_goals rfl
  obtain ⟨c, hc⟩ := s.holdChecked_store on
  rw [hc]
  exact hop _

end

/-- The copies that the decided erase owes are those of the sector, marked or not. -/
theorem Store.holdDecided_owed (x : Store) (on : Bool) (i : Nat) (c : StoreCondition) :
    (x.holdDecided on i c).copiesOwed i = x.copiesOwed i := x.copiesOwed_setPending i i true

theorem Store.holdDecided_room (x : Store) (on : Bool) (i : Nat) (c : StoreCondition) : (x.holdDecided on i c).room = x.room :=
  x.room_setPending i true

/-- A store that fails gives up the erase decided, with its mark (R105). -/
theorem Store.holdDecided_fail {x : Store} (on : Bool) {i : Nat} (c : StoreCondition) (hpend : (x.entry i).pending = false)
    (hx : x.quiet) (hcp : x.copiesOwed i ≠ []) : (x.holdDecided on i c).fail =
      { x with holdUnexported := on, failed := true, condition := c } := by
  obtain ⟨-, -, -, her, hro, hco, -⟩ := hx
  obtain ⟨k, rest, hk⟩ := List.exists_cons_of_ne_nil hcp
  have hset : (x.holdDecided on i c).table.set i { (x.holdDecided on i c).entry i with pending := false } = x.table := by
    obtain ⟨b, hb⟩ := x.entry_setPending i true i
    have he : { (x.holdDecided on i c).entry i with pending := false } = x.entry i := by
      rw [show (x.holdDecided on i c).entry i = _ from hb, ← hpend]
    rw [he]
    refine (List.set_set ..).trans ?_
    by_cases hl : i < x.table.length
    · rw [Store.entry, List.getD_eq_getElem _ _ hl, List.set_getElem_self]
    · exact List.set_eq_of_length_le (Nat.not_lt.1 hl)
  have hf : (x.holdDecided on i c).fail = { (x.holdDecided on i c).setEntry i { (x.holdDecided on i c).entry i with pending := false } with
      failed := true, rotation := .none, copies := [], erase := none } := by
    have hc : (x.holdDecided on i c).copies = k :: rest := hk
    simp only [Store.fail, hc]
    rfl
  rw [hf, Store.setEntry, hset, ← hro, ← hco, ← her]
  rfl

section
variable {u : State} {x : Store} {i : Nat} {on : Bool} {c : StoreCondition} (hst : u.link.starting = false) (hq : x.quiet)
include hst hq

/-- A quiet flash for which the check decides nothing has nothing to do. -/
theorem State.pump_of_kept (h : u.store = { x with holdUnexported := on, condition := c }) :
    u.pump = u := by
  obtain ⟨hop, hqu, -, her, hro, hco, -⟩ := hq
  refine State.pump_of_choose1 hst (by rw [h]; exact hop)
    (State.choose1_of_done ?_ ?_ ?_ ?_)
  · rw [h]; exact hro
  · rw [h]; exact hqu
  · rw [h]; exact hco
  · rw [h]; exact her

section
variable (h : u.store = x.holdDecided on i c)
include h

/-- An erase decided with no copy owed begins (R106). -/
theorem State.pump_of_decided (hcp : x.copiesOwed i = []) : u.pump =
    u.setStore (u.store.eraseStep ⟨i, 0, .pulse⟩) := by
  obtain ⟨hop, hqu, -, her, hro, hco, -⟩ := hq
  refine State.pump_of_choose1 hst (by rw [h]; exact hop)
    (State.choose1_of_erase ?_ ?_ ?_ ?_)
  · rw [h]; exact hro
  · rw [h]; exact hqu
  · rw [h]; exact hcp
  · rw [h]; rfl

/-- A copy that the decided erase owes is programmed first (R105). -/
theorem State.pump_of_copyOwed {k : Ch} {rest : List Ch} (hcp : x.copiesOwed i = k :: rest) (hroom : x.room ≠ 0) :
    u.pump = u.setStore { u.store with op := .programCopy k } := by
  obtain ⟨hop, hqu, -, her, hro, hco, -⟩ := hq
  refine State.pump_of_choose1 hst (by rw [h]; exact hop)
    (State.choose1_of_copy (rest := rest) (e := ⟨i, 0, .pulse⟩) ?_ ?_ ?_ ?_ ?_)
  · rw [h]; exact hro
  · rw [h]; exact hcp
  · rw [h]; rfl
  · rw [h, Store.holdDecided_owed, hcp]
    exact List.mem_cons_self
  · rwa [h, Store.holdDecided_room]

/-- With no slot left for the copies, the store fails, and the erase is given up (R105). -/
theorem State.pump_of_noRoom (hpend : (x.entry i).pending = false) {k : Ch} {rest : List Ch}
    (hcp : x.copiesOwed i = k :: rest) (hroom : x.room = 0) :
    u.pump = u.failCopies
      ∧ u.failCopies.store = { x with holdUnexported := on, failed := true, condition := .failed } := by
  have hf : u.failCopies.store = { x with holdUnexported := on, failed := true, condition := .failed } := by
    rw [State.failCopies, State.evalCondition_store, State.setStore_store, h,
      Store.holdDecided_fail on c hpend hq (by rw [hcp]; exact List.cons_ne_nil _ _)]
    rfl
  obtain ⟨hop, hqu, -, her, hro, hco, -⟩ := hq
  refine ⟨State.pump_of_choose1_twice hst (by rw [h]; exact hop)
    (State.choose1_of_noRoom (c := k) (rest := rest) (e := ⟨i, 0, .pulse⟩) ?_ ?_ ?_ ?_ ?_) (State.choose1_of_done ?_ ?_ ?_ ?_), hf⟩
  · rw [h]; exact hro
  · rw [h]; exact hcp
  · rw [h]; rfl
  · rw [h, Store.holdDecided_owed, hcp]
    exact List.mem_cons_self
  · rwa [h, Store.holdDecided_room]
  · rw [hf]; exact hro
  · rw [hf]; exact hqu
  · rw [hf]; exact hco
  · rw [hf]; exact her

end
end

/-! ### What a setting written touches -/

theorem State.holdChecked_cases (s : State) (on : Bool) :
    (s.store.spared ∨ (∀ e ∈ s.store.table, e.state ≠ .full) ∨ ∃ i, s.store.oldestFullIs i ∧ on = true ∧ (s.store.entry i).released = false)
      ∨ ∃ i, ¬ s.store.spared ∧ s.store.oldestFullIs i ∧ ¬ (on = true ∧ (s.store.entry i).released = false) := by
  by_cases hs : s.store.spared
  · exact .inl (.inl hs)
  · cases ho : s.store.oldestFull with
    | none => exact .inl (.inr (.inl (Store.oldestFull_eq_none_iff.1 ho)))
    | some i =>
      have hi := Store.oldestFull_eq_some_iff.1 ho
      by_cases hk : on = true ∧ (s.store.entry i).released = false
      · exact .inl (.inr (.inr ⟨i, hi, hk⟩))
      · exact .inr ⟨i, hs, hi, hk⟩

theorem Store.entry_mem {x : Store} {i : Nat} {e : SectorEntry} (h : x.table[i]? = some e) : x.entry i = e ∧ e ∈ x.table :=
  ⟨by rw [Store.entry, List.getD_eq_getElem?_getD, h]; rfl, List.mem_of_getElem? h⟩

/-- A sector whose erase a check decides was not pending. -/
theorem Store.pending_of_oldestFull {x : Store} {i : Nat} (hs : ¬ x.spared) (hi : x.oldestFullIs i) : (x.entry i).pending = false := by
  obtain ⟨e, he, -, -⟩ := hi
  obtain ⟨hei, hm⟩ := Store.entry_mem he
  rw [hei]
  by_contra hp
  exact hs (.inr ⟨e, hm, .inr (.inr (by simpa using hp))⟩)

/-- hold_unexported written touches the store and the link alone, where the flash is busy or quiet. -/
theorem State.putHold_storeOnly {s : State} {on : Bool} (hst : s.link.starting = false) (hb : s.store.op ≠ .idle ∨ s.store.quiet) :
    s.StoreOnly (s.holdChecked on).pump := by
  have hc := s.holdChecked_storeOnly on
  have hst' := (s.holdChecked_starting on).trans hst
  rcases hb with hb | hq
  · rw [State.pump_of_busy (by rwa [s.holdChecked_op])]
    exact hc
  · rcases s.holdChecked_cases on with hk | ⟨i, hs, hi, hk⟩
    · obtain ⟨c, h⟩ := State.holdChecked_of_kept hk
      rw [State.pump_of_kept hst' hq h]
      exact hc
    · obtain ⟨c, h⟩ := State.holdChecked_of_erase hs hi hk
      cases hcp : s.store.copiesOwed i with
      | nil =>
        rw [State.pump_of_decided hst' hq h hcp]
        exact hc.trans (State.StoreOnly.setStore _ _)
      | cons k rest =>
        by_cases hroom : s.store.room = 0
        · rw [(State.pump_of_noRoom hst' hq h (Store.pending_of_oldestFull hs hi) hcp hroom).1]
          exact hc.trans ((State.StoreOnly.setStore _ _).trans (State.StoreOnly.evalCondition _))
        · rw [State.pump_of_copyOwed hst' hq h hcp hroom]
          exact hc.trans (State.StoreOnly.setStore _ _)

/-- What SETTING_PUT leaves of the blocks, in the state before the request. -/
theorem exec_settingPut_alike' {s t : State} {tag b n : Byte} {v : BitVec 32} (h : s.ready) (ht : exec (.settingPut tag b n v) s = .next t) :
    t.Alike (reqSettingPut b.toNat n.toNat v.toNat s.reservePlace).1 := by
  rw [exec_settingPut h] at ht
  rw [← Host.Outcome.next.inj ht]
  exact (State.Alike.reply ⟨_, rfl⟩ _ _ _).finish s

theorem exec_settingPut_blocks {s t : State} {tag b n : Byte} {v : BitVec 32} (h : s.ready) (ht : exec (.settingPut tag b n v) s = .next t)
    (hb : b.toNat ≠ 1) (hn : b.toNat = 10 → n.toNat ≠ 2) :
    ∃ l, t = (reqSettingPut b.toNat n.toNat v.toNat s).1.setLink l := by
  suffices ha : t.Alike (reqSettingPut b.toNat n.toNat v.toNat s).1 from ⟨_, ha.eq_of_link⟩
  cases hr : settingRange b.toNat n.toNat with
  | none =>
    have ha := exec_settingPut_alike' h ht
    rw [reqSettingPut_of_unknown hr] at ha ⊢
    obtain ⟨l, hl⟩ := ha
    exact ⟨s.link, (congrArg (State.setLink s.link) hl : _)⟩
  | some r =>
    rw [reqSettingPut_of_range hr]
    exact exec_settingPut_alike h ht hr hb fun hb => (settingRow_store hr hb).resolve_right (hn hb)

section
variable (s : State) (n v : Nat)

/-- A property of the state that an unknown pair and every setting of a block leave is one of what SETTING_PUT leaves. -/
theorem reqSettingPut_induction {P : State → Prop} (b : Nat) (h₀ : P s) (h : ∀ w, P (s.putSetting b n w)) : P (reqSettingPut b n v s).1 := by
  unfold reqSettingPut
  split
  · exact h₀
  · exact h _

theorem reqSettingPut_pw : (reqSettingPut 2 n v s).1 = { s with pw := (reqSettingPut 2 n v s).1.pw } :=
  reqSettingPut_induction (P := fun u => u = { s with pw := u.pw }) s n v 2 rfl fun w => by
    rcases n with _ | _ | n <;> rfl

theorem reqSettingPut_bag : (reqSettingPut 4 n v s).1 = { s with bag := (reqSettingPut 4 n v s).1.bag } :=
  reqSettingPut_induction (P := fun u => u = { s with bag := u.bag }) s n v 4 rfl fun w => by
    rcases n with _ | _ | _ | _ | _ | _ | n
    case succ.zero =>
      show State.putEnable _ s = { s with bag := (State.putEnable _ s).bag }
      unfold State.putEnable
      dsimp only
      split <;> rfl
    all_goals rfl

theorem reqSettingPut_card : (reqSettingPut 5 n v s).1 = { s with card := (reqSettingPut 5 n v s).1.card } :=
  reqSettingPut_induction (P := fun u => u = { s with card := u.card }) s n v 5 rfl fun w => by
    rcases n with _ | _ | n <;> rfl

theorem reqSettingPut_supply : (reqSettingPut 6 n v s).1 = { s with supply := (reqSettingPut 6 n v s).1.supply } :=
  reqSettingPut_induction (P := fun u => u = { s with supply := u.supply }) s n v 6 rfl fun w => by
    rcases n with _ | _ | n
    case succ.zero =>
      show State.testBudget _ = { s with supply := (State.testBudget _).supply }
      unfold State.testBudget
      split <;> rfl
    all_goals rfl

theorem State.putDrawer_frame (p : Port) (h₁ : n ≠ 1) (h₆ : n ≠ 6) (w : Nat) : ∃ d, s.putDrawer p n w = s.setDrw p d := by
  unfold State.putDrawer
  dsimp only
  split
  case h_1 => exact absurd rfl h₁
  case h_6 => exact absurd rfl h₆
  all_goals exact ⟨_, rfl⟩

theorem reqSettingPut_drw1 (h₁ : n ≠ 1) (h₆ : n ≠ 6) : (reqSettingPut 7 n v s).1 = { s with drw1 := (reqSettingPut 7 n v s).1.drw1 } :=
  reqSettingPut_induction (P := fun u => u = { s with drw1 := u.drw1 }) s n v 7 rfl fun w => by
    obtain ⟨d, hd⟩ := s.putDrawer_frame n .one h₁ h₆ w
    rw [show s.putSetting 7 n w = _ from hd]
    rfl

theorem reqSettingPut_drw2 (h₁ : n ≠ 1) (h₆ : n ≠ 6) : (reqSettingPut 8 n v s).1 = { s with drw2 := (reqSettingPut 8 n v s).1.drw2 } :=
  reqSettingPut_induction (P := fun u => u = { s with drw2 := u.drw2 }) s n v 8 rfl fun w => by
    obtain ⟨d, hd⟩ := s.putDrawer_frame n .two h₁ h₆ w
    rw [show s.putSetting 8 n w = _ from hd]
    rfl

theorem reqSettingPut_prn : (reqSettingPut 9 n v s).1 = { s with prn := (reqSettingPut 9 n v s).1.prn } :=
  reqSettingPut_induction (P := fun u => u = { s with prn := u.prn }) s n v 9 rfl fun w => by
    rcases n with _ | _ | n <;> rfl

theorem reqSettingPut_attn : (reqSettingPut 11 n v s).1 = { s with attn := (reqSettingPut 11 n v s).1.attn } :=
  reqSettingPut_induction (P := fun u => u = { s with attn := u.attn }) s n v 11 rfl fun _ => rfl

end

theorem DrawerState.holdsGrant_eq_false_iff (x : DrawerState) : x.holdsGrant = false ↔ x ≠ .kick ∧ x ≠ .hold := by
  cases x <;> decide

/-- A budget written takes effect while no grant is held and no re-application is owed (R160). -/
theorem State.putBudget_supply (s : State) (w : Nat) : (s.putSetting 6 1 w).supply = { s.supply with
    staged := w
    budget := if s.supply.phase = none ∧ s.supply.owed = none ∧ s.drw1.state ≠ .kick ∧ s.drw1.state ≠ .hold
        ∧ s.drw2.state ≠ .kick ∧ s.drw2.state ≠ .hold then w else s.supply.budget } := by
  have h₁ := s.drw1.state.holdsGrant_eq_false_iff
  have h₂ := s.drw2.state.holdsGrant_eq_false_iff
  show (State.testBudget (s.setSupply { s.supply with staged := w })).supply = _
  simp only [State.testBudget, State.setSupply_supply, State.setSupply_drw1, State.setSupply_drw2, Bool.not_eq_true', h₁, h₂, and_assoc]
  split <;> rfl

theorem State.putEnable_bag (s : State) (v : Bool) : (s.putEnable v).bag = { s.bag with
    enableSet := v, enabled := if s.txn.state = .idle then v else s.bag.enabled } := by
  by_cases h : s.txn.state = .idle <;> simp [State.putEnable, State.applyEnable, h]

theorem State.Alike.refl (s : State) : s.Alike s := ⟨s.link, rfl⟩

theorem State.Alike.symm {s t : State} (h : s.Alike t) : t.Alike s := by
  obtain ⟨l, rfl⟩ := h
  exact ⟨s.link, rfl⟩

theorem State.Alike.trans {s t u : State} (h : s.Alike t) (k : t.Alike u) : s.Alike u := by
  obtain ⟨l, rfl⟩ := h
  obtain ⟨l', rfl⟩ := k
  exact ⟨l', rfl⟩

theorem State.Alike.eq_link {s t : State} (h : t.Alike s) : t = { s with link := t.link } := h.eq_of_link

/-- A notices setting touches the link alone (R12). -/
theorem exec_settingPut_link {s t : State} {tag b n : Byte} {v : BitVec 32} (h : s.ready) (ht : exec (.settingPut tag b n v) s = .next t)
    (hb : b.toNat = 1) : t.Alike s := by
  obtain ⟨l, hl⟩ := exec_settingPut_alike' h ht
  have hr : (reqSettingPut 1 n.toNat v.toNat s.reservePlace).1.Alike s :=
    reqSettingPut_induction s.reservePlace n.toNat v.toNat 1 (P := fun u => u.Alike s) ⟨_, rfl⟩ fun w => by
      rcases n.toNat with _ | _ | n <;> exact ⟨_, rfl⟩
  obtain ⟨l', hl'⟩ := hr
  rw [← hb, hl] at hl'
  exact ⟨_, hl'⟩

/-- The erase decided by the check begins (R97, R106). -/
theorem Store.holdDecided_eraseStep (x : Store) (on : Bool) (i : Nat) (c : StoreCondition) :
    (x.holdDecided on i c).eraseStep ⟨i, 0, .pulse⟩ =
      { x.setEntry i { x.entry i with state := .erasing, seq := 0, pending := false } with
        holdUnexported := on, erase := some ⟨i, 0, .pulse⟩, op := .pulse false, copies := x.copiesOwed i, condition := c } := by
  obtain ⟨b, hb⟩ := x.entry_setPending i true i
  have he : (x.holdDecided on i c).entry i = { x.entry i with pending := b } := hb
  have hset : ((x.holdDecided on i c).table.set i { (x.holdDecided on i c).entry i with state := .erasing, seq := 0, pending := false }) =
      x.table.set i { x.entry i with state := .erasing, seq := 0, pending := false } := by
    rw [he]
    exact List.set_set ..
  rw [Store.eraseStep]
  dsimp only
  rw [Store.setEntry, hset]
  rfl

section
variable {s : State} {on : Bool}

theorem State.putHold_kept (hst : s.link.starting = false) (hb : s.store.op ≠ .idle ∨ s.store.quiet)
    (hk : s.store.spared ∨ (∀ e ∈ s.store.table, e.state ≠ .full)
      ∨ ∃ i, s.store.oldestFullIs i ∧ on = true ∧ (s.store.entry i).released = false) :
    ∃ c, (s.holdChecked on).pump.store = { s.store with holdUnexported := on, condition := c } := by
  obtain ⟨c, h⟩ := State.holdChecked_of_kept hk
  refine ⟨c, ?_⟩
  rcases hb with hb | hq
  · rw [State.pump_of_busy (by rwa [s.holdChecked_op]), h]
  · rw [State.pump_of_kept ((s.holdChecked_starting on).trans hst) hq h, h]

variable {i : Nat} (hs : ¬ s.store.spared) (hi : s.store.oldestFullIs i)
  (hk : ¬ (on = true ∧ (s.store.entry i).released = false))
include hs hi hk

theorem State.putHold_busy (hb : s.store.op ≠ .idle) : ∃ c, (s.holdChecked on).pump.store = s.store.holdDecided on i c := by
  rw [State.pump_of_busy (by rwa [s.holdChecked_op])]
  exact State.holdChecked_of_erase hs hi hk

theorem State.putHold_erase (hst : s.link.starting = false) (hq : s.store.quiet) (hcp : s.store.copiesOwed i = []) :
    ∃ c, (s.holdChecked on).pump.store = (s.store.holdDecided on i c).eraseStep ⟨i, 0, .pulse⟩ := by
  obtain ⟨c, h⟩ := State.holdChecked_of_erase hs hi hk
  exact ⟨c, by rw [State.pump_of_decided ((s.holdChecked_starting on).trans hst) hq h hcp, State.setStore_store, h]⟩

theorem State.putHold_copy (hst : s.link.starting = false) (hq : s.store.quiet) {k : Ch} {rest : List Ch}
    (hcp : s.store.copiesOwed i = k :: rest) (hroom : s.store.room ≠ 0) :
    ∃ c, (s.holdChecked on).pump.store = { s.store.holdDecided on i c with op := .programCopy k } := by
  obtain ⟨c, h⟩ := State.holdChecked_of_erase hs hi hk
  exact ⟨c, by rw [State.pump_of_copyOwed ((s.holdChecked_starting on).trans hst) hq h hcp hroom, State.setStore_store, h]⟩

theorem State.putHold_noRoom (hst : s.link.starting = false) (hq : s.store.quiet) {k : Ch} {rest : List Ch}
    (hcp : s.store.copiesOwed i = k :: rest) (hroom : s.store.room = 0) :
    (s.holdChecked on).pump.store = { s.store with holdUnexported := on, failed := true, condition := .failed } := by
  obtain ⟨c, h⟩ := State.holdChecked_of_erase hs hi hk
  obtain ⟨hp, hf⟩ := State.pump_of_noRoom ((s.holdChecked_starting on).trans hst) hq h (Store.pending_of_oldestFull hs hi) hcp hroom
  rw [hp, hf]

end

/-- Settles O11. -/
theorem settingsAreClampedAndReadBack : Obligations.SettingsAreClampedAndReadBack := by
  intro s tag b n v h
  refine ⟨fun row hrow hb hn => ?_, fun hno => ?_, fun mask weightB w hw => ?_, fun t ht => ?_⟩
  · have hr := hb ▸ hn ▸ settingRange_of_row row hrow
    have hlo : ∀ row ∈ settingRows, row.lo ≤ row.hi := by decide
    obtain ⟨mid, hrep, hmid⟩ := exec_settingPut_replies h (exec_settingPut h tag b n v) hr
    refine ⟨?_, _, mid, exec_settingPut h tag b n v, exec_settingPut_setting h (exec_settingPut h tag b n v) hr (hlo row hrow), hrep, hmid⟩
    have hg := exec_settingGet h tag b n
    rwa [hr] at hg
  · have hr := settingRange_of_noRow hno
    have hg := exec_settingGet h tag b n
    rw [hr] at hg
    exact ⟨hg, exec_settingPut_of_unknown h tag b n v hr⟩
  · refine ⟨_, Slots.get_keepEnabled mask weightB s.link.slots, ?_⟩
    rcases hw with ⟨hb, hn, rfl, rfl, rfl⟩ | ⟨hb, hn, rfl, rfl, rfl⟩
    · exact exec_settingPut_mask h tag v hb hn
    · exact exec_settingPut_weightB h tag v hb hn
  · have hval : ∀ b' n' lo hi, b.toNat = b' → n.toNat = n' → settingRange b' n' = some (lo, hi) → b' ≠ 1 → (b' = 10 → n' = 1) →
        ∃ l, t = (s.putSetting b' n' (clampNat lo hi v.toNat)).setLink l := fun b' n' lo hi hb hn hr h₁ h₁₀ => by
      subst hb hn
      exact ⟨_, (exec_settingPut_alike h ht hr h₁ h₁₀).eq_of_link⟩
    have hblk : ∀ b', b.toNat = b' → b' ≠ 1 → b' ≠ 10 → ∃ l, t = (reqSettingPut b' n.toNat v.toNat s).1.setLink l :=
      fun b' hb h₁ h₁₀ => by
        subst hb
        exact exec_settingPut_blocks h ht h₁ fun h => absurd h h₁₀
    have hsw := clampNat_switch v.toNat
    dsimp only
    refine ⟨fun hb => ?_, fun hb hn => ?_, fun hb hn => ?_, fun hb hn => ?_, fun hb hn => ?_, fun hb hn => ?_, fun hb hn => ?_,
      fun hb hn => ?_, fun hb hn => ?_, fun hb hn => ?_, fun hb hn => ?_, fun hb hn => ?_, fun hb hn => ?_, fun hb hn => ?_,
      fun hb hn => ?_, fun hb hn => ?_, fun hb hn => ?_, fun hb => ?_, fun hb => ?_, fun hb => ?_, fun hb => ?_, fun hb h₁ h₆ => ?_,
      fun hb h₁ h₆ => ?_, fun hb => ?_, fun hb hn => ?_, fun hb => ?_, ?_, fun p q hpq hb => ?_, fun hb hn hq => ?_⟩
    · exact (exec_settingPut_link h ht hb).eq_link
    · obtain ⟨l, rfl⟩ := hval 2 1 2 30 hb hn rfl (by decide) (by decide)
      rfl
    · obtain ⟨l, rfl⟩ := hval 2 2 0 1 hb hn rfl (by decide) (by decide)
      rw [← hsw]
      rfl
    · obtain ⟨l, rfl⟩ := hval 4 1 0 1 hb hn rfl (by decide) (by decide)
      rw [← hsw]
      exact s.putEnable_bag _
    · obtain ⟨l, rfl⟩ := hval 4 2 1 10 hb hn rfl (by decide) (by decide)
      rfl
    · obtain ⟨l, rfl⟩ := hval 4 3 5 60 hb hn rfl (by decide) (by decide)
      rfl
    · obtain ⟨l, rfl⟩ := hval 4 4 0 1 hb hn rfl (by decide) (by decide)
      rw [← hsw]
      rfl
    · obtain ⟨l, rfl⟩ := hval 4 5 0 1 hb hn rfl (by decide) (by decide)
      rw [← hsw]
      rfl
    · obtain ⟨l, rfl⟩ := hval 4 6 0 1 hb hn rfl (by decide) (by decide)
      rw [← hsw]
      rfl
    · obtain ⟨l, rfl⟩ := hval 5 1 20 300 hb hn rfl (by decide) (by decide)
      rfl
    · obtain ⟨l, rfl⟩ := hval 5 2 10 60 hb hn rfl (by decide) (by decide)
      rfl
    · obtain ⟨l, rfl⟩ := hval 6 1 160 640 hb hn rfl (by decide) (by decide)
      exact s.putBudget_supply _
    · obtain ⟨l, rfl⟩ := hval 6 2 0 1 hb hn rfl (by decide) (by decide)
      rw [← hsw]
      rfl
    · obtain ⟨l, rfl⟩ := hval 9 1 1 8 hb hn rfl (by decide) (by decide)
      rfl
    · obtain ⟨l, rfl⟩ := hval 9 2 0 3 hb hn rfl (by decide) (by decide)
      rfl
    · obtain ⟨l, rfl⟩ := hval 10 1 0 1 hb hn rfl (by decide) (by decide)
      rw [← hsw]
      rfl
    · obtain ⟨l, rfl⟩ := hval 11 1 0 1 hb hn rfl (by decide) (by decide)
      rw [← hsw]
      rfl
    · obtain ⟨l, rfl⟩ := hblk 2 hb (by decide) (by decide)
      exact congrArg (State.setLink l) (reqSettingPut_pw s n.toNat v.toNat)
    · obtain ⟨l, rfl⟩ := hblk 4 hb (by decide) (by decide)
      exact congrArg (State.setLink l) (reqSettingPut_bag s n.toNat v.toNat)
    · obtain ⟨l, rfl⟩ := hblk 5 hb (by decide) (by decide)
      exact congrArg (State.setLink l) (reqSettingPut_card s n.toNat v.toNat)
    · obtain ⟨l, rfl⟩ := hblk 6 hb (by decide) (by decide)
      exact congrArg (State.setLink l) (reqSettingPut_supply s n.toNat v.toNat)
    · obtain ⟨l, rfl⟩ := hblk 7 hb (by decide) (by decide)
      exact congrArg (State.setLink l) (reqSettingPut_drw1 s n.toNat v.toNat h₁ h₆)
    · obtain ⟨l, rfl⟩ := hblk 8 hb (by decide) (by decide)
      exact congrArg (State.setLink l) (reqSettingPut_drw2 s n.toNat v.toNat h₁ h₆)
    · obtain ⟨l, rfl⟩ := hblk 9 hb (by decide) (by decide)
      exact congrArg (State.setLink l) (reqSettingPut_prn s n.toNat v.toNat)
    · obtain ⟨l, rfl⟩ := hval 10 1 0 1 hb hn rfl (by decide) (by decide)
      rfl
    · obtain ⟨l, rfl⟩ := hblk 11 hb (by decide) (by decide)
      exact congrArg (State.setLink l) (reqSettingPut_attn s n.toNat v.toNat)
    · obtain ⟨l, rfl⟩ : ∃ l, t = (reqSettingPut b.toNat n.toNat v.toNat s.reservePlace).1.setLink l :=
        ⟨_, (exec_settingPut_alike' h ht).eq_of_link⟩
      simp [State.reservePlace]
    · have hd : ∀ k lo hi, n.toNat = k → drawerRange k = some (lo, hi) → t.Alike (s.putDrawer p k (clampNat lo hi v.toNat)) :=
        fun k lo hi hn hr => by
          cases p
          · obtain ⟨l, rfl⟩ := hval 7 k lo hi hb hn hr (by decide) nofun
            exact ⟨_, rfl⟩
          · obtain ⟨l, rfl⟩ := hval 8 k lo hi hb hn hr (by decide) nofun
            exact ⟨_, rfl⟩
      have hpol : n.toNat = 6 → t.Alike (s.putPolarity p (decide (1 ≤ v.toNat))) := fun hn => hsw ▸ hd 6 0 1 hn rfl
      have hfit : n.toNat = 1 → t.Alike ((s.setDrw p { s.drw p with fittedSet := decide (1 ≤ v.toNat) }).portMoved p) :=
        fun hn => hsw ▸ hd 1 0 1 hn rfl
      have hrest := (s.drw p).state.atRest_iff
      refine ⟨fun hn => (hd 2 30 200 hn rfl).eq_link, fun hn => (hd 3 0 60 hn rfl).eq_link, fun hn => (hd 4 100 1000 hn rfl).eq_link,
        fun hn => (hd 5 10 600 hn rfl).eq_link, fun hn => (hd 7 32 400 hn rfl).eq_link, fun hn => ?_, fun hn hs => ?_,
        fun hn hf hs hl ho hst => ?_, fun hn hf hs hl ho hst => ?_, fun hn ht' hk => ?_, fun hn hr hon hf => ?_, fun hn hr hon hf => ?_⟩
      · have hu := (State.Alike.refl (s.putPolarity p (decide (1 ≤ v.toNat)))).finish
          (s.setDrw p { s.drw p with polarity := decide (1 ≤ v.toNat), levelHigh := !(s.drw p).levelHigh })
        rw [← evDrawerSensorChange_of_polarity] at hu
        exact ⟨_, rfl, ((evDrawerSensorChange_of_polarity s p _ ▸ hpol hn).trans hu.symm).eq_link⟩
      · exact (State.putPolarity_of_same hs ▸ hpol hn).eq_link
      · exact State.turned_receipt (State.putPolarity_of_closing hpq hf hs hl ho hst ▸ hpol hn)
      · exact (State.putPolarity_of_opening hf hs hl ho hst ▸ hpol hn).eq_link
      · exact (State.putFitted_of_held ht' (hk.imp_right (mt hrest.1)) ▸ hfit hn).eq_link
      · have ha := hfit hn
        rw [hon] at ha ⊢
        exact State.turned_receipt (State.putFitted_of_unfit hpq (hrest.2 hr) hf ▸ ha)
      · have ha := hfit hn
        rw [hon] at ha ⊢
        exact State.turned_receipt (State.putFitted_of_fit (hrest.2 hr) hf ▸ ha)
    · have ha := exec_settingPut_alike' h ht
      have hr : settingRange b.toNat n.toNat = some (0, 1) := by rw [hb, hn]; rfl
      rw [reqSettingPut_of_range hr, hb, hn, State.putSetting_hold, hsw] at ha
      have hst : s.reservePlace.link.starting = false := h.2
      have hq' : s.reservePlace.store.op ≠ .idle ∨ s.reservePlace.store.quiet := hq
      have hso := State.putHold_storeOnly (on := decide (1 ≤ v.toNat)) hst hq'
      have hv : decide (1 ≤ v.toNat) = true ↔ v.toNat ≠ 0 := by rw [decide_eq_true_iff]; omega
      obtain ⟨l, rfl⟩ : ∃ l, t = ((s.reservePlace.holdChecked (decide (1 ≤ v.toNat))).pump).setLink l := ⟨_, ha.eq_of_link⟩
      refine ⟨congrArg (State.setLink l) hso, fun hk => ?_, fun i hs hi hk => ?_⟩
      · obtain ⟨c, hc⟩ := State.putHold_kept hst hq' (hk.imp_right (Or.imp_right fun ⟨i, hi, h₀, hrel⟩ => ⟨i, hi, hv.2 h₀, hrel⟩))
        rw [State.setLink_store, hc]
        rfl
      · have hk' : ¬ (decide (1 ≤ v.toNat) = true ∧ (s.reservePlace.store.entry i).released = false) :=
          fun ⟨h₁, hrel⟩ => hk ⟨hv.1 h₁, hrel⟩
        have howes : (s.store.copiesOwed i).Sublist [.p, .b] ∧ ∀ c, c ∈ s.store.copiesOwed i ↔ s.store.holdsCurrent i c :=
          ⟨s.store.copiesOwed_sublist i, fun c => Store.mem_copiesOwed⟩
        refine ⟨fun hop => ?_, fun hop hno => ?_, fun hop ⟨k₀, hk₀⟩ => ?_⟩
        · obtain ⟨c, hc⟩ := State.putHold_busy (s := s.reservePlace) hs hi hk' hop
          rw [State.setLink_store, hc]
          exact ⟨rfl, howes⟩
        · have hquiet : s.store.quiet := hq.resolve_left (· hop)
          have hcp : s.store.copiesOwed i = [] := List.eq_nil_iff_forall_not_mem.2 fun c hc => hno c (Store.mem_copiesOwed.1 hc)
          obtain ⟨c, hc⟩ := State.putHold_erase (s := s.reservePlace) hs hi hk' hst hquiet hcp
          rw [State.setLink_store, hc, Store.holdDecided_eraseStep, show s.reservePlace.store.copiesOwed i = [] from hcp]
          obtain ⟨-, -, -, -, -, hco, -⟩ := hquiet
          rw [← hco]
          rfl
        · have hquiet : s.store.quiet := hq.resolve_left (· hop)
          have hmem := Store.mem_copiesOwed.2 hk₀
          obtain ⟨k, rest, hcp⟩ := List.exists_cons_of_ne_nil (List.ne_nil_of_mem hmem)
          refine ⟨fun ⟨a, ha, hu⟩ => ?_, fun hroom => ?_⟩
          · have hroom : s.store.room ≠ 0 := fun h₀ => absurd (s.store.room_eq_zero_iff.1 h₀ a ha) (by omega)
            obtain ⟨c, hc⟩ := State.putHold_copy (s := s.reservePlace) hs hi hk' hst hquiet hcp hroom
            rw [State.setLink_store, hc]
            exact ⟨howes, k, congrArg List.head? hcp, rfl⟩
          · have hn := State.putHold_noRoom (s := s.reservePlace) hs hi hk' hst hquiet hcp (s.store.room_eq_zero_iff.2 hroom)
            rw [State.setLink_store, hn]
            rfl

/-! ### The sectors in use that the scan found, in order -/

/-- A sector as the scan found it, with a first number that may have been fixed from its neighbours (R113). -/
def Found.refines (f g : Found) : Prop := g = { f with first := g.first } ∧ ∀ a, f.first = some a → g.first = some a

theorem Found.refines_refl (f : Found) : f.refines f := ⟨rfl, fun _ h => h⟩

theorem Found.refines.trans {f g h : Found} (hfg : f.refines g) (hgh : g.refines h) : f.refines h :=
  ⟨by rw [hgh.1, hfg.1], fun a ha => hgh.2 a (hfg.2 a ha)⟩

theorem fillForward_refines (l : List Found) : ∀ prev, List.Forall₂ Found.refines l (fillForward prev l) := by
  induction l with
  | nil => exact fun _ => .nil
  | cons f fs ih =>
    intro prev
    rw [fillForward]
    refine .cons ?_ (ih _)
    split
    · next h => exact ⟨rfl, fun a ha => by simp [ha] at h⟩
    · exact f.refines_refl

theorem fillBackward_refines (l : List Found) : List.Forall₂ Found.refines l (fillBackward l) := by
  induction l with
  | nil => exact .nil
  | cons f fs ih =>
    rw [fillBackward]
    split
    · next hf _ =>
      split
      · exact .cons ⟨rfl, fun a ha => by simp [hf] at ha⟩ ih
      · exact .cons f.refines_refl ih
    · exact .cons f.refines_refl ih

/-- The blank sector that stands for one outside the scan. -/
def Found.outside : Found := { header := .blank, slots := [], health := [], blankOk := true, eraseOk := true, first := none }

theorem forall₂_refines_trans {l₁ l₂ : List Found} (h : List.Forall₂ Found.refines l₁ l₂) :
    ∀ {l₃ : List Found}, List.Forall₂ Found.refines l₂ l₃ → List.Forall₂ Found.refines l₁ l₃ := by
  induction h with
  | nil => exact fun h => h
  | cons hx _ ih =>
    intro l₃ h
    cases h with
    | cons hy ht => exact .cons (hx.trans hy) (ih ht)

theorem forall₂_zip {α β : Type} {R : α → β → Prop} {l₁ : List α} {l₂ : List β} (h : List.Forall₂ R l₁ l₂) :
    List.Forall₂ (fun a (y : β × α) => y.2 = a ∧ R a y.1) l₁ (l₂.zip l₁) := by
  induction h with
  | nil => exact .nil
  | cons hx _ ih => exact .cons ⟨rfl, hx⟩ ih

/-- The sectors in use, each with its position (R113). -/
theorem settled_forall₂ (l : List Found) :
    List.Forall₂ (fun i (y : Found × Nat) => y.2 = i ∧ (l.getD i Found.outside).refines y.1) (inUseOrder l) (settled l) := by
  refine forall₂_zip (List.forall₂_map_left_iff.1 (forall₂_refines_trans (fillForward_refines _ none) (fillBackward_refines _)))

/-- The sectors in use are those with a sequence number. -/
theorem mem_inUseOrder {l : List Found} {i : Nat} : i ∈ inUseOrder l ↔ ∃ f q, l[i]? = some f ∧ f.seq = some q := by
  rw [inUseOrder, List.mem_map]
  constructor
  · rintro ⟨⟨q, j⟩, h, rfl⟩
    rw [List.mem_insertionSort, List.mem_filterMap] at h
    obtain ⟨⟨f, k⟩, hf, he⟩ := h
    obtain ⟨q', hq, he⟩ := Option.map_eq_some_iff.1 he
    cases he
    exact ⟨f, q, List.mem_zipIdx_iff_getElem?.1 hf, hq⟩
  · rintro ⟨f, q, hf, hq⟩
    refine ⟨(q, i), ?_, rfl⟩
    rw [List.mem_insertionSort, List.mem_filterMap]
    exact ⟨(f, i), List.mem_zipIdx_iff_getElem?.2 hf, by rw [hq]; rfl⟩

/-- A sector in use stands in the scan at its position, refined (R113). -/
theorem settled_spec {l : List Found} {g : Found} {i : Nat} (h : (g, i) ∈ settled l) :
    ∃ f q, l[i]? = some f ∧ f.seq = some q ∧ f.refines g := by
  have hall : ∀ {o : List Nat} {y : List (Found × Nat)},
      List.Forall₂ (fun i (y : Found × Nat) => y.2 = i ∧ (l.getD i Found.outside).refines y.1) o y → (g, i) ∈ y →
        i ∈ o ∧ (l.getD i Found.outside).refines g := fun hf => by
    induction hf with
    | nil => exact nofun
    | cons hx _ ih =>
      intro hm
      rcases List.mem_cons.1 hm with rfl | hm
      · obtain ⟨rfl, hr⟩ := hx
        exact ⟨List.mem_cons_self, hr⟩
      · exact ⟨List.mem_cons_of_mem _ (ih hm).1, (ih hm).2⟩
  obtain ⟨hi, hr⟩ := hall (settled_forall₂ l) h
  obtain ⟨f, q, hf, hq⟩ := mem_inUseOrder.1 hi
  rw [List.getD_eq_getElem?_getD, hf] at hr
  exact ⟨f, q, hf, hq, hr⟩

theorem settled_positions (l : List Found) : (settled l).map Prod.snd = inUseOrder l := by
  have hall : ∀ {o : List Nat} {y : List (Found × Nat)},
      List.Forall₂ (fun i (y : Found × Nat) => y.2 = i ∧ (l.getD i Found.outside).refines y.1) o y → y.map Prod.snd = o := fun hf => by
    induction hf with
    | nil => rfl
    | cons hx _ ih => rw [List.map_cons, hx.1, ih]
  exact hall (settled_forall₂ l)

theorem inUseOrder_nodup (l : List Found) : (inUseOrder l).Nodup := by
  refine ((List.perm_insertionSort _ _).map Prod.snd).nodup_iff.2 ?_
  refine List.pairwise_map.2 (List.pairwise_filterMap.2 ((zipIdx_pairwise l).imp fun {a b} hab x hx y hy => ?_))
  obtain ⟨q, -, rfl⟩ := Option.map_eq_some_iff.1 hx
  obtain ⟨q', -, rfl⟩ := Option.map_eq_some_iff.1 hy
  exact hab.ne

theorem pairwise_of_forall₂ {α β : Type} {R : α → β → Prop} {S : α → α → Prop} {T : β → β → Prop} {l₁ : List α} {l₂ : List β}
    (h : List.Forall₂ R l₁ l₂) (hST : ∀ a a' b b', R a b → R a' b' → S a a' → T b b') (hS : l₁.Pairwise S) : l₂.Pairwise T := by
  have hmem : ∀ {l₁ : List α} {l₂ : List β}, List.Forall₂ R l₁ l₂ → ∀ b ∈ l₂, ∃ a ∈ l₁, R a b := fun h => by
    induction h with
    | nil => exact nofun
    | cons hx _ ih =>
      intro b hb
      rcases List.mem_cons.1 hb with rfl | hb
      · exact ⟨_, List.mem_cons_self, hx⟩
      · obtain ⟨a, ha, hr⟩ := ih b hb
        exact ⟨a, List.mem_cons_of_mem _ ha, hr⟩
  induction h with
  | nil => exact .nil
  | cons hx ht ih =>
    obtain ⟨hhead, htail⟩ := List.pairwise_cons.1 hS
    refine .cons (fun b hb => ?_) (ih htail)
    obtain ⟨a, ha, hr⟩ := hmem ht b hb
    exact hST _ _ _ _ hx hr (hhead a ha)

theorem Found.refines.seq {f g : Found} (h : f.refines g) : g.seq = f.seq := by
  rw [h.1]
  rfl

/-- The sectors in use are in order of sequence number (R113). -/
theorem settled_sorted (l : List Found) :
    (settled l).Pairwise fun y z => ∀ a b, y.1.seq = some a → z.1.seq = some b → a ≤ b := by
  let O := (l.zipIdx.filterMap fun f => f.1.seq.map fun q => (q, f.2)).insertionSort fun a b => a.1 ≤ b.1
  have hO : O.Pairwise fun a b => a.1 ≤ b.1 := by
    have htotal : Std.Total fun a b : Nat × Nat => a.1 ≤ b.1 := ⟨fun a b => Nat.le_total _ _⟩
    have htrans : IsTrans (Nat × Nat) fun a b => a.1 ≤ b.1 := ⟨fun _ _ _ => Nat.le_trans⟩
    exact List.pairwise_insertionSort _ _
  have hmem : ∀ a ∈ O, (l.getD a.2 Found.outside).seq = some a.1 := fun a ha => by
    rw [List.mem_insertionSort, List.mem_filterMap] at ha
    obtain ⟨⟨f, i⟩, hf, he⟩ := ha
    obtain ⟨q, hq, rfl⟩ := Option.map_eq_some_iff.1 he
    rw [List.getD_eq_getElem?_getD, List.mem_zipIdx_iff_getElem?.1 hf]
    exact hq
  have hf := (List.forall₂_and_left _ _).2 ⟨hmem, List.forall₂_map_left_iff.1 (settled_forall₂ l)⟩
  refine pairwise_of_forall₂ hf (fun a a' y z hy hz hS q q' hq hq' => ?_) hO
  rw [hy.2.2.seq, hy.1] at hq
  rw [hz.2.2.seq, hz.1] at hq'
  cases hq
  cases hq'
  exact hS

/-! ### The records that recovery reads -/

theorem UsedSlot.outcome_record {u : UsedSlot} {m : Nat} {h : Health} {n : Nat} {r : RecordBody} :
    (u.outcome m h).record = some (n, r) ↔ u = .record n r ∧ n = m ∧ h ≠ .uncorrectable := by
  unfold UsedSlot.outcome
  split
  · split <;> grind
  · split <;> grind
  · simp
  · simp

theorem mem_slotOutcomes {first : Option Nat} {n : Nat} {r : RecordBody} : ∀ {k : Nat} {us : List UsedSlot} {hs : List Health},
    (n, r) ∈ (slotOutcomes first k us hs).filterMap (·.record) ↔ ∃ f j, first = some f ∧ us[j]? = some (.record n r) ∧ n = f + (k + j)
      ∧ hs.getD j .clean ≠ .uncorrectable
  | k, [], hs => by simp [slotOutcomes]
  | k, u :: us, hs => by
    have ih := @mem_slotOutcomes first n r (k + 1) us hs.tail
    have hhead : hs.headD .clean = hs.getD 0 .clean := by cases hs <;> rfl
    have htail : ∀ j, hs.tail.getD j .clean = hs.getD (j + 1) .clean := fun j => by cases hs <;> simp
    have hcons : (n, r) ∈ (slotOutcomes first k (u :: us) hs).filterMap (·.record) ↔
        (∃ f, first = some f ∧ (u.outcome (f + k) (hs.getD 0 .clean)).record = some (n, r))
          ∨ (n, r) ∈ (slotOutcomes first (k + 1) us hs.tail).filterMap (·.record) := by
      rw [← hhead]
      cases first
      · simp [slotOutcomes]
      · simp [slotOutcomes]
    rw [hcons, ih]
    constructor
    · rintro (⟨f, hf, hu⟩ | ⟨f, j, hf, hu, hn, hh⟩)
      · obtain ⟨rfl, hn, hh⟩ := UsedSlot.outcome_record.1 hu
        exact ⟨f, 0, hf, rfl, hn, hh⟩
      · exact ⟨f, j + 1, hf, hu, by omega, by rwa [← htail]⟩
    · rintro ⟨f, j, hf, hu, hn, hh⟩
      cases j with
      | zero => exact .inl ⟨f, hf, UsedSlot.outcome_record.2 ⟨Option.some.inj hu, hn, hh⟩⟩
      | succ j => exact .inr ⟨f, j, hf, hu, by omega, by rwa [htail]⟩

/-- The records read OK or CORRECTED in the kept sectors (R114). -/
theorem mem_recordsOf {l : List (Found × Nat)} {n : Nat} {r : RecordBody} : (n, r) ∈ recordsOf l ↔
    ∃ g i f j, (g, i) ∈ l ∧ g.first = some f ∧ g.slots[j]? = some (.record n r) ∧ n = f + j
      ∧ g.health.getD j .clean ≠ .uncorrectable := by
  have hkept : ∀ {g : Found} {f : Nat}, g.first = some f → g.kept = true := fun h => by simp [Found.kept, h]
  simp only [recordsOf, List.mem_flatten, List.mem_map, List.mem_filter]
  constructor
  · rintro ⟨_, ⟨⟨g, i⟩, ⟨hg, -⟩, rfl⟩, hm⟩
    obtain ⟨f, j, hf, hu, hn, hh⟩ := mem_slotOutcomes.1 hm
    exact ⟨g, i, f, j, hg, hf, hu, by omega, hh⟩
  · rintro ⟨g, i, f, j, hg, hf, hu, hn, hh⟩
    exact ⟨_, ⟨(g, i), ⟨hg, hkept hf⟩, rfl⟩, mem_slotOutcomes.2 ⟨f, j, hf, hu, by omega, hh⟩⟩

/-! ### What recovery takes from the records -/

theorem highestTxn_append (l : List (Nat × RecordBody)) (x : Nat × RecordBody) : highestTxn (l ++ [x]) =
    match x.2 with | .sale r => max (highestTxn l) r.txn | .cal _ => highestTxn l := by
  rw [highestTxn, List.foldl_append]
  rfl

/-- The highest transaction number bounds those of the SALE records (R64). -/
theorem le_highestTxn (l : List (Nat × RecordBody)) {n : Nat} {r : SaleFields} (h : (n, .sale r) ∈ l) : r.txn ≤ highestTxn l := by
  induction l using List.reverseRecOn with
  | nil => cases h
  | append_singleton l x ih =>
    rw [highestTxn_append]
    rcases List.mem_append.1 h with h | h
    · have hl := ih h
      split
      · exact hl.trans (Nat.le_max_left _ _)
      · exact hl
    · cases List.mem_singleton.1 h
      exact Nat.le_max_right _ _

/-- The highest transaction number is one of a SALE record, or 0 (R64). -/
theorem highestTxn_attained (l : List (Nat × RecordBody)) : highestTxn l = 0 ∨ ∃ n r, (n, .sale r) ∈ l ∧ r.txn = highestTxn l := by
  induction l using List.reverseRecOn with
  | nil => exact .inl rfl
  | append_singleton l x ih =>
    have hkeep : ∀ m, m = highestTxn l → m = 0 ∨ ∃ n r, (n, RecordBody.sale r) ∈ l ++ [x] ∧ r.txn = m := fun m hm => by
      subst hm
      exact ih.imp_right fun ⟨n, r, h, hr⟩ => ⟨n, r, List.mem_append_left _ h, hr⟩
    rw [highestTxn_append]
    split
    · next r hr =>
      rcases Nat.le_total (highestTxn l) r.txn with h | h
      · rw [Nat.max_eq_right h]
        exact .inr ⟨x.1, r, List.mem_append_right _ (List.mem_singleton.2 (by rw [← hr])), rfl⟩
      · rw [Nat.max_eq_left h]
        exact hkeep _ rfl
    · exact hkeep _ rfl

/-- A CAL record that recovery may choose for a channel (R61). -/
def calFor (c : Ch) (k : CalFields) : Prop := k.channel = c ∧ k.cal.valid c = true

theorem chosenCal_append (c : Ch) (l : List (Nat × RecordBody)) (x : Nat × RecordBody) : chosenCal c (l ++ [x]) =
    match x.2 with
    | .cal k => if k.channel = c ∧ k.cal.valid c ∧ aboveChosen x.1 (chosenCal c l) then some { number := x.1, fields := k } else chosenCal c l
    | .sale _ => chosenCal c l := by
  rw [chosenCal, List.foldl_append]
  rfl

/-- The CAL record chosen is one of the highest number among those that may be chosen; with none, none is (R61). -/
theorem chosenCal_spec (c : Ch) (l : List (Nat × RecordBody)) :
    (∀ b, chosenCal c l = some b → (b.number, .cal b.fields) ∈ l ∧ calFor c b.fields
      ∧ ∀ n k, (n, RecordBody.cal k) ∈ l → calFor c k → n ≤ b.number)
    ∧ (chosenCal c l = none → ∀ n k, (n, RecordBody.cal k) ∈ l → ¬ calFor c k) := by
  induction l using List.reverseRecOn with
  | nil => exact ⟨nofun, fun _ n k h => nomatch h⟩
  | append_singleton l x ih =>
    obtain ⟨ihs, ihn⟩ := ih
    have hsplit : ∀ {n k}, (n, RecordBody.cal k) ∈ l ++ [x] → (n, RecordBody.cal k) ∈ l ∨ x = (n, .cal k) := fun h =>
      (List.mem_append.1 h).imp_right fun h => (List.mem_singleton.1 h).symm
    have hkeep : (∀ n k, x = (n, .cal k) → calFor c k → ∃ b, chosenCal c l = some b ∧ n ≤ b.number) →
        (∀ b, chosenCal c l = some b → (b.number, .cal b.fields) ∈ l ++ [x] ∧ calFor c b.fields
          ∧ ∀ n k, (n, RecordBody.cal k) ∈ l ++ [x] → calFor c k → n ≤ b.number)
        ∧ (chosenCal c l = none → ∀ n k, (n, RecordBody.cal k) ∈ l ++ [x] → ¬ calFor c k) := fun hx => by
      refine ⟨fun b hb => ?_, fun hn n k hm hk => ?_⟩
      · obtain ⟨hm, hc, hmax⟩ := ihs b hb
        refine ⟨List.mem_append_left _ hm, hc, fun n k hnk hk => ?_⟩
        rcases hsplit hnk with h | h
        · exact hmax n k h hk
        · obtain ⟨b', hb', hle⟩ := hx n k h hk
          rw [hb] at hb'
          cases hb'
          exact hle
      · rcases hsplit hm with h | h
        · exact ihn hn n k h hk
        · obtain ⟨b', hb', -⟩ := hx n k h hk
          rw [hn] at hb'
          cases hb'
    rw [chosenCal_append]
    split
    · next k₀ hk₀ =>
      have hx : x = (x.1, .cal k₀) := by rw [← hk₀]
      split
      · next hc =>
        obtain ⟨hch, hv, habove⟩ := hc
        refine ⟨fun b hb => ?_, nofun⟩
        cases hb
        refine ⟨List.mem_append_right _ (List.mem_singleton.2 hx.symm), ⟨hch, hv⟩, fun n k hnk hk => ?_⟩
        rcases hsplit hnk with h | h
        · cases ho : chosenCal c l with
          | none => exact absurd hk (ihn ho n k h)
          | some b =>
            rw [ho] at habove
            exact ((ihs b ho).2.2 n k h hk).trans (of_decide_eq_true habove).le
        · rw [h]
      · next hc =>
        refine hkeep fun n k hxn hk => ?_
        rw [hx] at hxn
        obtain ⟨rfl, hkk⟩ := Prod.mk.inj hxn
        cases hkk
        cases ho : chosenCal c l with
        | none => exact absurd ⟨hk.1, hk.2, by rw [ho]; rfl⟩ hc
        | some b =>
          refine ⟨b, rfl, Nat.not_lt.1 fun hlt => hc ⟨hk.1, hk.2, ?_⟩⟩
          rw [ho]
          exact decide_eq_true hlt
    · next r hr =>
      refine hkeep fun n k hxn _ => ?_
      rw [hxn] at hr
      cases hr

/-- The limits of R53 and the relations of R54, as the model tests them (R61). -/
theorem calFor_iff {c : Ch} {k : CalFields} : calFor c k ↔ k.channel = c ∧ k.sound := by
  refine and_congr_right fun hc => ?_
  subst hc
  have hmg : (1000 * (k.cal.params.max : Int) ≤ 10 * k.cal.ms) ↔ 100 * (k.cal.params.max : Int) ≤ k.cal.ms := by omega
  have hmod : ((k.cal.params.max : Int) % (k.cal.params.e : Int) = 0) ↔ k.cal.params.max % k.cal.params.e = 0 := by
    exact_mod_cast Iff.rfl
  have hdiv : ((k.cal.params.max : Int) / (k.cal.params.e : Int) ≤ (maxDivisions k.channel : Int)) ↔
      k.cal.params.max / k.cal.params.e ≤ maxDivisions k.channel := by
    exact_mod_cast Iff.rfl
  have hone : (1 ≤ (k.cal.params.max : Int)) ↔ 1 ≤ k.cal.params.max := by omega
  have hmax : ((k.cal.params.max : Int) ≤ 60000) ↔ k.cal.params.max ≤ 60000 := by omega
  have hrel : (4 * k.cal.ms ≤ (k.cal.cs - k.cal.zc) * ((1000 * k.cal.params.e : Nat) : Int)) ↔
      4 * k.cal.ms ≤ (k.cal.cs - k.cal.zc) * (1000 * (k.cal.params.e : Int)) := by push_cast; exact Iff.rfl
  simp only [Calibration.valid, paramsOk, relationsOk, CalFields.sound, hmg, Bool.and_eq_true, decide_eq_true_eq,
    List.contains_iff_mem, List.mem_cons, List.not_mem_nil, or_false, and_assoc, hmod, hdiv, Params.eMg, hone, hmax, hrel]
  cases k.channel <;> exact Iff.rfl

/-! ### The table that the scan gives -/

/-- What the scan finds of the sectors. -/
def scanFound (flash : List FlashSector) (scan : Scan) : List Found := (flash.zip scan.sectors).map fun y => Found.of y.1 y.2

theorem scanFound_getElem? {scan : Scan} {flash : List FlashSector} {i : Nat} {f : Found} : (scanFound flash scan)[i]? = some f ↔
    ∃ x z, flash[i]? = some x ∧ scan.sectors[i]? = some z ∧ f = Found.of x z := by
  rw [scanFound, List.getElem?_map, Option.map_eq_some_iff]
  constructor
  · rintro ⟨⟨x, z⟩, h, rfl⟩
    obtain ⟨hx, hz⟩ := List.getElem?_zip_eq_some.1 h
    exact ⟨x, z, hx, hz, rfl⟩
  · rintro ⟨x, z, hx, hz, rfl⟩
    exact ⟨(x, z), List.getElem?_zip_eq_some.2 ⟨hx, hz⟩, rfl⟩

/-- The kept sector in use at a position (R113). -/
def keptAt (flash : List FlashSector) (scan : Scan) (i : Nat) : Option Found :=
  (((settled (scanFound flash scan)).filter fun f => f.1.kept).find? fun f => f.2 == i).map (·.1)

theorem keptAt_eq_some {scan : Scan} {flash : List FlashSector} {i : Nat} {g : Found} :
    keptAt flash scan i = some g ↔ (g, i) ∈ settled (scanFound flash scan) ∧ g.kept = true := by
  have hdup : ((settled (scanFound flash scan)).map Prod.snd).Nodup := by
    rw [settled_positions]
    exact inUseOrder_nodup _
  rw [keptAt, Option.map_eq_some_iff]
  constructor
  · rintro ⟨⟨g', i'⟩, hf, rfl⟩
    obtain ⟨hm, hk⟩ := List.mem_filter.1 (List.mem_of_find?_eq_some hf)
    have hi : i' = i := by simpa using List.find?_some hf
    rw [← hi]
    exact ⟨hm, hk⟩
  · rintro ⟨hm, hk⟩
    have hsome : (((settled (scanFound flash scan)).filter fun f => f.1.kept).find? fun f => f.2 == i).isSome := by
      rw [List.find?_isSome]
      exact ⟨(g, i), List.mem_filter.2 ⟨hm, hk⟩, beq_self_eq_true i⟩
    obtain ⟨⟨g', i'⟩, hf⟩ := Option.isSome_iff_exists.1 hsome
    have hi : i' = i := by simpa using List.find?_some hf
    have hm' := (List.mem_filter.1 (List.mem_of_find?_eq_some hf)).1
    exact ⟨(g', i'), hf, congrArg Prod.fst (List.inj_on_of_nodup_map hdup hm' hm hi)⟩

/-- What the scan gives, before the marks (R113, R114): the table holds the entries of the kept sectors, and those of the sectors
that are erased or retired (R115). -/
structure ScanGives (x : Store) (flash : List FlashSector) (scan : Scan) (y : Store) : Prop where
  next : y.next = nextNumber (settled (scanFound flash scan))
  current : ∀ c, y.current c = chosenCal c (recordsOf (settled (scanFound flash scan)))
  op : y.op = x.op
  queue : y.queue = x.queue
  waiters : y.waiters = x.waiters
  erase : y.erase = x.erase
  rotation : y.rotation = x.rotation
  copies : y.copies = x.copies
  failed : y.failed = x.failed
  length : y.table.length = (scanFound flash scan).length
  table : ∀ i e, y.table[i]? = some e ↔ ∃ f, (scanFound flash scan)[i]? = some f
    ∧ ((∃ g, keptAt flash scan i = some g ∧ e = g.entry) ∨ keptAt flash scan i = none ∧ e = f.erasedEntry)

/-- Recovery is what the scan gives, the marks, and the checks behind them (R113 to R115). -/
theorem recover_store (x : Store) (flash : List FlashSector) (scan : Scan) : ∃ r : Recov, ScanGives x flash scan r.store
    ∧ (recover x flash scan).store = r.chooseActive.bringIntoUse.store.judgeUsable.spareCheck := by
  unfold recover
  extract_lets found used kept records place table array damaged store r
  have hr : r = (⟨store, array, scan.marks⟩ : Recov).chooseActive.bringIntoUse := rfl
  refine ⟨⟨store, array, scan.marks⟩, ⟨rfl, fun c => by cases c <;> rfl, rfl, rfl, rfl, rfl, rfl, rfl, rfl, ?_, fun i e => ?_⟩,
    by rw [← hr]⟩
  · simp only [store, table, List.length_map, List.length_zipIdx]
    rfl
  · have hp : place i = keptAt flash scan i := rfl
    have ht : table[i]? = (found[i]?).map fun f => match place i with | some g => g.entry | none => f.erasedEntry := by
      simp only [table, List.getElem?_map, List.getElem?_zipIdx, Option.map_map]
      cases found[i]? with
      | none => rfl
      | some f => exact congrArg (fun j => some (match place j with | some g => g.entry | none => f.erasedEntry)) (Nat.zero_add i)
    rw [show store.table[i]? = _ from ht, hp, Option.map_eq_some_iff]
    cases keptAt flash scan i with
    | none => simp [eq_comm, found, scanFound]
    | some g => simp [eq_comm, found, scanFound]

/-! ### The marks of recovery -/

/-- Every entry of a table comes from the entry at its position in another. -/
def tableSteps (R : SectorEntry → SectorEntry → Prop) (l l' : List SectorEntry) : Prop :=
  l'.length = l.length ∧ ∀ (i : Nat) (e' : SectorEntry), l'[i]? = some e' → ∃ e, l[i]? = some e ∧ R e e'

section
variable {R S : SectorEntry → SectorEntry → Prop} {l l' l'' : List SectorEntry}

theorem tableSteps.refl (hR : ∀ e, R e e) (l : List SectorEntry) : tableSteps R l l := ⟨rfl, fun _ e h => ⟨e, h, hR e⟩⟩

theorem tableSteps.trans {T : SectorEntry → SectorEntry → Prop} (hT : ∀ a b c, R a b → S b c → T a c) (h : tableSteps R l l')
    (k : tableSteps S l' l'') : tableSteps T l l'' :=
  ⟨k.1.trans h.1, fun i e' he' => by
    obtain ⟨b, hb, hS⟩ := k.2 i e' he'
    obtain ⟨a, ha, hR⟩ := h.2 i b hb
    exact ⟨a, ha, hT a b e' hR hS⟩⟩

theorem tableSteps.set (hR : ∀ e, R e e) {i : Nat} {e' : SectorEntry} (h : ∀ e, l[i]? = some e → R e e') :
    tableSteps R l (l.set i e') := by
  refine ⟨List.length_set, fun j y hy => ?_⟩
  rw [List.getElem?_set] at hy
  split at hy
  · next hij =>
    subst hij
    split at hy
    · next hl =>
      cases hy
      exact ⟨l[i], List.getElem?_eq_getElem hl, h _ (List.getElem?_eq_getElem hl)⟩
    · cases hy
  · exact ⟨y, hy, hR y⟩

/-- What holds of an entry and of the one at its position: the tables agree in every test that the steps keep. -/
theorem tableSteps.map_eq {α : Type} (f : SectorEntry → α) (hf : ∀ e e', R e e' → f e' = f e) (h : tableSteps R l l') :
    l'.map f = l.map f := by
  refine List.ext_getElem? fun i => ?_
  rw [List.getElem?_map, List.getElem?_map]
  cases hi : l'[i]? with
  | none =>
    rw [List.getElem?_eq_none_iff, h.1] at hi
    rw [List.getElem?_eq_none hi]
  | some e' =>
    obtain ⟨e, he, hR⟩ := h.2 i e' hi
    rw [he, Option.map_some, Option.map_some, hf e e' hR]

end

/-- Nothing is owed to the flash. -/
def Store.calm (x : Store) : Prop := x.rotation = .none ∧ x.copies = []

/-- A store whose table has taken steps, and which may have failed. -/
structure Store.Marked (R : SectorEntry → SectorEntry → Prop) (x y : Store) : Prop where
  keeps : y = { x with table := y.table, failed := y.failed, lastSeq := y.lastSeq }
  failed : x.failed = true → y.failed = true
  table : tableSteps R x.table y.table

theorem Store.Marked.refl {R : SectorEntry → SectorEntry → Prop} (hR : ∀ e, R e e) (x : Store) : x.Marked R x :=
  ⟨rfl, id, .refl hR _⟩

theorem Store.Marked.trans {R S T : SectorEntry → SectorEntry → Prop} {x y z : Store} (hT : ∀ a b c, R a b → S b c → T a c)
    (h : x.Marked R y) (k : y.Marked S z) : x.Marked T z :=
  ⟨by rw [k.keeps, h.keeps], k.failed ∘ h.failed, h.table.trans hT k.table⟩

theorem Store.Marked.calm {R : SectorEntry → SectorEntry → Prop} {x y : Store} (h : x.Marked R y) (hc : x.calm) : y.calm := by
  rw [h.keeps]
  exact hc

theorem Store.fail_of_calm {x : Store} (h : x.calm) : x.fail = { x with failed := true } := by
  obtain ⟨hr, hc⟩ := h
  simp only [Store.fail, hc]
  rw [← hr, ← hc]

theorem Store.Marked.of_fail {R : SectorEntry → SectorEntry → Prop} (hR : ∀ e, R e e) {x : Store} (h : x.calm) : x.Marked R x.fail := by
  rw [Store.fail_of_calm h]
  exact ⟨rfl, fun _ => rfl, .refl hR _⟩

/-- A mark that recovery programs, at a position whose entry takes the step (R103, R115). -/
theorem Recov.mark_marked {R : SectorEntry → SectorEntry → Prop} (hR : ∀ e, R e e) {r : Recov} {i : Nat} {e' : SectorEntry}
    {header : Header} (hc : r.store.calm) (h : ∀ e, r.store.table[i]? = some e → R e e') :
    r.store.Marked R (r.mark i e' header).store
      ∧ ((r.mark i e' header).store.failed = false → (r.mark i e' header).store.table = r.store.table.set i e')
      ∧ ((r.mark i e' header).store.table = r.store.table ∨ (r.mark i e' header).store.table = r.store.table.set i e') := by
  unfold Recov.mark
  split
  · next hf => exact ⟨.refl hR _, fun h => absurd (hf.symm.trans h) (by decide), .inl rfl⟩
  · split
    · exact ⟨⟨rfl, id, .set hR h⟩, fun _ => rfl, .inr rfl⟩
    · refine ⟨.of_fail hR hc, ?_, .inl ?_⟩
      all_goals rw [Store.fail_of_calm hc]
      exact nofun

/-- An ACTIVE candidate may receive the FULL mark (R115). -/
def SectorEntry.filled (e e' : SectorEntry) : Prop := e' = e ∨ e.state = .active ∧ e' = { e with state := .full }

theorem SectorEntry.filled_refl (e : SectorEntry) : e.filled e := .inl rfl

theorem SectorEntry.filled_trans (a b c : SectorEntry) (h : a.filled b) (k : b.filled c) : a.filled c := by
  rcases h with rfl | ⟨ha, rfl⟩
  · exact k
  · rcases k with rfl | ⟨hb, -⟩
    · exact .inr ⟨ha, rfl⟩
    · cases hb

theorem Store.entry_of_getElem? {x : Store} {i : Nat} {e : SectorEntry} (h : x.table[i]? = some e) : x.entry i = e :=
  (Store.entry_mem h).1

theorem Recov.markFull_marked {r : Recov} {i : Nat} {e : SectorEntry} (hc : r.store.calm) (hi : r.store.table[i]? = some e)
    (he : e.state = .active) : r.store.Marked SectorEntry.filled (r.markFull i).store
      ∧ ((r.markFull i).store.failed = false → (r.markFull i).store.table = r.store.table.set i { e with state := .full })
      ∧ ((r.markFull i).store.table = r.store.table ∨ (r.markFull i).store.table = r.store.table.set i { e with state := .full }) := by
  unfold Recov.markFull
  rw [Store.entry_of_getElem? hi]
  refine Recov.mark_marked SectorEntry.filled_refl hc fun e₀ h₀ => ?_
  cases hi.symm.trans h₀
  exact .inr ⟨he, rfl⟩

/-- Candidates that receive their FULL marks in turn (R115). -/
theorem Recov.foldl_markFull (l : List Nat) : ∀ {r : Recov}, r.store.calm → l.Nodup →
    (∀ i ∈ l, ∃ e, r.store.table[i]? = some e ∧ e.state = .active) →
    r.store.Marked SectorEntry.filled (l.foldl Recov.markFull r).store
      ∧ ((l.foldl Recov.markFull r).store.failed = false →
        ∀ i ∈ l, ∀ e, (l.foldl Recov.markFull r).store.table[i]? = some e → e.state = .full)
      ∧ ∀ i, i ∉ l → (l.foldl Recov.markFull r).store.table[i]? = r.store.table[i]? := by
  induction l with
  | nil => exact fun _ _ _ => ⟨.refl SectorEntry.filled_refl _, fun _ => nofun, fun _ _ => rfl⟩
  | cons i l ih =>
    intro r hc hd ha
    obtain ⟨hil, hd⟩ := List.nodup_cons.1 hd
    obtain ⟨e, hi, he⟩ := ha i List.mem_cons_self
    obtain ⟨hm, hset, htab⟩ := Recov.markFull_marked hc hi he
    have hother : ∀ j, j ≠ i → (r.markFull i).store.table[j]? = r.store.table[j]? := fun j hj => by
      rcases htab with h | h
      · rw [h]
      · rw [h, List.getElem?_set_ne (Ne.symm hj)]
    obtain ⟨hml, hfull, hkeep⟩ := ih (hm.calm hc) hd fun j hj => by
      rw [hother j fun h => hil (h ▸ hj)]
      exact ha j (List.mem_cons_of_mem _ hj)
    rw [List.foldl_cons]
    refine ⟨hm.trans SectorEntry.filled_trans hml, fun hf j hj y hy => ?_, fun j hj => ?_⟩
    · rcases List.mem_cons.1 hj with rfl | hj
      · rw [hkeep j hil, hset (Bool.eq_false_iff.2 fun h => absurd (hml.failed h) (by rw [hf]; decide))] at hy
        rw [List.getElem?_set_self (List.getElem?_eq_some_iff.1 hi).1] at hy
        cases hy
        rfl
      · exact hfull hf j hj y hy
    · obtain ⟨hji, hjl⟩ := not_or.1 (mt List.mem_cons.2 hj)
      rw [hkeep j hjl, hother j hji]

theorem Store.mem_bySeq {x : Store} {test : SectorEntry → Bool} {i : Nat} :
    i ∈ x.bySeq test ↔ ∃ e, x.table[i]? = some e ∧ test e = true := by
  rw [Store.bySeq, List.mem_map]
  constructor
  · rintro ⟨⟨e, k⟩, h, rfl⟩
    rw [List.mem_insertionSort, List.mem_filter, List.mem_zipIdx_iff_getElem?] at h
    exact ⟨e, h.1, h.2⟩
  · rintro ⟨e, he, ht⟩
    refine ⟨(e, i), ?_, rfl⟩
    rw [List.mem_insertionSort, List.mem_filter, List.mem_zipIdx_iff_getElem?]
    exact ⟨he, ht⟩

theorem Store.bySeq_nodup (x : Store) (test : SectorEntry → Bool) : (x.bySeq test).Nodup := by
  refine ((List.perm_insertionSort _ _).map Prod.snd).nodup_iff.2 ?_
  exact List.pairwise_map.2 (((zipIdx_pairwise x.table).filter _).imp fun h => h.ne)

/-- At most one sector is ACTIVE. -/
def Store.loneActive (x : Store) : Prop :=
  ∀ (i j : Nat) (e y : SectorEntry), x.table[i]? = some e → e.state = .active → x.table[j]? = some y → y.state = .active → i = j

theorem SectorEntry.filled_active {e e' : SectorEntry} (h : e.filled e') (he : e'.state = .active) : e.state = .active := by
  rcases h with rfl | ⟨h, -⟩
  · exact he
  · exact h

theorem Store.loneActive_of_filled {x y : Store} (hx : x.loneActive) (h : tableSteps SectorEntry.filled x.table y.table) : y.loneActive := by
  intro i j e z he hs hz hs'
  obtain ⟨a, ha, hR⟩ := h.2 i e he
  obtain ⟨b, hb, hR'⟩ := h.2 j z hz
  exact hx i j a b ha (SectorEntry.filled_active hR hs) hb (SectorEntry.filled_active hR' hs')

theorem getLast?_of_mem {l : List Nat} {k : Nat} (h : k ∈ l) (hd : k ∉ l.dropLast) : l.getLast? = some k := by
  have hl : l ≠ [] := List.ne_nil_of_mem h
  rw [← List.dropLast_append_getLast hl, List.mem_append, List.mem_singleton] at h
  rw [h.resolve_left hd, List.getLast?_eq_some_getLast hl]

theorem not_mem_dropLast_of_nodup {l : List Nat} {k : Nat} (hn : l.Nodup) (h : l.getLast? = some k) : k ∉ l.dropLast := by
  obtain ⟨l', rfl⟩ := List.getLast?_eq_some_iff.1 h
  rw [List.dropLast_concat]
  exact fun hk => (List.nodup_append.1 hn).2.2 k hk k List.mem_cons_self rfl

/-- Step 2: of several ACTIVE candidates one stays at most, or the store has failed (R115). -/
theorem Recov.chooseActive_marked {r : Recov} (hc : r.store.calm) : r.store.Marked SectorEntry.filled r.chooseActive.store
    ∧ (r.chooseActive.store.failed = false → r.chooseActive.store.loneActive) := by
  have hcand : ∀ i ∈ r.store.bySeq fun e => e.state == .active, ∃ e, r.store.table[i]? = some e ∧ e.state = .active := fun i hi => by
    obtain ⟨e, he, hs⟩ := Store.mem_bySeq.1 hi
    exact ⟨e, he, by simpa using hs⟩
  have hnd := r.store.bySeq_nodup fun e => e.state == .active
  obtain ⟨hm, hfull, hkeep⟩ := Recov.foldl_markFull (r.store.bySeq fun e => e.state == .active).dropLast hc
    (hnd.sublist (List.dropLast_sublist _)) fun i hi => hcand i (List.dropLast_subset _ hi)
  have hlone : ((r.store.bySeq fun e => e.state == .active).dropLast.foldl Recov.markFull r).store.failed = false →
      ((r.store.bySeq fun e => e.state == .active).dropLast.foldl Recov.markFull r).store.loneActive := fun hf i j e y he hs hy hs' => by
    have hlast : ∀ k z, ((r.store.bySeq fun e => e.state == .active).dropLast.foldl Recov.markFull r).store.table[k]? = some z →
        z.state = .active → (r.store.bySeq fun e => e.state == .active).getLast? = some k := fun k z hz hs => by
      obtain ⟨a, ha, hR⟩ := hm.table.2 k z hz
      have hk : k ∈ r.store.bySeq fun e => e.state == .active :=
        Store.mem_bySeq.2 ⟨a, ha, by simpa using SectorEntry.filled_active hR hs⟩
      have hdrop : k ∉ (r.store.bySeq fun e => e.state == .active).dropLast := fun hd => by
        have := hfull hf k hd z hz
        rw [hs] at this
        cases this
      exact getLast?_of_mem hk hdrop
    have h₁ := hlast i e he hs
    have h₂ := hlast j y hy hs'
    rw [h₁] at h₂
    exact Option.some.inj h₂
  unfold Recov.chooseActive
  dsimp only
  generalize ((r.store.bySeq fun e => e.state == .active).dropLast.foldl Recov.markFull r) = q at *
  split
  · next i hi =>
    split
    · next hu =>
      have hlast : i ∉ (r.store.bySeq fun e => e.state == .active).dropLast := not_mem_dropLast_of_nodup hnd hi
      obtain ⟨e, he, hs⟩ := hcand i (List.mem_of_getLast? hi)
      obtain ⟨hmark, -, -⟩ := Recov.markFull_marked (hm.calm hc) ((hkeep i hlast).trans he) hs
      refine ⟨hm.trans SectorEntry.filled_trans hmark, fun hf => ?_⟩
      have hq : q.store.failed = false := Bool.eq_false_iff.2 fun h => absurd (hmark.failed h) (by rw [hf]; decide)
      exact Store.loneActive_of_filled (hlone hq) hmark.table
    · exact ⟨hm, hlone⟩
  · exact ⟨hm, hlone⟩

/-- An ERASED sector may be brought into use (R115). -/
def SectorEntry.opened (e e' : SectorEntry) : Prop :=
  e' = e ∨ e.state = .erased ∧ ∃ q, e' = { SectorEntry.blank with state := .active, seq := q }

theorem SectorEntry.opened_refl (e : SectorEntry) : e.opened e := .inl rfl

/-- One sector is ACTIVE. -/
def Store.oneActive (x : Store) : Prop := x.loneActive ∧ ∃ (i : Nat) (e : SectorEntry), x.table[i]? = some e ∧ e.state = .active

theorem Store.erasedAfter_spec {x : Store} {i j : Nat} (h : x.erasedAfter i = some j) : j < 8 ∧ (x.entry j).state = .erased := by
  have hj := List.mem_of_find?_eq_some h
  obtain ⟨k, -, rfl⟩ := List.mem_map.1 hj
  exact ⟨Nat.mod_lt _ (by decide), by simpa using List.find?_some h⟩

theorem Store.nextErased_spec {x : Store} {j : Nat} (h : x.nextErased = some j) : j < 8 ∧ (x.entry j).state = .erased := by
  unfold Store.nextErased at h
  split at h
  · exact Store.erasedAfter_spec h
  · exact Store.erasedAfter_spec h

/-- Step 3: with no ACTIVE candidate a sector is brought into use (R115). -/
theorem Recov.bringIntoUse_marked {r : Recov} (hc : r.store.calm) (hl : r.store.failed = false → r.store.loneActive) :
    r.store.Marked SectorEntry.opened r.bringIntoUse.store
      ∧ (r.store.table.length = 8 → r.bringIntoUse.store.failed = false → r.bringIntoUse.store.oneActive) := by
  have hfail := Store.fail_of_calm hc
  unfold Recov.bringIntoUse
  split
  · next ha =>
    obtain ⟨e, he, hs⟩ := List.any_eq_true.1 ha
    obtain ⟨i, hi⟩ := List.getElem?_of_mem he
    exact ⟨.refl SectorEntry.opened_refl _, fun _ hf => ⟨hl hf, i, e, hi, by simpa using hs⟩⟩
  · next ha =>
    have hnone : ∀ e ∈ r.store.table, e.state ≠ .active := by simpa using ha
    split
    · refine ⟨.of_fail SectorEntry.opened_refl hc, fun _ hf => ?_⟩
      rw [hfail] at hf
      cases hf
    · next i hn =>
      obtain ⟨hi, hs⟩ := Store.nextErased_spec hn
      have hR : ∀ e, r.store.table[i]? = some e → e.opened { SectorEntry.blank with state := .active, seq := r.store.lastSeq + 1 } :=
        fun e he => .inr ⟨Store.entry_of_getElem? he ▸ hs, _, rfl⟩
      obtain ⟨hm, hset, -⟩ := Recov.mark_marked (header := .marked (some (r.store.lastSeq + 1)) false false) SectorEntry.opened_refl hc hR
      dsimp only
      split
      · next hf => exact ⟨hm, fun _ h => absurd (hf.symm.trans h) (by decide)⟩
      · refine ⟨⟨by rw [hm.keeps], hm.failed, hm.table⟩, fun h8 hf => ?_⟩
        have ht := hset hf
        have hpos : ∀ (k : Nat) (e : SectorEntry), (r.store.table.set i { SectorEntry.blank with
            state := .active, seq := r.store.lastSeq + 1 })[k]? = some e → e.state = .active → i = k := fun k e he hk => by
          by_contra hik
          rw [List.getElem?_set_ne hik] at he
          exact hnone e (List.mem_of_getElem? he) hk
        refine ⟨fun k j e y he hk hy hj => ?_, i, { SectorEntry.blank with state := .active, seq := r.store.lastSeq + 1 }, ?_, rfl⟩
        · exact (hpos k e (ht ▸ he) hk).symm.trans (hpos j y (ht ▸ hy) hj)
        · exact (congrArg (·[i]?) ht).trans (List.getElem?_set_self (h8 ▸ hi))

/-- Step 4: a store with fewer than three sectors not RETIRED, or with no number left, fails (R115). -/
theorem Store.judgeUsable_marked {x : Store} (hc : x.calm) : x.Marked Eq x.judgeUsable
    ∧ (x.judgeUsable.failed = false → 3 ≤ x.judgeUsable.usable ∧ x.failed = false) := by
  unfold Store.judgeUsable
  split
  · refine ⟨.of_fail (fun _ => rfl) hc, fun hf => ?_⟩
    rw [Store.fail_of_calm hc] at hf
    cases hf
  · next h => exact ⟨.refl (fun _ => rfl) x, fun hf => ⟨by omega, hf⟩⟩

/-! ### The spare check at the end of recovery, and the flash's first operation -/

/-- A FULL sector may be pending erase, or ERASING (R105, R106). -/
def SectorEntry.doomed (e e' : SectorEntry) : Prop :=
  e' = e ∨ e.state = .full ∧ ((∃ b, e' = { e with pending := b }) ∨ e' = { e with state := .erasing, seq := 0, pending := false })

theorem SectorEntry.doomed_refl (e : SectorEntry) : e.doomed e := .inl rfl

/-- What the spare check and the flash's first operation leave of the store (R99, R105, R106). -/
structure Store.Spared (x : Store) (c : StoreCondition) (z : Store) : Prop where
  table : tableSteps SectorEntry.doomed x.table z.table
  next : z.next = x.next
  current : ∀ k, z.current k = x.current k
  failed : z.failed = false → x.failed = false
  condition : z.condition = c ∨ z.condition = .failed
  standing : (∀ re, z.op ≠ .pulse re) → tableSteps (fun e e' => ∃ b, e' = { e with pending := b }) x.table z.table

/-- The store is quiet, failed or not. -/
def Store.resting (x : Store) : Prop :=
  x.op = .idle ∧ x.queue = [] ∧ x.waiters = [] ∧ x.erase = none ∧ x.rotation = .none ∧ x.copies = []

/-- Only the store has changed, and the slot of STORE_STATE. -/
def State.StoreRaised (s t : State) : Prop :=
  s.StoreOnly t ∧ ∃ slots, t.link = { s.link with slots := slots } ∧ slots.get .laneReady = s.link.slots.get .laneReady

theorem State.StoreRaised.setStore (s : State) (x : Store) : s.StoreRaised (s.setStore x) := ⟨rfl, s.link.slots, rfl, rfl⟩

theorem State.StoreRaised.failCopies (s : State) : s.StoreRaised s.failCopies := by
  refine ⟨(State.StoreOnly.setStore s _).trans (State.StoreOnly.evalCondition _), ?_⟩
  unfold State.failCopies State.evalCondition State.raiseStore State.raise
  dsimp only
  split
  · exact ⟨s.link.slots, rfl, rfl⟩
  · split
    · exact ⟨_, rfl, Slots.get_set _ _ _ _⟩
    · exact ⟨s.link.slots, rfl, rfl⟩

section
variable {u : State} {x : Store} {c : StoreCondition} (hst : u.link.starting = false) (hx : x.resting)
include hst hx

/-- With nothing decided the flash has nothing to do. -/
theorem State.pump_of_notDecided (hu : u.store = { x with condition := c }) : u.StoreRaised u.pump ∧ x.Spared c u.pump.store := by
  obtain ⟨hop, hq, -, her, hro, hco⟩ := hx
  have hp : u.pump = u := by
    refine State.pump_of_choose1 hst (by rw [hu]; exact hop) (State.choose1_of_done ?_ ?_ ?_ ?_)
    · rw [hu]; exact hro
    · rw [hu]; exact hq
    · rw [hu]; exact hco
    · rw [hu]; exact her
  rw [hp, hu]
  exact ⟨⟨rfl, u.link.slots, rfl, rfl⟩, .refl SectorEntry.doomed_refl _, rfl, fun k => by cases k <;> rfl, id, .inl rfl,
    fun _ => .refl (fun e => ⟨e.pending, rfl⟩) _⟩

/-- An erase decided is pending, or begins, or fails for its copies. -/
theorem State.pump_of_spareErase {i : Nat} (hs : ¬ x.spared) (hi : x.oldestFullIs i)
    (hu : u.store = x.holdDecided x.holdUnexported i c) : u.StoreRaised u.pump ∧ x.Spared c u.pump.store := by
  obtain ⟨hop, hqu, hw, her, hro, hco⟩ := hx
  have hq : x.quiet := ⟨hop, hqu, hw, her, hro, hco, by simpa using fun h => hs (.inl h)⟩
  have hpend := Store.pending_of_oldestFull hs hi
  obtain ⟨e, he, hfull, -⟩ := hi
  have hei := Store.entry_of_getElem? he
  have hset : ∀ e', e.doomed e' → tableSteps SectorEntry.doomed x.table (x.table.set i e') := fun e' h =>
    .set SectorEntry.doomed_refl fun e₀ h₀ => by
      cases he.symm.trans h₀
      exact h
  cases hcp : x.copiesOwed i with
  | nil =>
    rw [State.pump_of_decided hst hq hu hcp]
    refine ⟨State.StoreRaised.setStore _ _, ?_⟩
    rw [State.setStore_store, hu, Store.holdDecided_eraseStep, hei]
    exact ⟨hset _ (.inr ⟨hfull, .inr rfl⟩), rfl, fun k => by cases k <;> rfl, id, .inl rfl, fun h => absurd rfl (h false)⟩
  | cons k rest =>
    by_cases hroom : x.room = 0
    · obtain ⟨hp, hf⟩ := State.pump_of_noRoom hst hq hu hpend hcp hroom
      rw [hp]
      refine ⟨State.StoreRaised.failCopies u, ?_⟩
      rw [hf]
      exact ⟨.refl SectorEntry.doomed_refl _, rfl, fun k => by cases k <;> rfl, nofun, .inr rfl,
        fun _ => .refl (fun e => ⟨e.pending, rfl⟩) _⟩
    · rw [State.pump_of_copyOwed hst hq hu hcp hroom]
      refine ⟨State.StoreRaised.setStore _ _, ?_⟩
      rw [State.setStore_store, hu, Store.holdDecided, hei]
      refine ⟨hset _ (.inr ⟨hfull, .inl ⟨true, rfl⟩⟩), rfl, fun k => by cases k <;> rfl, id, .inl rfl, fun _ => ?_⟩
      exact .set (fun e => ⟨e.pending, rfl⟩) fun e₀ h₀ => by
        cases he.symm.trans h₀
        exact ⟨true, rfl⟩

/-- What the spare check and the flash's first operation do after a recovery (R105, R106, R115). -/
theorem State.pump_spared (hu : u.store = { x.spareCheck with condition := c }) : u.StoreRaised u.pump ∧ x.Spared c u.pump.store := by
  have hkept : x.spared ∨ (∀ e ∈ x.table, e.state ≠ .full) ∨ (∃ i, x.oldestFullIs i ∧ x.holdUnexported = true ∧ (x.entry i).released = false) →
      u.StoreRaised u.pump ∧ x.Spared c u.pump.store := fun h => by
    rw [Store.spareCheck_of_kept h] at hu
    exact State.pump_of_notDecided hst hx hu
  by_cases hs : x.spared
  · exact hkept (.inl hs)
  · cases ho : x.oldestFull with
    | none => exact hkept (.inr (.inl (Store.oldestFull_eq_none_iff.1 ho)))
    | some i =>
      have hi := Store.oldestFull_eq_some_iff.1 ho
      by_cases hk : x.holdUnexported = true ∧ (x.entry i).released = false
      · exact hkept (.inr (.inr ⟨i, hi, hk⟩))
      · rw [Store.spareCheck_of_erase hs hi hk] at hu
        exact State.pump_of_spareErase hst hx hs hi hu

end

/-- The entry of a sector before the marks of recovery (R113, R115). -/
def startsAs (flash : List FlashSector) (scan : Scan) (i : Nat) (e : SectorEntry) : Prop :=
  ∃ f, (scanFound flash scan)[i]? = some f
    ∧ ((∃ g, keptAt flash scan i = some g ∧ e = g.entry) ∨ keptAt flash scan i = none ∧ e = f.erasedEntry)

/-- A sector brought into use, or marked FULL, by recovery. -/
def SectorEntry.marked (e e' : SectorEntry) : Prop := ∃ e₁, e.filled e₁ ∧ e₁.opened e'

/-- The store of a recovery, before the spare check (R113 to R115). -/
structure RecoveredStore (flash : List FlashSector) (scan : Scan) (y : Store) : Prop where
  resting : y.resting
  next : y.next = nextNumber (settled (scanFound flash scan))
  current : ∀ c, y.current c = chosenCal c (recordsOf (settled (scanFound flash scan)))
  length : y.table.length = (scanFound flash scan).length
  table : ∀ i e', y.table[i]? = some e' → ∃ e, startsAs flash scan i e ∧ e.marked e'
  active : y.table.length = 8 → y.failed = false → y.oneActive ∧ 3 ≤ y.usable

theorem recover_recovered {x : Store} (flash : List FlashSector) (scan : Scan) (hx : x.quiet) :
    ∃ y, RecoveredStore flash scan y ∧ (recover x flash scan).store = y.spareCheck := by
  obtain ⟨hop, hq, hw, her, hro, hco, -⟩ := hx
  obtain ⟨r, hr, he⟩ := recover_store x flash scan
  have hc : r.store.calm := ⟨hr.rotation.trans hro, hr.copies.trans hco⟩
  obtain ⟨h₁, hlone⟩ := Recov.chooseActive_marked hc
  obtain ⟨h₂, hone⟩ := Recov.bringIntoUse_marked (h₁.calm hc) hlone
  obtain ⟨h₃, husable⟩ := Store.judgeUsable_marked (h₂.calm (h₁.calm hc))
  have h₁₂ := h₁.trans (T := SectorEntry.marked) (fun _ b _ h k => ⟨b, h, k⟩) h₂
  have h := h₁₂.trans (S := Eq) (T := SectorEntry.marked) (fun _ _ _ h k => k ▸ h) h₃
  refine ⟨_, ⟨⟨?_, ?_, ?_, ?_, ?_, ?_⟩, ?_, fun c => ?_, h.table.1.trans hr.length, fun i e' he' => ?_, fun hl hf => ?_⟩, he⟩
  · rw [h.keeps]; exact hr.op.trans hop
  · rw [h.keeps]; exact hr.queue.trans hq
  · rw [h.keeps]; exact hr.waiters.trans hw
  · rw [h.keeps]; exact hr.erase.trans her
  · rw [h.keeps]; exact hr.rotation.trans hro
  · rw [h.keeps]; exact hr.copies.trans hco
  · rw [h.keeps]; exact hr.next
  · rw [← hr.current c, h.keeps]
    cases c <;> rfl
  · obtain ⟨e, he, hm⟩ := h.table.2 i e' he'
    exact ⟨e, (hr.table i e).1 he, hm⟩
  · obtain ⟨hus, hf₂⟩ := husable hf
    refine ⟨?_, hus⟩
    have hl₀ : r.chooseActive.store.table.length = 8 := by rw [← hl, h₃.table.1, h₂.table.1]
    have ht : r.chooseActive.bringIntoUse.store.judgeUsable.table = r.chooseActive.bringIntoUse.store.table := by
      have := h₃.table.map_eq id fun _ _ h => h.symm
      simpa using this
    have ho := hone hl₀ hf₂
    unfold Store.oneActive Store.loneActive at ho ⊢
    rwa [ht]

/-! ### What becomes of a sector -/

theorem Found.erasedEntry_erased {f : Found} (h : f.erasedEntry.state = .erased) : f.erasedEntry = SectorEntry.blank := by
  unfold Found.erasedEntry at *
  split at h
  · next hc => rw [if_pos hc]
  · cases h

theorem startsAs_erased {flash : List FlashSector} {scan : Scan} {i : Nat} {e : SectorEntry} (h : startsAs flash scan i e)
    (he : e.state = .erased) : e = SectorEntry.blank := by
  obtain ⟨f, -, ⟨g, -, rfl⟩ | ⟨-, rfl⟩⟩ := h
  · unfold Found.entry at he
    dsimp only at he
    split at he <;> cases he
  · exact Found.erasedEntry_erased he

/-- The slots of a sector are what recovery found, whatever marks and erases it decides (R115; log entry 44). -/
theorem SectorEntry.recovered_slots {e e₂ e₃ : SectorEntry} (hm : e.marked e₂) (hd : e₂.doomed e₃)
    (hb : e.state = .erased → e = SectorEntry.blank) : e₃.first = e.first ∧ e₃.used = e.used ∧ e₃.released = e.released := by
  obtain ⟨e₁, hf, ho⟩ := hm
  have h₁ : e₁.first = e.first ∧ e₁.used = e.used ∧ e₁.released = e.released ∧ (e₁.state = .erased → e₁ = e) := by
    rcases hf with rfl | ⟨-, rfl⟩
    · exact ⟨rfl, rfl, rfl, fun _ => rfl⟩
    · exact ⟨rfl, rfl, rfl, nofun⟩
  obtain ⟨hf₁, hu₁, hr₁, her⟩ := h₁
  have h₂ : e₂.first = e.first ∧ e₂.used = e.used ∧ e₂.released = e.released := by
    rcases ho with rfl | ⟨hs, q, rfl⟩
    · exact ⟨hf₁, hu₁, hr₁⟩
    · have h := her hs
      rw [hb (h ▸ hs)]
      exact ⟨rfl, rfl, rfl⟩
  rcases hd with rfl | ⟨-, ⟨b, rfl⟩ | rfl⟩
  · exact h₂
  · exact h₂
  · exact h₂

/-- The states that a sector may take in a recovery (R115). -/
theorem SectorEntry.recovered_state {e e₂ e₃ : SectorEntry} (hm : e.marked e₂) (hd : e₂.doomed e₃) :
    (e.state = .active → e₃.state = .active ∨ e₃.state = .full ∨ e₃.state = .erasing)
      ∧ (e.state = .full → e₃.state = .full ∨ e₃.state = .erasing)
      ∧ (e.state = .erased → e₃.state = .erased ∨ e₃.state = .active) ∧ (e.state = .retired → e₃.state = .retired) := by
  obtain ⟨e₁, hf, ho⟩ := hm
  have h₁ : e₁.state = e.state ∨ e.state = .active ∧ e₁.state = .full := by
    rcases hf with rfl | ⟨h, rfl⟩
    · exact .inl rfl
    · exact .inr ⟨h, rfl⟩
  have h₂ : e₂.state = e₁.state ∨ e₁.state = .erased ∧ e₂.state = .active := by
    rcases ho with rfl | ⟨h, q, rfl⟩
    · exact .inl rfl
    · exact .inr ⟨h, rfl⟩
  have h₃ : e₃.state = e₂.state ∨ e₂.state = .full ∧ e₃.state = .erasing := by
    rcases hd with rfl | ⟨h, ⟨b, rfl⟩ | rfl⟩
    · exact .inl rfl
    · exact .inl rfl
    · exact .inr ⟨h, rfl⟩
  grind

/-- The sequence number of a sector in use stands (R115). -/
theorem SectorEntry.recovered_seq {e e₂ e₃ : SectorEntry} {b : Bool} (hm : e.marked e₂) (hd : e₃ = { e₂ with pending := b })
    (hs : e.state = .active ∨ e.state = .full) : e₃.seq = e.seq ∧ (e₃.state = .active ∨ e₃.state = .full) := by
  obtain ⟨e₁, hf, ho⟩ := hm
  subst hd
  have h₁ : e₁.seq = e.seq ∧ (e₁.state = .active ∨ e₁.state = .full) := by
    rcases hf with rfl | ⟨-, rfl⟩
    · exact ⟨rfl, hs⟩
    · exact ⟨rfl, .inr rfl⟩
  rcases ho with rfl | ⟨her, -⟩
  · exact h₁
  · rw [her] at h₁
    exact absurd h₁.2 (by decide)

section
variable {flash : List FlashSector} {scan : Scan} {y z : Store} {c : StoreCondition} (hy : RecoveredStore flash scan y)
  (hz : y.Spared c z)
include hy hz

/-- Each entry of the table after a recovery comes from what the scan gave at its position. -/
theorem RecoveredStore.entry {i : Nat} {e : SectorEntry} (he : z.table[i]? = some e) :
    ∃ e₀ e₂, startsAs flash scan i e₀ ∧ e₀.marked e₂ ∧ e₂.doomed e ∧ e.first = e₀.first ∧ e.used = e₀.used ∧ e.released = e₀.released := by
  obtain ⟨e₂, h₂, hd⟩ := hz.table.2 i e he
  obtain ⟨e₀, h₀, hm⟩ := hy.table i e₂ h₂
  exact ⟨e₀, e₂, h₀, hm, hd, SectorEntry.recovered_slots hm hd (startsAs_erased h₀)⟩

theorem RecoveredStore.length_eq : z.table.length = (scanFound flash scan).length := hz.table.1.trans hy.length

/-- A kept sector in use, with its entry after the recovery. -/
theorem RecoveredStore.kept {g : Found} {i : Nat} (hg : (g, i) ∈ settled (scanFound flash scan)) (hk : g.kept = true) :
    ∃ e e₂, z.table[i]? = some e ∧ g.entry.marked e₂ ∧ e₂.doomed e ∧ y.table[i]? = some e₂ := by
  obtain ⟨f, q, hf, -, -⟩ := settled_spec hg
  have hi : i < z.table.length := by
    rw [hy.length_eq hz]
    exact (List.getElem?_eq_some_iff.1 hf).1
  obtain ⟨e₂, h₂, hd⟩ := hz.table.2 i z.table[i] (List.getElem?_eq_getElem hi)
  obtain ⟨e₀, ⟨f', -, h₀⟩, hm⟩ := hy.table i e₂ h₂
  rw [keptAt_eq_some.2 ⟨hg, hk⟩] at h₀
  rcases h₀ with ⟨g', hg', rfl⟩ | ⟨hn, -⟩
  · cases hg'
    exact ⟨_, e₂, List.getElem?_eq_getElem hi, hm, hd, h₂⟩
  · cases hn

end

theorem Found.entry_state (g : Found) : g.entry.state = .active ∨ g.entry.state = .full := by
  unfold Found.entry
  dsimp only
  split
  · exact .inr rfl
  · exact .inl rfl

theorem Found.entry_first {g : Found} {f : Nat} : g.entry.first = some f ↔ g.slots ≠ [] ∧ g.first = some f := by
  unfold Found.entry
  dsimp only
  split <;> simp_all

theorem Found.erasedEntry_first (f : Found) : f.erasedEntry.first = none ∧ f.erasedEntry.used = 0 := by
  unfold Found.erasedEntry
  split <;> exact ⟨rfl, rfl⟩

/-- An entry with a first number is that of a kept sector (R113). -/
theorem startsAs_first {flash : List FlashSector} {scan : Scan} {i f : Nat} {e : SectorEntry} (h : startsAs flash scan i e)
    (hf : e.first = some f) : ∃ g, (g, i) ∈ settled (scanFound flash scan) ∧ g.kept = true ∧ e = g.entry ∧ g.slots ≠ [] ∧ g.first = some f := by
  obtain ⟨f', -, ⟨g, hg, rfl⟩ | ⟨-, rfl⟩⟩ := h
  · obtain ⟨hm, hk⟩ := keptAt_eq_some.1 hg
    obtain ⟨hs, h₁⟩ := Found.entry_first.1 hf
    exact ⟨g, hm, hk, rfl, hs, h₁⟩
  · rw [(Found.erasedEntry_first f').1] at hf
    cases hf

/-- The slots of a sector in use, and how they read, are what the scan met at its position. -/
theorem settled_found {flash : List FlashSector} {scan : Scan} {g : Found} {i : Nat} (h : (g, i) ∈ settled (scanFound flash scan)) :
    ∃ x z, flash[i]? = some x ∧ scan.sectors[i]? = some z ∧ (Found.of x z).refines g ∧ g.slots = x.slots ∧ g.health = z.slots := by
  obtain ⟨f, q, hf, -, hr⟩ := settled_spec h
  obtain ⟨x, z, hx, hz, rfl⟩ := scanFound_getElem?.1 hf
  exact ⟨x, z, hx, hz, hr, by rw [hr.1]; rfl, by rw [hr.1]; rfl⟩

theorem scanHealth_of_sector {scan : Scan} {i : Nat} {z : SectorScan} (h : scan.sectors[i]? = some z) (k : Nat) :
    scanHealth scan i k = z.slots.getD k .clean := by
  rw [scanHealth, h]
  rfl

/-- The records that the scan reads are those that recovery takes (R114). -/
theorem scanned_iff {s t : State} {scan : Scan} {y : Store} {c : StoreCondition} (hy : RecoveredStore s.flash scan y)
    (hz : y.Spared c t.store) {n : Nat} {r : RecordBody} :
    s.scanned t scan n r ↔ (n, r) ∈ recordsOf (settled (scanFound s.flash scan)) := by
  rw [mem_recordsOf]
  constructor
  · rintro ⟨i, k, e, f, x, he, hf, hx, hu, hn, hh⟩
    obtain ⟨e₀, e₂, h₀, -, -, hfirst, -, -⟩ := hy.entry hz he
    obtain ⟨g, hg, -, -, -, hgf⟩ := startsAs_first h₀ (hfirst ▸ hf)
    obtain ⟨x', z, hx', hz', -, hs, hhealth⟩ := settled_found hg
    cases hx.symm.trans hx'
    refine ⟨g, i, f, k, hg, hgf, by rw [hs]; exact hu, hn, ?_⟩
    rwa [hhealth, ← scanHealth_of_sector hz']
  · rintro ⟨g, i, f, k, hg, hgf, hu, hn, hh⟩
    have hk : g.kept = true := by simp [Found.kept, hgf]
    obtain ⟨e, e₂, he, hm, hd, -⟩ := hy.kept hz hg hk
    obtain ⟨x, z, hx, hz', -, hs, hhealth⟩ := settled_found hg
    have hne : g.slots ≠ [] := fun h => by rw [h] at hu; cases hu
    obtain ⟨hfirst, -, -⟩ := SectorEntry.recovered_slots hm hd fun h => by
      rcases g.entry_state with h' | h' <;> rw [h'] at h <;> cases h
    refine ⟨i, k, e, f, x, he, hfirst.trans (Found.entry_first.2 ⟨hne, hgf⟩), hx, by rw [← hs]; exact hu, hn, ?_⟩
    rwa [scanHealth_of_sector hz', ← hhealth]

/-! ### The sectors after a recovery -/

/-- The first slot that reads OK or CORRECTED with a number fixes the first number of its sector (R113). -/
theorem fixFirst_of_readable {n : Nat} {r : RecordBody} (hn : 0 < n) : ∀ {us : List UsedSlot} {hs : List Health} {k m : Nat},
    us[k]? = some (.record n r) → hs.getD k .clean ≠ .uncorrectable →
      (∀ j i y, j < k → us[j]? = some (.record i y) → hs.getD j .clean = .uncorrectable) → fixFirst m us hs = some (n - (m + k))
  | [], hs, k, m, hu, _, _ => by cases hu
  | u :: us, hs, k, m, hu, hh, hb => by
    have hhead : hs.headD .clean = hs.getD 0 .clean := by cases hs <;> rfl
    have htail : ∀ j, hs.tail.getD j .clean = hs.getD (j + 1) .clean := fun j => by cases hs <;> simp
    rw [fixFirst, hhead]
    cases k with
    | zero =>
      cases Option.some.inj hu
      have hr : readable (.record n r) (hs.getD 0 .clean) = some (n, r) := by
        unfold readable
        cases h : hs.getD 0 .clean with
        | clean => rfl
        | corrected => rfl
        | uncorrectable => exact absurd h hh
      rw [hr]
      exact if_neg (Nat.pos_iff_ne_zero.1 hn)
    | succ k =>
      have hr : readable u (hs.getD 0 .clean) = none := by
        cases u with
        | cleared => rfl
        | record i y =>
          rw [hb 0 i y (Nat.succ_pos _) rfl]
          rfl
      rw [hr]
      have ih := @fixFirst_of_readable n r hn us hs.tail k (m + 1) hu (by rwa [htail])
        fun j i y hj hy => (htail j).trans (hb (j + 1) i y (Nat.succ_lt_succ hj) hy)
      rw [show m + (k + 1) = m + 1 + k by omega]
      exact ih

theorem Found.of_header {scan : Scan} {i : Nat} {x : FlashSector} {z : SectorScan} (h : scan.sectors[i]? = some z) :
    (Found.of x z).header = scanHeader scan i x := by
  rw [scanHeader, h]
  rfl

/-- A sector whose header reads in use is one of those in use (R113). -/
theorem settled_of_seq {l : List Found} {i q : Nat} {f : Found} (hf : l[i]? = some f) (hq : f.seq = some q) :
    ∃ g, (g, i) ∈ settled l ∧ f.refines g := by
  have hi := mem_inUseOrder.2 ⟨f, q, hf, hq⟩
  rw [← settled_positions, List.mem_map] at hi
  obtain ⟨⟨g, i⟩, hg, rfl⟩ := hi
  obtain ⟨f', -, hf', -, hr⟩ := settled_spec hg
  cases hf.symm.trans hf'
  exact ⟨g, hg, hr⟩

section
variable {flash : List FlashSector} {scan : Scan} {y z : Store} {c : StoreCondition} (hy : RecoveredStore flash scan y)
  (hz : y.Spared c z) {i : Nat} {x : FlashSector} {w : SectorScan} {e : SectorEntry}
  (hx : flash[i]? = some x) (hw : scan.sectors[i]? = some w) (he : z.table[i]? = some e)
include hy hz hx hw he

/-- A sector in use whose slots fix its first number is kept (R113, R115). -/
theorem recovered_inUse {q k n : Nat} {full released : Bool} {r : RecordBody}
    (hh : scanHeader scan i x = .marked (some q) full released) (hu : x.slots[k]? = some (.record n r)) (hn : 0 < n)
    (hread : scanHealth scan i k ≠ .uncorrectable)
    (hbefore : ∀ j m y, j < k → x.slots[j]? = some (.record m y) → scanHealth scan i j = .uncorrectable) :
    e.first = some (n - k) ∧ e.used = x.slots.length ∧ e.released = released
      ∧ (full = true → e.state = .full ∨ e.state = .erasing) ∧ (full = false → e.state ≠ .erased ∧ e.state ≠ .retired) := by
  have hF : (scanFound flash scan)[i]? = some (Found.of x w) := scanFound_getElem?.2 ⟨x, w, hx, hw, rfl⟩
  have hhF := (Found.of_header (x := x) hw).trans hh
  obtain ⟨g, hg, hr⟩ := settled_of_seq hF (q := q) (by rw [Found.seq, hhF])
  have hfirst : g.first = some (n - k) := by
    refine hr.2 _ ?_
    have := fixFirst_of_readable (m := 0) hn hu (by rwa [← scanHealth_of_sector hw])
      fun j m y hj hy => (scanHealth_of_sector hw j).symm.trans (hbefore j m y hj hy)
    rwa [Nat.zero_add] at this
  obtain ⟨e', e₂, he', hm, hd, -⟩ := hy.kept hz hg (by simp [Found.kept, hfirst])
  cases he.symm.trans he'
  have hgh : g.header = .marked (some q) full released := by rw [hr.1]; exact hhF
  have hgs : g.slots = x.slots := by rw [hr.1]; rfl
  have hstate : g.entry.state = if full = true then .full else .active := by
    rw [Found.entry, Found.isFull, hgh]
  have hne : g.slots ≠ [] := fun h => by rw [← hgs, h] at hu; cases hu
  obtain ⟨h₁, h₂, h₃⟩ := SectorEntry.recovered_slots hm hd fun h => by
    rcases g.entry_state with h' | h' <;> rw [h'] at h <;> cases h
  obtain ⟨hactive, hfull, -, -⟩ := SectorEntry.recovered_state hm hd
  refine ⟨h₁.trans (Found.entry_first.2 ⟨hne, hfirst⟩), h₂.trans (congrArg List.length hgs), h₃.trans ?_, fun hf => ?_, fun hf => ?_⟩
  · rw [Found.entry, Found.isReleased, hgh]
  · rw [hf] at hstate
    exact hfull hstate
  · rw [hf] at hstate
    rcases hactive hstate with h | h | h <;> rw [h] <;> decide

/-- A sector that is not in use is ERASED, in use anew, or RETIRED (R113, R115). -/
theorem recovered_notInUse (hh : ∀ q full released, scanHeader scan i x ≠ .marked (some q) full released) :
    e.first = none ∧ e.used = 0
      ∧ (scanHeader scan i x = .blank ∧ w.blankOk = true ∧ x.slots = [] ∨ w.eraseOk = true → e.state = .erased ∨ e.state = .active)
      ∧ (w.eraseOk = false → ¬ (scanHeader scan i x = .blank ∧ w.blankOk = true ∧ x.slots = []) → e.state = .retired) := by
  have hhF := Found.of_header (x := x) hw
  obtain ⟨e₀, e₂, h₀, hm, hd, hfirst, hused, -⟩ := hy.entry hz he
  obtain ⟨-, -, herased, hretired⟩ := SectorEntry.recovered_state hm hd
  obtain ⟨F, hF, h₀⟩ := h₀
  obtain ⟨x', w', hx', hw', rfl⟩ := scanFound_getElem?.1 hF
  cases hx.symm.trans hx'
  cases hw.symm.trans hw'
  rcases h₀ with ⟨g, hg, -⟩ | ⟨-, rfl⟩
  · obtain ⟨f, q, hf, hq, -⟩ := settled_spec (keptAt_eq_some.1 hg).1
    cases hF.symm.trans hf
    unfold Found.seq at hq
    split at hq
    · next h => exact absurd (hhF.symm.trans h) (hh _ _ _)
    · cases hq
  · have hblank : ((Found.of x w).header = .blank ∧ (Found.of x w).blankOk = true) ↔
        scanHeader scan i x = .blank ∧ w.blankOk = true ∧ x.slots = [] := by
      rw [hhF]
      simp [Found.of]
    obtain ⟨h₁, h₂⟩ := (Found.of x w).erasedEntry_first
    have herase : (Found.of x w).eraseOk = w.eraseOk := rfl
    refine ⟨hfirst.trans h₁, hused.trans h₂, fun h => herased ?_, fun hE hB => hretired ?_⟩
    · rw [Found.erasedEntry, herase, if_pos (h.imp hblank.2 id)]
      rfl
    · rw [Found.erasedEntry, herase, if_neg (not_or.2 ⟨mt hblank.1 hB, by rw [hE]; decide⟩)]

end

/-- A test that holds at one position counts once. -/
theorem countP_eq_one {α : Type} {p : α → Bool} : ∀ {l : List α} {i : Nat} {e : α}, l[i]? = some e → p e = true →
    (∀ j y, l[j]? = some y → p y = true → j = i) → l.countP p = 1
  | [], i, e, h, _, _ => by cases h
  | a :: l, 0, e, h, he, hu => by
    cases Option.some.inj h
    have hl : l.countP p = 0 := List.countP_eq_zero.2 fun y hy hp => by
      obtain ⟨j, hj⟩ := List.getElem?_of_mem hy
      exact absurd (hu (j + 1) y hj hp) (Nat.succ_ne_zero j)
    rw [List.countP_cons, hl, if_pos he]
  | a :: l, i + 1, e, h, he, hu => by
    have ha : ¬ p a = true := fun hp => absurd (hu 0 a rfl hp) (Nat.succ_ne_zero i).symm
    rw [List.countP_cons, if_neg ha, countP_eq_one (i := i) h he fun j y hj hp => Nat.succ.inj (hu (j + 1) y hj hp)]

section
variable {flash : List FlashSector} {scan : Scan} {y z : Store} {c : StoreCondition} (hy : RecoveredStore flash scan y)
  (hz : y.Spared c z)
include hy hz

/-- A store of eight sectors that has not failed has one ACTIVE sector, and three that are not RETIRED (R115). -/
theorem recovered_counts (hl : flash.length = 8) (hs : scan.sectors.length = 8) : z.table.length = 8 ∧ (z.failed = false →
    z.table.countP (fun e => e.state == .active) = 1 ∧ 3 ≤ z.table.countP fun e => e.state != .retired) := by
  have hfound : (scanFound flash scan).length = 8 := by simp [scanFound, hl, hs]
  refine ⟨(hy.length_eq hz).trans hfound, fun hf => ?_⟩
  obtain ⟨⟨hlone, i, e, he, ha⟩, husable⟩ := hy.active (hy.length.trans hfound) (hz.failed hf)
  have hcount : ∀ p : SectorEntry → Bool, (∀ a b, SectorEntry.doomed a b → p b = p a) → z.table.countP p = y.table.countP p :=
    fun p hp => by
      have hm := congrArg (List.countP id) (hz.table.map_eq p hp)
      rwa [List.countP_map, List.countP_map] at hm
  rw [hcount, hcount]
  · exact ⟨countP_eq_one he (by rw [ha]; rfl) fun j w hj hw => hlone j i w e hj (by simpa using hw) he ha, husable⟩
  · rintro a b (rfl | ⟨h, ⟨_, rfl⟩ | rfl⟩)
    · rfl
    · rfl
    · rw [h]; rfl
  · rintro a b (rfl | ⟨h, ⟨_, rfl⟩ | rfl⟩)
    · rfl
    · rfl
    · rw [h]; rfl

/-- The next number follows the newest sector in use (R114). -/
theorem recovered_next (hop : ∀ re, z.op ≠ .pulse re) {i f : Nat} {e : SectorEntry} (he : z.table[i]? = some e) (hf : e.first = some f)
    (hmax : ∀ (j : Nat) (w : SectorEntry), j ≠ i → z.table[j]? = some w → w.inUse = true → 0 < w.used → w.seq < e.seq) :
    z.next = f + e.used := by
  have hstand : ∀ {k : Nat} {w : SectorEntry} {g : Found}, z.table[k]? = some w → (g, k) ∈ settled (scanFound flash scan) →
      g.kept = true → w.seq = g.seq.getD 0 ∧ w.inUse = true ∧ w.used = g.slots.length := fun {k w g} hw hg hk => by
    obtain ⟨w', w₂, hw', hm, hd, hw₂⟩ := hy.kept hz hg hk
    cases hw.symm.trans hw'
    obtain ⟨w₂', hw₂', b, hb⟩ := (hz.standing hop).2 k w hw
    cases hw₂.symm.trans hw₂'
    obtain ⟨hseq, hstate⟩ := SectorEntry.recovered_seq hm hb g.entry_state
    obtain ⟨-, hused, -⟩ := SectorEntry.recovered_slots hm hd fun h => by
      rcases g.entry_state with h' | h' <;> rw [h'] at h <;> cases h
    exact ⟨hseq, by rcases hstate with h | h <;> rw [SectorEntry.inUse, h] <;> rfl, hused⟩
  obtain ⟨e₀, e₂, h₀, hm, hd, hfirst, hused, -⟩ := hy.entry hz he
  obtain ⟨g, hg, hk, rfl, hne, hgf⟩ := startsAs_first h₀ (hfirst ▸ hf)
  rw [hz.next, hy.next, nextNumber]
  have hmem : (g, i) ∈ (settled (scanFound flash scan)).filter fun f => f.1.kept && !f.1.slots.isEmpty :=
    List.mem_filter.2 ⟨hg, by simpa [hk] using hne⟩
  have hsorted := (settled_sorted (scanFound flash scan)).filter fun f => f.1.kept && !f.1.slots.isEmpty
  have hnodup : ((settled (scanFound flash scan)).map Prod.snd).Nodup := by
    rw [settled_positions]
    exact inUseOrder_nodup _
  have hlast : ((settled (scanFound flash scan)).filter fun f => f.1.kept && !f.1.slots.isEmpty).getLast? = some (g, i) := by
    rcases List.eq_nil_or_concat' ((settled (scanFound flash scan)).filter fun f => f.1.kept && !f.1.slots.isEmpty) with hnil | ⟨l, ⟨g', i'⟩, hl⟩
    · rw [hnil] at hmem
      cases hmem
    · rw [hl] at hmem hsorted
      rw [hl, List.getLast?_concat]
      rcases List.mem_append.1 hmem with hin | hin
      · have hg' := List.mem_filter.1 (hl ▸ List.mem_append_right l List.mem_cons_self :
          (g', i') ∈ (settled (scanFound flash scan)).filter fun f => f.1.kept && !f.1.slots.isEmpty)
        obtain ⟨hg', hk'⟩ := hg'
        obtain ⟨hk', hne'⟩ := Bool.and_eq_true_iff.1 hk'
        by_cases hi : i' = i
        · exact congrArg some (List.inj_on_of_nodup_map hnodup hg' hg hi)
        · obtain ⟨w, w₂, hw, -, -, -⟩ := hy.kept hz hg' hk'
          obtain ⟨hseq, hin', hused'⟩ := hstand hw hg' hk'
          obtain ⟨F, q, -, hq, hr⟩ := settled_spec hg
          obtain ⟨F', q', -, hq', hr'⟩ := settled_spec hg'
          have hle := (List.pairwise_append.1 hsorted).2.2 (g, i) hin (g', i') List.mem_cons_self q q' (hr.seq.trans hq) (hr'.seq.trans hq')
          have hlt := hmax i' w hi hw hin' (by rw [hused']; exact List.length_pos_iff.2 (by simpa using hne'))
          rw [hseq, (hstand he hg hk).1, hr.seq, hr'.seq, hq, hq'] at hlt
          exact absurd hlt (Nat.not_lt.2 hle)
      · exact congrArg some (List.mem_singleton.1 hin).symm
  rw [hlast, (hstand he hg hk).2.2]
  simp [hgf]

end

/-! ### The calibrations at the end of recovery -/

/-- Where a channel stands: its state, the state to which it resumes, and its zeros. -/
structure Standing where
  state : ChState
  resume : ChState
  zo : Int
  zoInit : Int

def Channel.standing (x : Channel) : Standing := { state := x.state, resume := x.resume, zo := x.zo, zoInit := x.zoInit }

/-- A channel that has taken a calibration goes to NO_ZERO, in FAULT by its resume state, with both zeros 0 (R21). -/
def Standing.uprooted (x : Standing) : Standing :=
  if x.state = .fault then { state := .fault, resume := .noZero, zo := 0, zoInit := 0 }
  else { state := .noZero, resume := x.resume, zo := 0, zoInit := 0 }

theorem Channel.moved_noZero (x : Channel) (nChanged : Bool) : (x.moved .noZero nChanged).standing = x.standing.uprooted := by
  have hx : x.standing.state = x.state := rfl
  unfold Channel.moved Standing.uprooted
  dsimp only
  rw [hx]
  by_cases hf : x.state = .fault
  · rw [if_pos hf, if_pos hf]
    (repeat' split) <;> simp_all [Channel.standing]
  · rw [if_neg hf, if_neg hf]
    (repeat' split) <;> simp_all [Channel.standing]

theorem State.raiseWeight_standing (s : State) (c d : Ch) : ((s.raiseWeight c).ch d).standing = (s.ch d).standing := by
  have h := congrArg Channel.standing (s.raiseWeight_unreported c d)
  exact h

theorem State.setTare_standing (s : State) (mg : Int) (d : Ch) : ((s.setTare mg).ch d).standing = (s.ch d).standing := by
  have h := congrArg Channel.standing (s.setTare_unreported mg d)
  exact h

theorem State.moveChannel_standing (s : State) (c : Ch) (target : ChState) (nChanged : Bool) (d : Ch) :
    ((s.moveChannel c target nChanged).ch d).standing =
      if c = d then ((s.ch d).moved target nChanged).standing else (s.ch d).standing := by
  have hmove : ((s.setCh c ((s.ch c).moved target nChanged)).ch d).standing =
      if c = d then ((s.ch d).moved target nChanged).standing else (s.ch d).standing := by
    split
    · next h => rw [← h, State.setCh_ch]
    · next h => rw [State.setCh_ch_of_ne s (Ne.symm h)]
  rw [← hmove]
  unfold State.moveChannel
  dsimp only
  repeat' split
  all_goals simp only [State.raiseWeight_standing, State.setTare_standing]

/-- What recovery may give a channel anew: its calibration in force, its counter, and where it stands. -/
structure CalView where
  inForce : Option Calibration
  counter : Nat
  standing : Standing

def State.calView (s : State) (c : Ch) : CalView :=
  { inForce := s.inForce c, counter := s.cal.counter c, standing := (s.ch c).standing }

/-- A channel with a current CAL record takes the calibration and the counter of it (R61). -/
def CalView.offered (v : CalView) : Option CurrentCal → CalView
  | some k => { inForce := some k.fields.cal, counter := k.fields.counter, standing := v.standing.uprooted }
  | none => v

theorem State.inForce_of_cal {s t : State} (h : t.cal = s.cal) (c : Ch) : t.inForce c = s.inForce c := by
  unfold State.inForce
  rw [h]

theorem State.calView_of_eq {s t : State} {c : Ch} (hk : t.cal = s.cal) (hc : t.ch c = s.ch c) : t.calView c = s.calView c := by
  rw [State.calView, State.inForce_of_cal hk, hk, hc]
  rfl

theorem State.setCal_install_view (s : State) (c : Ch) (counter : Nat) (cal : Calibration) (d : Ch) :
    (s.setCal (s.cal.install c counter cal)).inForce d = (if c = d then some cal else s.inForce d)
      ∧ (s.cal.install c counter cal).counter d = if c = d then counter else s.cal.counter d := by
  cases c <;> cases d <;> exact ⟨rfl, rfl⟩

theorem State.installCal_view (s : State) (c d : Ch) :
    (s.installCal c).calView d = if c = d then (s.calView d).offered (s.store.current d) else s.calView d := by
  unfold State.installCal
  split
  · next h =>
    split
    · next hcd => rw [← hcd, h]; rfl
    · rfl
  · next k h =>
    obtain ⟨hi, hn⟩ := s.setCal_install_view c k.fields.counter k.fields.cal d
    have hcal : ∀ b, ((s.setCal (s.cal.install c k.fields.counter k.fields.cal)).moveChannel c .noZero b).cal =
        s.cal.install c k.fields.counter k.fields.cal := fun b => by simp
    rw [State.calView, State.moveChannel_standing, State.setCal_ch, hcal, hn, Channel.moved_noZero,
      State.inForce_of_cal (t := State.moveChannel ..) (s := s.setCal (s.cal.install c k.fields.counter k.fields.cal)) (hcal _), hi]
    split
    · next hcd => rw [← hcd, h]; rfl
    · rfl

/-- Both channels take what recovery offers them (R61). -/
theorem State.installCals_view (s : State) (c : Ch) :
    ((s.installCal .p).installCal .b).calView c = (s.calView c).offered (s.store.current c) := by
  have hs : (s.installCal .p).store = s.store := by simp
  rw [State.installCal_view, State.installCal_view, hs]
  cases c <;> rfl

/-! ### What the end of recovery leaves alone -/

/-- Only what recovery names has changed (R61, R64, R113 to R115). -/
def State.RecoveryOnly (s t : State) : Prop :=
  t = { s with link := t.link, chP := t.chP, chB := t.chB, cal := t.cal, txn := { s.txn with number := t.txn.number }
               pw := t.pw, store := t.store, flash := t.flash }

namespace State.RecoveryOnly
variable {s t u : State}

theorem refl (s : State) : s.RecoveryOnly s := rfl

theorem trans (h : s.RecoveryOnly t) (k : t.RecoveryOnly u) : s.RecoveryOnly u := by
  unfold State.RecoveryOnly at *
  rw [k, h]

theorem setCh (h : s.RecoveryOnly t) (c : Ch) (v : Channel) : s.RecoveryOnly (t.setCh c v) := h.trans (by cases c <;> rfl)

theorem raise (h : s.RecoveryOnly t) (k : Slot) (body : List Byte) : s.RecoveryOnly (t.raise k body) := by
  refine h.trans ?_
  unfold State.raise
  split <;> rfl

theorem ite {c : Prop} [Decidable c] (ht : s.RecoveryOnly t) (hu : s.RecoveryOnly u) : s.RecoveryOnly (if c then t else u) := by
  split
  · exact ht
  · exact hu

theorem raiseWeight (h : s.RecoveryOnly t) (c : Ch) : s.RecoveryOnly (t.raiseWeight c) := ite h ((h.setCh c _).raise _ _)

theorem setTare (h : s.RecoveryOnly t) (mg : Int) : s.RecoveryOnly (t.setTare mg) :=
  have hp : s.RecoveryOnly (t.setPw (t.pw.shiftReference t.chP.tare mg)) := h.trans rfl
  ite h ((hp.setCh .p _).raiseWeight .p)

theorem moveChannel (h : s.RecoveryOnly t) (c : Ch) (target : ChState) (nChanged : Bool) :
    s.RecoveryOnly (t.moveChannel c target nChanged) :=
  have hc := h.setCh c ((t.ch c).moved target nChanged)
  have ht := ite (c := c = .p ∧ target.clearsTare = true) (hc.setTare 0) hc
  ite ht (ht.raiseWeight c)

theorem installCal (h : s.RecoveryOnly t) (c : Ch) : s.RecoveryOnly (t.installCal c) := by
  fun_cases State.installCal c t
  · exact h
  · next k _ _ => exact (h.trans (rfl : t.RecoveryOnly (t.setCal (t.cal.install c k.fields.counter k.fields.cal)))).moveChannel c _ _

end State.RecoveryOnly

theorem State.SlotsOnly.installCal {s t : State} (h : s.SlotsOnly t) (c : Ch) : s.SlotsOnly (t.installCal c) := by
  fun_cases State.installCal c t
  · exact h
  · exact (h.setCal _).moveChannel c _ _

/-- The report of a recovery is a series of raises (R99, R109, R115). -/
theorem State.reportRecovery_of_raise {P : State → Prop} {s : State} (hs : P s) (h : ∀ u k body, P u → P (u.raise k body)) :
    P s.reportRecovery := by
  have hr : ∀ u : State, P u → P (if u.store.condition ≠ .normal then u.raiseStore .condition Config.sectors
      else if 0 < u.store.damagedFound then u.raiseStore .none Config.sectors else u) := fun u hu => by
    repeat' split
    · exact h _ _ _ hu
    · exact h _ _ _ hu
    · exact hu
  unfold State.reportRecovery
  refine hr _ ?_
  split
  · exact h _ _ _ hs
  · exact hs

/-! ### RECOVERY_SCAN_END -/

/-- A recovery is judged (R99, R115). -/
def State.recovered (s : State) (r : Recov) : State := (s.setStore { r.store with condition := r.store.judge }).setFlash r.flash

/-- The calibrations are installed and the recovery reported, before LANE_READY (R61, R64, R115). -/
def State.startUp (s : State) (number : Nat) : State :=
  let u := (s.installCal .p).installCal .b
  let u := (u.setTxn { u.txn with number := number }).reportRecovery
  u.setLink { u.link with starting := false }

theorem evRecoveryScanEnd_of_starting {s : State} (scan : Scan) (h : s.link.starting = true) :
    let u := (s.recovered (recover s.store s.flash scan)).startUp (recoveredTxn s.flash scan)
    evRecoveryScanEnd scan s = (u.raise .laneReady u.readyBytes).pump := by
  simp only [evRecoveryScanEnd, State.startUp, State.recovered, h, Bool.not_true, Bool.false_eq_true, if_false]

section
variable (s : State) (number : Nat)

theorem State.startUp_link : ∃ slots, (s.startUp number).link = { s.link with starting := false, slots := slots } := by
  have hi : s.SlotsOnly ((s.installCal .p).installCal .b) := ((State.SlotsOnly.of_link (t := s) rfl).installCal .p).installCal .b
  obtain ⟨slots, hr⟩ := State.reportRecovery_of_raise (P := s.SlotsOnly) (hi.setTxn _) fun u k body h => h.raise k body
  exact ⟨slots, congrArg (fun l : Link => { l with starting := false }) hr⟩

theorem State.startUp_only : s.RecoveryOnly (s.startUp number) := by
  have hi : s.RecoveryOnly ((s.installCal .p).installCal .b) := ((State.RecoveryOnly.refl s).installCal .p).installCal .b
  have ht : ∀ u : State, u.RecoveryOnly (u.setTxn { u.txn with number := number }) := fun u => rfl
  have hl : ∀ u : State, u.RecoveryOnly (u.setLink { u.link with starting := false }) := fun u => rfl
  exact (State.reportRecovery_of_raise (P := s.RecoveryOnly) (hi.trans (ht _)) fun u k body h => h.raise k body).trans (hl _)

theorem State.startUp_keeps : (s.startUp number).store = s.store ∧ (s.startUp number).txn.number = number := by
  simp [State.startUp]

theorem State.startUp_view (c : Ch) : (s.startUp number).calView c = (s.calView c).offered (s.store.current c) := by
  refine Eq.trans ?_ (s.installCals_view c)
  refine State.calView_of_eq (by simp [State.startUp]) ?_
  cases c <;> simp [State.startUp, State.ch]

end

/-! ### A notice raised, and the transmitter's choice behind it -/

theorem Link.choose_only (l : Link) : l.choose = { l with tx := l.choose.tx, slots := l.choose.slots } := by
  unfold Link.choose
  repeat' split
  all_goals rfl

/-- A filled slot stays filled, or an idle transmitter chooses it (R10, R11). -/
theorem Link.choose_slot {l : Link} {k : Slot} {body : List Byte} (h : l.slots.get k = some body) :
    l.choose.slots.get k = some body ∨ l.tx = none ∧ ∃ x, l.choose.tx = some x
      ∧ x.bytes = ({ kind := Byte.of k.kind, tag := 0, body := body } : Frame).bytes := by
  cases ht : l.tx with
  | some x => exact .inl (by rw [Link.choose_of_sending (by rw [ht]; rfl)]; exact h)
  | none =>
    cases hr : l.replies with
    | cons f rest => exact .inl (by rw [Link.choose_of_reply ht hr]; exact h)
    | nil =>
      cases hf : Slot.order.find? (fun j => (l.slots.get j).isSome) with
      | none => exact .inl (by simp only [Link.choose, Link.choice, ht, hr, hf, Option.map_none]; exact h)
      | some j =>
        by_cases hjk : j = k
        · subst hjk
          exact .inr ⟨rfl, _, by simp only [Link.choose, Link.choice, ht, hr, hf, Option.map_some, h]; rfl, rfl⟩
        · refine .inl ?_
          simp only [Link.choose, Link.choice, ht, hr, hf, Option.map_some]
          rw [Slots.get_set, if_neg hjk, h]

theorem State.raised_of_slot {s w : State} {k : Slot} {body : List Byte} (htx : w.link.tx = s.link.tx)
    (hk : k.enabled s.link.mask s.link.weightB = true → w.link.slots.get k = some body) : s.raised w.chooseFrame k body := fun he => by
  rw [← htx]
  exact Link.choose_slot (hk he)

theorem State.RecoveryOnly.of_storeOnly {s t : State} (h : s.StoreOnly t) : s.RecoveryOnly t := by
  unfold State.StoreOnly at h
  rw [h]
  rfl

/-! ### The end of the start-up period -/

theorem Store.spareCheck_keeps (x : Store) : x.spareCheck.next = x.next ∧ ∀ c, x.spareCheck.current c = x.current c := by
  unfold Store.spareCheck
  repeat' split
  all_goals exact ⟨rfl, fun c => by cases c <;> rfl⟩

/-- What the end of a recovery leaves, with the store `y` that recovery settled (R61, R64, R113 to R115, R14). -/
structure RecoveryEnded (s : State) (scan : Scan) (y : Store) (c : StoreCondition) (t : State) : Prop where
  only : s.RecoveryOnly t
  link : ∃ tx slots, t.link = { s.link with starting := false, tx := tx, slots := slots }
  number : t.txn.number = recoveredTxn s.flash scan
  view : ∀ d, t.calView d = (s.calView d).offered (y.current d)
  spared : y.Spared c t.store
  raised : s.raised t .laneReady ([Byte.of c.code] ++ le32 (t.store.next - 1) ++ le32 t.txn.number
    ++ le16 t.cal.counterP ++ le16 t.cal.counterB ++ [Byte.of t.chP.state.code, Byte.of t.chB.state.code])

theorem State.recovered_eq {s : State} {r : Recov} {y : Store} (h : r.store = y.spareCheck) :
    (s.recovered r).store = { y.spareCheck with condition := r.store.judge } ∧ s.RecoveryOnly (s.recovered r)
      ∧ (s.recovered r).link = s.link ∧ ∀ c, (s.recovered r).calView c = s.calView c :=
  ⟨congrArg (fun x : Store => { x with condition := r.store.judge }) h, rfl, rfl, fun c => State.calView_of_eq rfl (by cases c <;> rfl)⟩

/-- LANE_READY fills its slot where it is enabled, and touches nothing else (R10, R14). -/
theorem State.raise_laneReady {s u : State} (body : List Byte) (hu : ∃ slots, u.link = { s.link with starting := false, slots := slots }) :
    ∃ slots, (u.raise .laneReady body).link = { s.link with starting := false, slots := slots }
      ∧ (Slot.laneReady.enabled s.link.mask s.link.weightB = true → slots.get .laneReady = some body) := by
  obtain ⟨slots, hu⟩ := hu
  unfold State.raise
  rw [hu]
  split
  · exact ⟨_, rfl, fun _ => Slots.get_set _ _ _ _⟩
  · next h => exact ⟨slots, hu, fun he => absurd he h⟩

theorem recoveryEnded {s : State} {scan : Scan} {y : Store} (hst : s.link.starting = true) (hy : RecoveredStore s.flash scan y)
    (hr : (recover s.store s.flash scan).store = y.spareCheck) :
    ∃ c, RecoveryEnded s scan y c (evRecoveryScanEnd scan s).chooseFrame := by
  rw [evRecoveryScanEnd_of_starting scan hst]
  generalize recover s.store s.flash scan = r at hr
  obtain ⟨hstore, honly, hlink, hview⟩ := State.recovered_eq (s := s) hr
  generalize s.recovered r = v at hstore honly hlink hview
  generalize r.store.judge = c at hstore
  have hul := v.startUp_link (recoveredTxn s.flash scan)
  have huo := v.startUp_only (recoveredTxn s.flash scan)
  obtain ⟨hus, hun⟩ := v.startUp_keeps (recoveredTxn s.flash scan)
  have huv := v.startUp_view (recoveredTxn s.flash scan)
  rw [hlink] at hul
  generalize v.startUp (recoveredTxn s.flash scan) = u at hul huo hus hun huv
  obtain ⟨slots, hwl, hslot⟩ := State.raise_laneReady (s := s) u.readyBytes hul
  have hwo := (State.RecoveryOnly.refl u).raise .laneReady u.readyBytes
  obtain ⟨-, hchP, hchB, hcal, htxn, -, hws, -⟩ := u.raise_keeps .laneReady u.readyBytes
  generalize u.raise .laneReady u.readyBytes = w at hwl hwo hchP hchB hcal htxn hws
  obtain ⟨⟨hpo, pslots, hpl, hpslot⟩, hz⟩ := State.pump_spared (u := w) (by rw [hwl]) hy.resting (hws.trans (hus.trans hstore))
  generalize w.pump = p at hpo hpl hz
  rw [hwl] at hpl hpslot
  obtain ⟨hpchP, hpchB, hpcal, hptxn⟩ : p.chP = u.chP ∧ p.chB = u.chB ∧ p.cal = u.cal ∧ p.txn = u.txn := by
    rw [hpo, ← hchP, ← hchB, ← hcal, ← htxn]
    exact ⟨rfl, rfl, rfl, rfl⟩
  have hbytes : u.readyBytes = [Byte.of c.code] ++ le32 (p.store.next - 1) ++ le32 p.txn.number
      ++ le16 p.cal.counterP ++ le16 p.cal.counterB ++ [Byte.of p.chP.state.code, Byte.of p.chB.state.code] := by
    rw [hpchP, hpchB, hpcal, hptxn, hz.next, ← y.spareCheck_keeps.1, State.readyBytes, Store.newest, hus, hstore]
    simp only [List.append_assoc]
    rfl
  refine ⟨c, ?_, ⟨p.link.choose.tx, p.link.choose.slots, ?_⟩, ?_, fun d => ?_, hz, ?_⟩
  · exact honly.trans (huo.trans (hwo.trans ((State.RecoveryOnly.of_storeOnly hpo).trans rfl)))
  · exact p.link.choose_only.trans (by rw [hpl])
  · exact (congrArg Txn.number hptxn).trans hun
  · rw [← hview d, ← y.spareCheck_keeps.2 d]
    refine (State.calView_of_eq hpcal (by cases d <;> assumption)).trans ((huv d).trans ?_)
    rw [hstore]
    rfl
  · rw [hbytes] at hslot
    exact State.raised_of_slot (by rw [hpl]) fun he => by rw [hpl]; exact hpslot.trans (hslot he)

section
variable {s t : State} {scan : Scan} {y : Store} {c : StoreCondition} (hy : RecoveredStore s.flash scan y)
  (he : RecoveryEnded s scan y c t)
include hy he

/-- The transaction number bounds those of the SALE records read, and is that of one, or 0 (R64). -/
theorem RecoveryEnded.txn : (∀ n r, s.scanned t scan n (.sale r) → r.txn ≤ t.txn.number)
    ∧ (t.txn.number = 0 ∨ ∃ n r, s.scanned t scan n (.sale r) ∧ r.txn = t.txn.number) := by
  rw [he.number]
  refine ⟨fun n r h => le_highestTxn _ ((scanned_iff hy he.spared).1 h), (highestTxn_attained _).imp id ?_⟩
  rintro ⟨n, r, hm, hr⟩
  exact ⟨n, r, (scanned_iff hy he.spared).2 hm, hr⟩

/-- The record chosen for a channel is the current one (R61). -/
theorem RecoveryEnded.current_of_chosen {n : Nat} {k : CalFields} (h : s.chosen t scan n k) :
    y.current k.channel = some { number := n, fields := k } := by
  obtain ⟨hs, hk, hmax⟩ := h
  obtain ⟨hsome, hnone⟩ := chosenCal_spec k.channel (recordsOf (settled (scanFound s.flash scan)))
  have hm := (scanned_iff hy he.spared).1 hs
  rw [hy.current]
  cases hc : chosenCal k.channel (recordsOf (settled (scanFound s.flash scan))) with
  | none => exact absurd (calFor_iff.2 ⟨rfl, hk⟩) (hnone hc n k hm)
  | some b =>
    obtain ⟨hb, hfor, hle⟩ := hsome b hc
    obtain ⟨hch, hbs⟩ := calFor_iff.1 hfor
    have hn := hle n k hm (calFor_iff.2 ⟨rfl, hk⟩)
    rcases hmax b.number b.fields ((scanned_iff hy he.spared).2 hb) hch hbs with h | ⟨h₁, h₂⟩
    · exact absurd h (Nat.not_lt.2 hn)
    · rw [← h₁, ← h₂]

/-- With no sound CAL record read of a channel it has no current one (R61). -/
theorem RecoveryEnded.current_of_none {d : Ch} (h : ∀ n k, s.scanned t scan n (.cal k) → k.channel = d → ¬ k.sound) :
    y.current d = none := by
  rw [hy.current]
  cases hc : chosenCal d (recordsOf (settled (scanFound s.flash scan))) with
  | none => rfl
  | some b =>
    obtain ⟨hb, hfor, -⟩ := (chosenCal_spec d _).1 b hc
    obtain ⟨hch, hbs⟩ := calFor_iff.1 hfor
    exact absurd hbs (h _ _ ((scanned_iff hy he.spared).2 hb) hch)

/-- The channel of the record chosen takes its calibration and counter, and goes to NO_ZERO (R61, R21). -/
theorem RecoveryEnded.chosen {n : Nat} {k : CalFields} (h : s.chosen t scan n k) : t.inForce k.channel = some k.cal
    ∧ t.store.current k.channel = some { number := n, fields := k } ∧ t.cal.counter k.channel = k.counter
    ∧ (t.ch k.channel).zo = 0 ∧ (t.ch k.channel).zoInit = 0
    ∧ ((s.ch k.channel).state ≠ .fault → (t.ch k.channel).state = .noZero)
    ∧ ((s.ch k.channel).state = .fault → (t.ch k.channel).state = .fault ∧ (t.ch k.channel).resume = .noZero) := by
  have hc := he.current_of_chosen hy h
  have hv := he.view k.channel
  rw [hc] at hv
  have hs : (t.ch k.channel).standing = (s.ch k.channel).standing.uprooted := congrArg CalView.standing hv
  have hzo : ∀ x : Standing, x.uprooted.zo = 0 ∧ x.uprooted.zoInit = 0 := fun x => by
    unfold Standing.uprooted
    split <;> exact ⟨rfl, rfl⟩
  refine ⟨congrArg CalView.inForce hv, (he.spared.current _).trans hc, congrArg CalView.counter hv, ?_, ?_, fun hf => ?_, fun hf => ?_⟩
  · exact (congrArg Standing.zo hs).trans (hzo _).1
  · exact (congrArg Standing.zoInit hs).trans (hzo _).2
  · rw [Standing.uprooted, if_neg (show (s.ch k.channel).standing.state ≠ .fault from hf)] at hs
    exact congrArg Standing.state hs
  · rw [Standing.uprooted, if_pos (show (s.ch k.channel).standing.state = .fault from hf)] at hs
    exact ⟨congrArg Standing.state hs, congrArg Standing.resume hs⟩

/-- A channel with no sound CAL record keeps what it has (R61). -/
theorem RecoveryEnded.notChosen {d : Ch} (h : ∀ n k, s.scanned t scan n (.cal k) → k.channel = d → ¬ k.sound) :
    t.inForce d = s.inForce d ∧ t.store.current d = none ∧ (t.ch d).state = (s.ch d).state := by
  have hc := he.current_of_none hy h
  have hv := he.view d
  rw [hc] at hv
  exact ⟨congrArg CalView.inForce hv, (he.spared.current d).trans hc, congrArg (fun v : CalView => v.standing.state) hv⟩

end

/-- Settles O16. -/
theorem recoveryEndsTheStartUpPeriod : Obligations.RecoveryEndsTheStartUpPeriod := by
  refine fun s scan => ⟨fun hst hq => ?_, fun hst => ?_⟩
  · obtain ⟨y, hy, hr⟩ := recover_recovered s.flash scan hq
    obtain ⟨c, he⟩ := recoveryEnded hst hy hr
    obtain ⟨tx, slots, hl⟩ := he.link
    obtain ⟨hle, hattained⟩ := he.txn hy
    refine ⟨_, rfl, by rw [hl], hle, hattained, fun n k h => ?_, fun d h => he.notChosen hy h,
      ⟨c, he.spared.condition.imp Eq.symm id, he.raised⟩, he.only, by rw [hl], by rw [hl], by rw [hl],
      fun i x w e hx hw hte => ⟨fun q full released k n r hh hu hn hk hread hbefore =>
          recovered_inUse hy he.spared hx hw hte hh hu hn hread hbefore, fun hh => recovered_notInUse hy he.spared hx hw hte hh⟩,
      fun hlen hslen => ?_⟩
    · obtain ⟨hi, hc, hn, hrest⟩ := he.chosen hy h
      refine ⟨hi, hc, ?_, hrest⟩
      rw [← hn]
      cases k.channel <;> rfl
    · obtain ⟨h₈, hcounts⟩ := recovered_counts hy he.spared hlen hslen
      refine ⟨h₈, fun hf => ?_⟩
      obtain ⟨hone, husable⟩ := hcounts hf
      exact ⟨hone, husable, fun hop i e f hie hin hef hmax => recovered_next hy he.spared hop hie hef hmax⟩
  · have hs : evRecoveryScanEnd scan s = s := by
      simp only [evRecoveryScanEnd, hst, Bool.not_false, if_true]
    exact congrArg (fun u : State => Host.Outcome.next u.chooseFrame) hs

end Sys2Proof.Machine

namespace Sys2Proof.Machine

/-! ### The link after a command's notices -/

theorem State.SlotsOnly.raiseChanges {s t : State} (h : s.SlotsOnly t) (before : State) : s.SlotsOnly (t.raiseChanges before) := by
  have hi : ∀ {u : State} {c : Prop} [Decidable c] k body, s.SlotsOnly u → s.SlotsOnly (if c then u else u.raise k body) :=
    fun k body hu => .ite hu (hu.raise k body)
  exact hi _ _ (hi _ _ (hi _ _ (hi _ _ (hi _ _ h))))

/-- Where an operation has touched only the notice slots, the transmitter's choice touches them and the transmitter (R3, R11). -/
theorem State.SlotsOnly.chooseFrame {s t : State} (h : s.SlotsOnly t) : s.noticed t.chooseFrame := by
  obtain ⟨slots, hl⟩ := h
  rw [State.noticed, State.chooseFrame, State.setLink_link, Link.choose_only, hl]

theorem State.SlotsOnly.finish {s t : State} (h : s.SlotsOnly t) (before : State) : s.noticed (t.finish before) :=
  (h.raiseChanges before).chooseFrame

/-- What every command ends with touches the link alone. -/
theorem State.finish_eq (u before : State) : u.finish before = { u with link := (u.finish before).link } :=
  ((State.Alike.finish ⟨u.link, rfl⟩ before).eq_of_link :)

/-- A request that its block answers at once, touching of the link only the notice slots: the reply stands in the queue, and the
rest is as the block left it (R7, R8, R9). -/
theorem exec_of_served {s u : State} {c : Instr} {tag : Byte} {r : Request} {a : Answer} (h : s.ready)
    (hc : c.request? = some (tag, r)) (hr : r ≠ .laneReset) (hf : r.fieldsOk = true)
    (hs : serve tag r s.reservePlace = (u, some a)) (hu : s.reservePlace.SlotsOnly u) :
    ∃ t, exec c s = .next t ∧ s.replied t r.kind tag a ∧ t = { u with link := t.link } := by
  have ha : s.takeRequest tag r = u.reply r.kind tag a :=
    State.takeRequest_of_answer h.1 (by rw [decide3_of_fieldsOk (s := s.reservePlace) tag h.2 hf, hs])
  obtain ⟨slots, hl⟩ := hu
  have hn : State.noticed (u.reply r.kind tag a) ((u.reply r.kind tag a).finish s) := State.SlotsOnly.finish ⟨_, rfl⟩ s
  have hreplies : ((u.reply r.kind tag a).finish s).link.replies = s.link.replies ++ [replyFrame r.kind tag a] := by
    rw [State.finish_replies]
    show u.link.replies ++ _ = _
    rw [hl]
    rfl
  refine ⟨(u.reply r.kind tag a).finish s, by rw [exec_of_request hc hr, ended, ha], ⟨hreplies, ?_⟩, ?_⟩
  · rw [hn, State.reply, State.pushReply, State.setLink_link, hl]
    rfl
  · exact (State.finish_eq _ _).trans rfl

/-! ### Requests that name a channel -/

theorem channelCode_toNat (c : Ch) : (Byte.of c.code).toNat = c.code := by cases c <;> rfl
theorem forChannel_code (c : Ch) (f : Ch → State → State × Answer) (s : State) : forChannel c.code f s = f c s := by cases c <;> rfl
theorem channelCode_le (c : Ch) : c.code ≤ 1 := by cases c <;> decide
theorem State.reservePlace_report (s : State) (c : Ch) : s.reservePlace.report c = s.report c := by cases c <;> rfl

/-! ### Rounding (R27, R41) -/

/-- The multiple that roundAway chooses is a nearest one, and of two as near the one farther from zero. -/
theorem roundAway_nearest (num : Int) {den : Nat} (h : 0 < den) :
    2 * (den * roundAway num den - num).natAbs ≤ den
      ∧ (2 * (den * roundAway num den - num).natAbs = den → num.natAbs ≤ (den * roundAway num den).natAbs) := by
  have hle : 2 * (den * ((2 * num.natAbs + den) / (2 * den))) ≤ 2 * num.natAbs + den := by
    rw [← Nat.mul_assoc]
    exact Nat.mul_div_le _ _
  have hlt : 2 * num.natAbs + den < 2 * (den * ((2 * num.natAbs + den) / (2 * den))) + 2 * den := by
    rw [← Nat.mul_assoc]
    exact Nat.lt_mul_div_succ _ (by omega)
  unfold roundAway
  generalize (2 * num.natAbs + den) / (2 * den) = q at *
  split
  · rw [← Nat.cast_mul]
    omega
  · rw [Int.mul_neg, ← Nat.cast_mul]
    omega

/-! ### The weight report (R40, R41, R44) -/

theorem Channel.report_state (x : Channel) (p : Params) (f : Int → Int) : (x.report p f).state = x.state := by
  unfold Channel.report
  split <;> rfl

theorem Channel.report_tare (x : Channel) (p : Params) (f : Int → Int) : (x.report p f).tare = x.tare / 1000 := by
  unfold Channel.report
  split <;> rfl

theorem Channel.report_of_none {x : Channel} (p : Params) (f : Int → Int) (h : x.latest = none) : x.report p f =
    { state := x.state, condition := .valid, stable := false, centre := false, gross := 0, net := 0, tare := x.tare / 1000,
      raw := 0 } := by
  rw [Channel.report, h]

section
variable {x : Channel} {r : Reading} (p : Params) (f : Int → Int)

theorem Channel.report_of_some (h : x.latest = some r) : x.report p f =
    { state := x.state, condition := x.condition p (f r.a), stable := r.stable
      centre := decide ((x.state = .weighing ∧ x.condition p (f r.a) = .valid) ∧ 4 * (x.grossMg (f r.a)).natAbs ≤ p.eMg)
      gross := if x.state = .weighing ∧ x.condition p (f r.a) = .valid then p.toDivision (x.grossMg (f r.a)) else 0
      net := if x.state = .weighing ∧ x.condition p (f r.a) = .valid then p.toDivision (x.netMg (f r.a)) else 0
      tare := x.tare / 1000, raw := r.a } := by
  rw [Channel.report, h]

theorem Channel.condition_of_saturated (w : Int) (h : 0 < x.saturated) : x.condition p w = .saturated := if_pos h

theorem Channel.condition_saturated_iff (w : Int) : x.condition p w = .saturated ↔ 0 < x.saturated := by
  unfold Channel.condition
  by_cases h : 0 < x.saturated
  · simp [h]
  · simp only [h, if_false, iff_false]
    (repeat' split) <;> nofun

/-- In WEIGHING without saturation gross is judged against the two limits, the upper one first (R40). -/
theorem Channel.condition_weighing (w : Int) (h : x.state = .weighing) (hs : x.saturated = 0) :
    (x.condition p w = .over ↔ p.overLimit < x.grossMg w)
      ∧ (x.condition p w = .under ↔ x.grossMg w < p.underLimit ∧ ¬ p.overLimit < x.grossMg w) := by
  have hc : x.condition p w =
      if p.overLimit < x.grossMg w then .over else if x.grossMg w < p.underLimit then .under else .valid := by
    simp [Channel.condition, h, hs]
  rw [hc]
  by_cases hover : p.overLimit < x.grossMg w
  · simp [hover]
  · by_cases hunder : x.grossMg w < p.underLimit <;> simp [hover, hunder]

end

theorem Params.toDivision_mg (p : Params) (mg : Int) : ∃ m : Int, p.toDivision mg = p.e * m ∧ (0 < p.e →
    2 * (1000 * p.e * m - mg).natAbs ≤ 1000 * p.e
      ∧ (2 * (1000 * p.e * m - mg).natAbs = 1000 * p.e → mg.natAbs ≤ (1000 * (p.e : Int) * m).natAbs)) :=
  ⟨roundAway mg p.eMg, rfl, fun he => by
    have h := roundAway_nearest mg (show 0 < p.eMg by unfold Params.eMg; omega)
    simpa only [Params.eMg, Nat.cast_mul, Nat.cast_ofNat] using h⟩

theorem State.scale_of_inForce {s : State} {c : Ch} {k : Calibration} (h : s.inForce c = some k) (a : Int) : s.scale c a = k.scale a := by
  rw [State.scale, h]

theorem State.params_of_inForce {s : State} {c : Ch} {k : Calibration} (h : s.inForce c = some k) : s.params c = k.params := by
  rw [State.params, h]

/-- Settles O19. -/
theorem weightGetReportsTheRoundedReading : Obligations.WeightGetReportsTheRoundedReading := by
  refine ⟨fun s tag c hm hs => ?_, fun s tag c hready => ⟨?_, Channel.report_state .., Channel.report_tare .., fun h => ?_,
    fun r hr => ?_, fun r k g hr hk hw hsat he hg => ?_⟩⟩
  · exact ended_of_answer hm (r := .weightGet (Byte.of c.code).toNat)
      (by simp [decide3, Request.servedStarting, State.reservePlace, hs])
  · refine (ended_of_answer hready.1 (r := .weightGet (Byte.of c.code).toNat) ?_ :)
    rw [decide3_of_fieldsOk (s := s.reservePlace) tag hready.2 (by rw [channelCode_toNat]; exact decide_eq_true (channelCode_le c))]
    show answered (forChannel _ _ _) = _
    rw [channelCode_toNat, forChannel_code, reqWeightGet, State.reservePlace_report]
    rfl
  · rw [State.report, Channel.report_of_none _ _ h]
    exact ⟨rfl, rfl, rfl, rfl, rfl⟩
  · rw [State.report, Channel.report_of_some _ _ hr]
    exact ⟨rfl, rfl, fun h => by simp [Channel.condition_of_saturated _ _ h]⟩
  · have hgross : (s.ch c).grossMg (s.scale c r.a) = g := by
      rw [hg, State.scale_of_inForce hk]
      rfl
    have hnet : (s.ch c).netMg (s.scale c r.a) = g - (s.ch c).tare := by rw [Channel.netMg, hgross]
    obtain ⟨hover, hunder⟩ := Channel.condition_weighing (s.params c) (s.scale c r.a) hw hsat
    rw [State.params_of_inForce hk, hgross] at hover hunder
    rw [State.report, Channel.report_of_some _ _ hr, State.params_of_inForce hk, hgross, hnet]
    obtain ⟨m, hm, hm'⟩ := k.params.toDivision_mg g
    obtain ⟨n, hn, hn'⟩ := k.params.toDivision_mg (g - (s.ch c).tare)
    have hov : k.params.overLimit = 1000 * (k.params.max : Int) + 9 * (1000 * k.params.e) := by
      simp [Params.overLimit, Params.maxMg, Params.eMg]
    have hun : k.params.underLimit = -(20 * (1000 * (k.params.e : Int))) := by simp [Params.underLimit, Params.eMg]
    rw [← hov, ← hun]
    refine ⟨hover, hunder, fun hv => ?_⟩
    have hshown : (s.ch c).state = .weighing ∧ (s.ch c).condition k.params (s.scale c r.a) = .valid := ⟨hw, hv⟩
    simp only [hshown, true_and, if_true, decide_eq_true_iff]
    exact ⟨Iff.rfl, m, n, hm, hn, (hm' he).1, (hn' he).1, (hm' he).2, (hn' he).2⟩

/-! ### The report raised, and the tare taken -/

/-- The raise test of WEIGHT changes only the report last raised and the link (R45). -/
theorem State.raiseWeight_eq (s : State) (c : Ch) : s.raiseWeight c =
    { s.setCh c { s.ch c with lastReport := ((s.raiseWeight c).ch c).lastReport } with link := (s.raiseWeight c).link } := by
  unfold State.raiseWeight State.raise
  dsimp only
  repeat' split
  all_goals cases c <;> rfl

/-- A tare taken changes the tare, the re-arm reference while the flag is clear, the report last raised and the link
(R35, R45, R84). -/
theorem State.setTare_eq (s : State) (mg : Int) : s.setTare mg = { s with
    link := (s.setTare mg).link
    chP := { s.chP with tare := mg, lastReport := (s.setTare mg).chP.lastReport }
    pw := { s.pw with reference :=
      if s.pw.rearm then s.pw.reference else s.pw.reference + s.chP.tare / 1000 - mg / 1000 } } := by
  by_cases h : mg = s.chP.tare
  · rw [State.setTare_of_eq h, h, Int.add_sub_cancel, ite_self]
  · have hs : s.setTare mg = ((s.setPw (s.pw.shiftReference s.chP.tare mg)).setChP { s.chP with tare := mg }).raiseWeight .p :=
      if_neg h
    have hp : s.pw.shiftReference s.chP.tare mg = { s.pw with reference :=
        if s.pw.rearm then s.pw.reference else s.pw.reference + s.chP.tare / 1000 - mg / 1000 } := by
      unfold Pricing.shiftReference
      split <;> rfl
    rw [hs, State.raiseWeight_eq, hp]
    rfl

/-! ### ZERO (R31) -/

theorem State.latestGross_of_some {s : State} {c : Ch} {r : Reading} (h : (s.ch c).latest = some r) :
    s.latestGross c = s.scale c r.a - (s.ch c).zo := by
  rw [State.latestGross, h]
  rfl

theorem Channel.isStable_of_some {x : Channel} {r : Reading} (h : x.latest = some r) : x.isStable = r.stable := by
  rw [Channel.isStable, h]

theorem State.report_not_saturated {s : State} {c : Ch} (h : (s.ch c).saturated = 0) : (s.report c).condition ≠ .saturated := by
  unfold State.report Channel.report
  split
  · nofun
  · rw [ne_eq, Channel.condition_saturated_iff, h]
    exact Nat.lt_irrefl 0

/-- The tests of an accepted ZERO, and what it does (R31, R32). -/
theorem reqZero_of_accepted {s : State} {c : Ch} {r : Reading} (hw : (s.ch c).state = .weighing)
    (hp : c = .p → s.pw.inFlight = false ∧ s.chP.tare = 0) (hb : c = .b → s.bag.state = .inactive)
    (hr : (s.ch c).latest = some r) (hst : r.stable = true) (hsat : (s.ch c).saturated = 0)
    (hrange : ((s.scale c r.a - (s.ch c).zoInit).natAbs : Int) ≤ 20 * (s.params c).max) :
    reqZero c s = ((s.setCh c { s.ch c with
      zo := s.scale c r.a
      tracking := if (s.params c).tracking then some (s.clock + 1000) else none }).raiseWeight c, .accept []) := by
  have hbusy : ¬ (c = .p ∧ s.pw.inFlight = true) := fun h => by simp [(hp h.1).1] at h
  have hstate : ¬ (c = .p ∧ (s.ch c).tare ≠ 0 ∨ c = .b ∧ s.bag.state ≠ .inactive) := by
    rintro (⟨rfl, h⟩ | ⟨rfl, h⟩)
    · exact h (hp rfl).2
    · exact h (hb rfl)
  have hstable : ¬ (!(s.ch c).isStable) = true := by simp [Channel.isStable_of_some hr, hst]
  have hzo : (s.ch c).zo + s.latestGross c = s.scale c r.a := by
    rw [State.latestGross_of_some hr]
    omega
  have hin : ¬ ((s.report c).condition = .saturated ∨ ((s.scale c r.a - (s.ch c).zoInit).natAbs : Int) > (s.params c).zeroRange) :=
    not_or.2 ⟨State.report_not_saturated hsat, not_lt.2 hrange⟩
  simp only [reqZero, hw, ChState.refusal, if_neg hbusy, if_neg hstate, if_neg hstable, hzo, if_neg hin]
  rfl

/-- Settles O20. -/
theorem zeroTakesThePresentLoad : Obligations.ZeroTakesThePresentLoad :=
  fun s tag c r hready hw hp hb hr hst hsat hrange => by
    have hch : s.reservePlace.ch c = s.ch c := State.setLink_ch ..
    have hsc : s.reservePlace.scale c = s.scale c := by cases c <;> rfl
    have hpa : s.reservePlace.params c = s.params c := by cases c <;> rfl
    have hz := reqZero_of_accepted (s := s.reservePlace) (c := c) (r := r) (by rw [hch, hw]) hp hb (by rw [hch, hr]) hst
      (by rw [hch, hsat]) (by rw [hch, hsc, hpa]; exact hrange)
    rw [hch, hsc, hpa] at hz
    obtain ⟨t, ht, hrep, heq⟩ := exec_of_served (c := .zero tag (Byte.of c.code)) (u := (reqZero c s.reservePlace).1) hready rfl nofun
      (by rw [channelCode_toNat]; exact decide_eq_true (channelCode_le c))
      (by rw [channelCode_toNat]; show answered (forChannel _ _ _) = _; rw [forChannel_code, hz]; rfl)
      (by rw [hz]; exact (State.SlotsOnly.setCh (.of_link rfl) _ _).raiseWeight _)
    refine ⟨t, ht, hrep, heq.trans ?_⟩
    have hlast : (t.ch c).lastReport = ((reqZero c s.reservePlace).1.ch c).lastReport := by
      rw [heq]
      cases c <;> rfl
    rw [hlast, hz, State.raiseWeight_eq]
    cases c <;> rfl

/-! ### TARE (R36 to R39) -/

/-- A PRESET candidate in range (R38). -/
theorem presetCandidate_of_accepted {p : Params} {value mg : Int} (h0 : 0 < value) (hmax : value ≤ p.max)
    (hmg : mg = 1000 * p.e * roundAway (1000 * value) (1000 * p.e)) (hne : mg ≠ 0) (hle : mg ≤ 1000 * p.max) :
    presetCandidate p value = some mg := by
  have hc : p.eMg * roundAway (1000 * value) p.eMg = mg := by rw [hmg, Params.eMg, Nat.cast_mul, Nat.cast_ofNat]
  have hin : ¬ (mg = 0 ∨ mg > p.maxMg) := not_or.2 ⟨hne, not_lt.2 hle⟩
  simp only [presetCandidate, if_pos (And.intro h0 hmax), hc, if_neg hin]

theorem tareClear_of_accepted {s : State} (hf : s.pw.inFlight = false) : tareClear s = (s.setTare 0, tareReply (s.setTare 0)) := by
  simp [tareClear, hf]

theorem tarePreset_of_accepted {s : State} {value mg : Int} (hf : s.pw.inFlight = false) (hw : s.chP.state = .weighing)
    (hc : presetCandidate (s.params .p) value = some mg) :
    tarePreset value s = (s.setTare mg, tareReply (s.setTare mg)) := by
  simp [tarePreset, hf, hw, ChState.refusal, hc]

theorem tareSemi_of_accepted {s : State} {r : Reading} {mg : Int} (hf : s.pw.inFlight = false) (hw : s.chP.state = .weighing)
    (hr : s.chP.latest = some r) (hst : r.stable = true) (hsat : s.chP.saturated = 0)
    (h0 : 0 < s.scale .p r.a - s.chP.zo) (hmax : s.scale .p r.a - s.chP.zo ≤ 1000 * (s.params .p).max)
    (hmg : mg = 1000 * (s.params .p).e * roundAway (s.scale .p r.a - s.chP.zo) (1000 * (s.params .p).e))
    (hne : mg ≠ 0) (hle : mg ≤ 1000 * (s.params .p).max) :
    tareSemi s = (s.setTare mg, tareReply (s.setTare mg)) := by
  have hg : s.latestGross .p = s.scale .p r.a - s.chP.zo := State.latestGross_of_some hr
  have hc : (s.params .p).eMg * roundAway (s.latestGross .p) (s.params .p).eMg = mg := by
    rw [hmg, hg, Params.eMg, Nat.cast_mul, Nat.cast_ofNat]
  have hstable : ¬ (!s.chP.isStable) = true := by simp [Channel.isStable_of_some hr, hst]
  have hin : ¬ ((s.report .p).condition = .saturated ∨ ¬ (0 < s.latestGross .p ∧ s.latestGross .p ≤ (s.params .p).maxMg)
      ∨ mg = 0 ∨ mg > (s.params .p).maxMg) := by
    rw [hg]
    exact not_or.2 ⟨State.report_not_saturated hsat, not_or.2 ⟨not_not.2 ⟨h0, hmax⟩, not_or.2 ⟨hne, not_lt.2 hle⟩⟩⟩
  simp only [tareSemi, hf, hw, ChState.refusal, hc, if_neg hstable, if_neg hin, Bool.false_eq_true, if_false]

/-- A TARE that is accepted with a tare, as its row (R36, R84). -/
theorem exec_tare {s : State} {c : Instr} {tag : Byte} {action : Nat} {value mg : Int} (hready : s.ready)
    (hc : c.request? = some (tag, .tare action value)) (ha : action ≤ 2)
    (ht : reqTare action value s.reservePlace = (s.reservePlace.setTare mg, tareReply (s.reservePlace.setTare mg))) :
    ∃ t, exec c s = .next t ∧ s.replied t 0x12 tag (.accept (leI32 (mg / 1000)))
      ∧ t = { s with
          link := t.link
          chP := { s.chP with tare := mg, lastReport := t.chP.lastReport }
          pw := { s.pw with reference :=
            if s.pw.rearm then s.pw.reference else s.pw.reference + s.chP.tare / 1000 - mg / 1000 } } := by
  obtain ⟨t, hx, hrep, heq⟩ := exec_of_served hready hc nofun (decide_eq_true ha)
    (show answered (reqTare _ _ _) = _ by rw [ht]; rfl) (.setTare (.of_link rfl) mg)
  rw [tareReply, State.setTare_tare] at hrep
  refine ⟨t, hx, hrep, heq.trans ?_⟩
  have hlast : t.chP.lastReport = (s.reservePlace.setTare mg).chP.lastReport := by rw [heq]
  rw [hlast, State.setTare_eq]
  rfl

/-- Settles O21. -/
theorem tareActionsSetTheTare : Obligations.TareActionsSetTheTare := by
  rintro s tag value hready hf c mg
    (⟨rfl, rfl⟩ | ⟨rfl, hw, h0, hmax, hmg, hne, hle⟩ | ⟨r, rfl, hw, hr, hst, hsat, h0, hmax, hmg, hne, hle⟩)
  · exact exec_tare hready rfl (by decide) (tareClear_of_accepted hf)
  · exact exec_tare hready rfl (by decide) (tarePreset_of_accepted hf hw (presetCandidate_of_accepted h0 hmax hmg hne hle))
  · exact exec_tare hready rfl (by decide) (tareSemi_of_accepted hf hw hr hst hsat h0 hmax hmg hne hle)

/-! ### PRICE_WEIGH (R80, R81) -/

theorem State.raise_eq (k : Slot) (body : List Byte) (s : State) : s.raise k body = { s with link := (s.raise k body).link } := by
  unfold State.raise
  split <;> rfl

/-- The tests of an accepted PRICE_WEIGH (R80). -/
theorem priceRefusal_of_accepted {s : State} {unitPrice : Nat} {preset : Int} {bag : Bool} (hi : s.pw.state = .idle)
    (ho : s.txn.state = .opened) (hr : s.txn.receipt = .none ∨ s.txn.receipt = .opened) (hw : s.chP.state = .weighing)
    (h1 : 1 ≤ unitPrice) (hmax : unitPrice ≤ 999999) (hp : preset ≠ 0 → presetCandidate (s.params .p) preset ≠ none)
    (hs : s.txn.sales.length < 32) (hb : bag = true → s.bag.enabled = true → s.bag.entries.length + s.bag.reserved < 16)
    (hf : s.store.condition ≠ .failed) (hsf : s.store.condition ≠ .storeFull) :
    priceRefusal unitPrice preset bag s = none := by
  have hprice : ¬ ¬ (1 ≤ unitPrice ∧ unitPrice ≤ Config.maxUnitPrice) := not_not.2 ⟨h1, hmax⟩
  have hpreset : ¬ (preset ≠ 0 ∧ presetCandidate (s.params .p) preset = none) := fun h => hp h.1 h.2
  have hsales : ¬ Config.salePlaces ≤ s.txn.sales.length := not_le.2 hs
  have hplaces : ¬ (bag = true ∧ s.bag.enabled = true ∧ s.bag.placesFull = true) := fun ⟨hbag, he, hfull⟩ => by
    simp [(Bag.placesFull_eq_false _).2 (hb hbag he)] at hfull
  simp [priceRefusal, hi, ho, hr, hw, ChState.refusal, hprice, hpreset, hsales, hplaces, hf, hsf]

section
variable {s : State} {preset mg : Int} (unitPrice : Nat) (bag : Bool) (tolerance : Int)
  (hmg : preset = 0 ∧ mg = s.chP.tare ∨ preset ≠ 0 ∧ presetCandidate (s.params .p) preset = some mg)
include hmg

/-- The steps of an accepted PRICE_WEIGH; with no preset tare named, the tare that is held is taken again (R81). -/
theorem State.acceptPrice_steps : s.acceptPrice unitPrice preset bag tolerance =
    let u := if bag && s.bag.enabled then (s.setTare mg).reserveSlot else s.setTare mg
    ((u.setPw { u.pw with
      txn := u.txn.number, unitPrice := unitPrice, preset := decide (preset ≠ 0), reserved := bag && s.bag.enabled
      tolerance := if bag && s.bag.enabled then u.clampTolerance tolerance else 0
      settle := u.timer (u.pw.settleS * 1000), latch := none
      state := if u.pw.rearm then .waitStable else .waitRearm
      result := .none, reason := .none, lastAlibi := 0 }).setTxn { u.txn with inFlight := true }).raisePrice := by
  obtain ⟨rfl, hm⟩ | ⟨hne, hc⟩ := hmg
  · rw [State.setTare_of_eq hm]
    simp only [State.acceptPrice, if_true]
    rfl
  · have hbag : (s.setTare mg).bag = s.bag := by simp
    simp only [State.acceptPrice, if_neg hne, hc, hbag]
    split <;> rfl

/-- An accepted PRICE_WEIGH takes its tare, reserves its place and waits (R81, R82); it touches of the link only the slots. -/
theorem State.acceptPrice_eq : s.SlotsOnly (s.acceptPrice unitPrice preset bag tolerance)
    ∧ s.acceptPrice unitPrice preset bag tolerance = { s with
        link := (s.acceptPrice unitPrice preset bag tolerance).link
        chP := { s.chP with tare := mg, lastReport := (s.acceptPrice unitPrice preset bag tolerance).chP.lastReport }
        bag := if bag && s.bag.enabled then { s.bag with reserved := s.bag.reserved + 1 } else s.bag
        txn := { s.txn with inFlight := true }
        pw := { s.pw with
          txn := s.txn.number, unitPrice := unitPrice, preset := decide (preset ≠ 0), reserved := bag && s.bag.enabled
          tolerance := if bag && s.bag.enabled then max ((s.params .b).e : Int) tolerance else 0
          settle := some (s.clock + s.pw.settleS * 1000), latch := none
          state := if s.pw.rearm then .waitStable else .waitRearm
          result := .none, reason := .none, lastAlibi := 0
          reference := if s.pw.rearm then s.pw.reference else s.pw.reference + s.chP.tare / 1000 - mg / 1000 } } := by
  have ht : s.SlotsOnly (s.setTare mg) := .setTare (.of_link rfl) mg
  rw [State.acceptPrice_steps unitPrice bag tolerance hmg]
  refine ⟨?_, ?_⟩
  · exact (((State.SlotsOnly.ite (ht.setBag _) ht).setPw _).setTxn _).raise _ _
  · rw [State.raisePrice, State.raise_eq, State.setTare_eq]
    split <;> rfl

end

/-- Settles O33. -/
theorem priceWeighBeginsToWait : Obligations.PriceWeighBeginsToWait := by
  intro s tag unitPrice preset flags tolerance mg hready hi ho hr hw h1 hmax hmg hs hfl hb hf hsf reserves tol state
  have hbag : (flags.toNat % 2 == 1) = (flags.toNat == 1) := by
    rw [Bool.eq_iff_iff, beq_iff_eq, beq_iff_eq]
    omega
  have hpre : preset.toInt = 0 ∧ mg = s.chP.tare ∨ preset.toInt ≠ 0 ∧ presetCandidate (s.params .p) preset.toInt = some mg :=
    hmg.imp id fun ⟨h0, hle, hm, hne, hcap⟩ => ⟨by omega, presetCandidate_of_accepted h0 hle hm hne hcap⟩
  have hnone : priceRefusal unitPrice.toNat preset.toInt (flags.toNat == 1) s.reservePlace = none :=
    priceRefusal_of_accepted hi ho hr hw h1 hmax
      (fun hne => by
        obtain ⟨h, -⟩ | ⟨-, h⟩ := hpre
        · exact absurd h hne
        · exact fun hn => by cases h.symm.trans hn)
      hs (fun h => hb (beq_iff_eq.1 h)) hf hsf
  obtain ⟨hslots, hacc⟩ := State.acceptPrice_eq (s := s.reservePlace) unitPrice.toNat (flags.toNat == 1) tolerance.toInt hpre
  generalize hu : s.reservePlace.acceptPrice unitPrice.toNat preset.toInt (flags.toNat == 1) tolerance.toInt = u at hslots hacc
  obtain ⟨t, ht, hrep, heq⟩ := exec_of_served (c := .priceWeigh tag unitPrice preset flags tolerance) hready rfl nofun
    (decide_eq_true hfl)
    (show answered (reqPriceWeigh _ _ _ _ _) = _ by rw [reqPriceWeigh, hbag, hnone, hu]; rfl) hslots
  have hlast : t.chP.lastReport = u.chP.lastReport := by rw [heq]
  refine ⟨t, ht, ?_, ?_⟩
  · rw [hacc] at hrep
    exact hrep
  · rw [heq, hacc]
    rfl

/-! ### Windows (R25, R26, R28) -/

/-- What a window keeps of its values and a new one are the last of them. -/
theorem pushWindow_suffix (n : Nat) (l : List Int) (x : Int) : ∃ gone, l ++ [x] = gone ++ pushWindow n l x :=
  ⟨_, (List.take_append_drop (l.length + 1 - n) (l ++ [x])).symm⟩

theorem pushWindow_length (n : Nat) (l : List Int) (x : Int) : (pushWindow n l x).length = min n (l.length + 1) := by
  simp only [pushWindow, List.length_drop, List.length_append, List.length_singleton]
  omega

theorem filtered_bounds {n : Nat} (l : List Int) (h : 0 < n) :
    (2 * n : Int) * filtered n l ≤ 2 * l.sum + n ∧ 2 * l.sum + n < (2 * n : Int) * (filtered n l + 1) := by
  have hn : (0 : Int) < 2 * n := by omega
  rw [filtered, Int.fdiv_eq_ediv_of_nonneg _ hn.le]
  refine ⟨Int.mul_ediv_self_le hn.ne', ?_⟩
  rw [Int.mul_comm (2 * (n : Int))]
  exact Int.lt_ediv_add_one_mul_self _ hn

theorem foldl_max_le_iff (l : List Int) (a b : Int) : l.foldl max a ≤ b ↔ a ≤ b ∧ ∀ x ∈ l, x ≤ b := by
  induction l generalizing a with
  | nil => simp
  | cons x xs ih => rw [List.foldl_cons, ih, max_le_iff, List.forall_mem_cons, and_assoc]

theorem le_foldl_min_iff (l : List Int) (a b : Int) : b ≤ l.foldl min a ↔ b ≤ a ∧ ∀ x ∈ l, b ≤ x := by
  induction l generalizing a with
  | nil => simp
  | cons x xs ih => rw [List.foldl_cons, ih, le_min_iff, List.forall_mem_cons, and_assoc]

/-- The spread of a window is within a limit when the difference of any two of its values is. -/
theorem spread_le_iff {limit : Int} (h : 0 ≤ limit) (l : List Int) :
    spread l ≤ limit ↔ ∀ x ∈ l, ∀ y ∈ l, x - y ≤ limit := by
  cases l with
  | nil => simpa [spread] using h
  | cons a l =>
    have hmax : spread (a :: l) ≤ limit ↔ ∀ x ∈ a :: l, x ≤ limit + l.foldl min a := by
      rw [List.forall_mem_cons, ← foldl_max_le_iff, ← sub_le_iff_le_add]
      exact Iff.rfl
    have hmin : ∀ x, x ≤ limit + l.foldl min a ↔ ∀ y ∈ a :: l, x - y ≤ limit := fun x => by
      rw [← sub_le_iff_le_add', le_foldl_min_iff, List.forall_mem_cons]
      simp only [sub_le_comm]
    simp only [hmax, hmin]

theorem windowStable_iff {limit : Int} (h : 0 ≤ limit) (n : Nat) (l : List Int) :
    windowStable n limit l = true ↔ l.length = n ∧ ∀ x ∈ l, ∀ y ∈ l, x - y ≤ limit := by
  rw [windowStable, Bool.and_eq_true, beq_iff_eq, decide_eq_true_iff, spread_le_iff h]

/-! ### The reading that a conversion forms (R27 to R29, R32) -/

section
variable (x : Channel) (p : Params) (f : Int → Int) (track : Timer) (a : Int)

/-- The stability window after a filtered count: counts or weights, as the state has it (R20, R28). -/
def Channel.joined : List Int := pushWindow p.s x.window (if x.state.weights then f a else a)

/-- The stable flag of the reading (R28). -/
def Channel.steady : Bool := windowStable p.s (if x.state.weights then (p.eMg : Int) else 8) (x.joined p f a)

theorem Channel.steady_iff : x.steady p f a = true ↔ (x.joined p f a).length = p.s
    ∧ ∀ y ∈ x.joined p f a, ∀ z ∈ x.joined p f a, y - z ≤ if x.state.weights then 1000 * (p.e : Int) else 8 := by
  have he : (p.eMg : Int) = 1000 * (p.e : Int) := by rw [Params.eMg, Nat.cast_mul, Nat.cast_ofNat]
  rw [Channel.steady, he]
  exact windowStable_iff (by split <;> omega) _ _

/-- The channel with its reading, before the initial zero and the tracking timer. -/
def Channel.read : Channel := { x with window := x.joined p f a, latest := some { a := a, stable := x.steady p f a } }

theorem Channel.formReading_eq : x.formReading p f track a =
    let y := (x.read p f a).initialZero p (x.steady p f a) (f a)
    { y with tracking := if y.tracks p (x.steady p f a) (f a) then y.tracking.or track else none } := rfl

/-- The initial zero touches the state and the two zeros alone (R29). -/
theorem Channel.initialZero_eq (stable : Bool) (w : Int) : x.initialZero p stable w = { x with
    state := (x.initialZero p stable w).state, zo := (x.initialZero p stable w).zo, zoInit := (x.initialZero p stable w).zoInit } := by
  unfold Channel.initialZero
  split <;> rfl

/-- What the reading leaves, and the window and the latest reading that it puts in place. -/
theorem Channel.formReading_kept : let y := x.formReading p f track a
    y.samples = x.samples ∧ y.saturated = x.saturated ∧ y.watchdog = x.watchdog ∧ y.tare = x.tare ∧ y.lastReport = x.lastReport
      ∧ y.window = x.joined p f a ∧ y.latest = some { a := a, stable := x.steady p f a } := by
  rw [Channel.formReading_eq, Channel.initialZero_eq]
  exact ⟨rfl, rfl, rfl, rfl, rfl, rfl, rfl⟩

theorem Channel.formReading_zero :
    if x.state = .noZero ∧ x.steady p f a = true ∧ x.saturated = 0 ∧ ((f a).natAbs : Int) ≤ 100 * p.max then
      (x.formReading p f track a).state = .weighing ∧ (x.formReading p f track a).zo = f a
        ∧ (x.formReading p f track a).zoInit = f a
    else (x.formReading p f track a).state = x.state ∧ (x.formReading p f track a).zo = x.zo
      ∧ (x.formReading p f track a).zoInit = x.zoInit := by
  rw [Channel.formReading_eq]
  split
  · next h =>
    rw [show (x.read p f a).initialZero p (x.steady p f a) (f a) = { x.read p f a with state := .weighing, zo := f a, zoInit := f a }
      from if_pos h]
    exact ⟨rfl, rfl, rfl⟩
  · next h =>
    rw [show (x.read p f a).initialZero p (x.steady p f a) (f a) = x.read p f a from if_neg h]
    exact ⟨rfl, rfl, rfl⟩

theorem Channel.tracks_iff (stable : Bool) (w : Int) : x.tracks p stable w = true ↔ x.state = .weighing
    ∧ p.tracking = true ∧ x.tare = 0 ∧ stable = true ∧ x.condition p w = .valid ∧ 2 * (w - x.zo).natAbs ≤ 1000 * p.e := by
  rw [Channel.tracks, decide_eq_true_iff]
  rfl

/-- The tracking timer starts, runs on or stops as the tracking condition holds of the channel with its reading (R32). -/
theorem Channel.formReading_tracking : (x.formReading p f track a).tracking =
    if (x.formReading p f track a).tracks p (x.steady p f a) (f a) then x.tracking.or track else none := by
  rw [Channel.formReading_eq, Channel.initialZero_eq]
  rfl

theorem Channel.formReading_tracks : let y := x.formReading p f track a
    let tracks := y.state = .weighing ∧ p.tracking = true ∧ x.tare = 0 ∧ x.steady p f a = true ∧ y.condition p (f a) = .valid
      ∧ 2 * (f a - y.zo).natAbs ≤ 1000 * p.e
    (¬ tracks → y.tracking = none) ∧ (tracks → x.tracking = none → y.tracking = track)
      ∧ (tracks → x.tracking ≠ none → y.tracking = x.tracking) := by
  obtain ⟨-, -, -, htare, -⟩ := x.formReading_kept p f track a
  have hiff := Channel.tracks_iff (x.formReading p f track a) p (x.steady p f a) (f a)
  rw [htare] at hiff
  dsimp only
  rw [Channel.formReading_tracking, ← hiff]
  refine ⟨fun h => if_neg h, fun h hn => ?_, fun h hs => ?_⟩
  · rw [if_pos h, hn, Option.none_or]
  · obtain ⟨v, hv⟩ := Option.ne_none_iff_exists'.1 hs
    rw [if_pos h, hv, Option.some_or]

end

/-! ### The raise test of WEIGHT (R45) -/

theorem Report.same_iff (q r : Report) : ({ q with raw := 0 } : Report) = { r with raw := 0 } ↔ { q with raw := r.raw } = r := by
  cases q
  cases r
  simp

theorem State.raiseWeight_of_same {s : State} {c : Ch} {q : Report} (h : (s.ch c).lastReport = some q)
    (hq : { q with raw := (s.report c).raw } = s.report c) : s.raiseWeight c = s := by
  simp only [State.raiseWeight, h, Option.map_some, (Report.same_iff q _).2 hq, if_true]

theorem State.raiseWeight_of_changed {s : State} {c : Ch}
    (h : ∀ q, (s.ch c).lastReport = some q → { q with raw := (s.report c).raw } ≠ s.report c) : s.raiseWeight c =
      (s.setCh c { s.ch c with lastReport := some (s.report c) }).raise (weightSlot c) (reportBytes c (s.report c)) := by
  refine if_neg fun hm => ?_
  obtain ⟨q, hq, he⟩ := Option.map_eq_some_iff.1 hm
  exact h q hq ((Report.same_iff _ _).1 he)

theorem State.raise_link (s : State) (k : Slot) (body : List Byte) : (s.raise k body).link.tx = s.link.tx
    ∧ (k.enabled s.link.mask s.link.weightB = true → (s.raise k body).link.slots.get k = some body) := by
  unfold State.raise
  split
  · exact ⟨rfl, fun _ => by rw [State.setLink_link, Slots.get_set, if_pos rfl]⟩
  · next h => exact ⟨rfl, fun he => absurd he h⟩

/-- The report reads of a channel what a last raised report leaves as it was (R44). -/
theorem State.report_congr {s t : State} {c : Ch} {last : Option Report} (hk : t.cal = s.cal)
    (h : t.ch c = { s.ch c with lastReport := last }) : t.report c = s.report c := by
  have hi := State.inForce_of_cal hk c
  have hs : t.scale c = s.scale c := by
    funext a
    rw [State.scale, hi]
    rfl
  have hp : t.params c = s.params c := by rw [State.params, hi]; rfl
  rw [State.report, h, hs, hp]
  rfl

/-- A reading handed on to WEIGHT (R45): a report that is the same but for the raw count raises nothing, another is raised. -/
theorem State.raiseWeight_chosen (s : State) (c : Ch) : let t := (s.raiseWeight c).chooseFrame
    (∀ q, (s.ch c).lastReport = some q → { q with raw := (s.report c).raw } = s.report c →
      (t.ch c).lastReport = some q ∧ t.link = s.chooseFrame.link)
    ∧ ((∀ q, (s.ch c).lastReport = some q → { q with raw := (s.report c).raw } ≠ s.report c) →
      (t.ch c).lastReport = some (s.report c) ∧ s.raised t (weightSlot c) (reportBytes c (s.report c))) := by
  refine ⟨fun q hq he => ?_, fun h => ?_⟩
  · rw [State.raiseWeight_of_same hq he]
    exact ⟨(congrArg Channel.lastReport (State.setLink_ch ..)).trans hq, rfl⟩
  · rw [State.raiseWeight_of_changed h]
    obtain ⟨htx, hslot⟩ := State.raise_link (s.setCh c { s.ch c with lastReport := some (s.report c) }) (weightSlot c)
      (reportBytes c (s.report c))
    have hl : (s.setCh c { s.ch c with lastReport := some (s.report c) }).link = s.link := by simp
    rw [hl] at htx hslot
    refine ⟨?_, State.raised_of_slot htx hslot⟩
    rw [State.chooseFrame, State.setLink_ch, State.raise_ch, State.setCh_ch]

/-! ### A conversion on its channel (R25, R42) -/

/-- The channel with its new sample, out of FAULT, and with its watchdog restarted (R22, R23, R25). -/
def State.sampled (s : State) (c : Ch) (r : Int) : Channel :=
  (s.ch c).leaveFault.addSample (s.params c).n (some (s.clock + 100)) r

/-- The channel with the reading that the full window of its samples forms (R26). -/
def State.reads (s : State) (c : Ch) (r : Int) : Channel :=
  (s.sampled c r).formReading (s.params c) (s.scale c) (some (s.clock + 1000)) (filtered (s.params c).n (s.sampled c r).samples)

theorem State.convert_eq (s : State) (c : Ch) (r : Int) : s.convert c r =
    s.setCh c (if (s.sampled c r).full (s.params c).n then s.reads c r else s.sampled c r) := rfl

theorem State.sampled_samples_length (s : State) (c : Ch) (r : Int) :
    (s.sampled c r).samples.length = min (s.params c).n ((s.ch c).leaveFault.samples.length + 1) := pushWindow_length _ _ _

theorem State.sampled_full_iff (s : State) (c : Ch) (r : Int) :
    (s.sampled c r).full (s.params c).n = true ↔ (s.params c).n ≤ (s.ch c).leaveFault.samples.length + 1 := by
  rw [Channel.full, beq_iff_eq, State.sampled_samples_length]
  omega

theorem State.reads_kept (s : State) (c : Ch) (r : Int) : let y := s.reads c r
    y.samples = (s.sampled c r).samples ∧ y.saturated = (s.sampled c r).saturated ∧ y.watchdog = (s.sampled c r).watchdog
      ∧ y.tare = (s.sampled c r).tare ∧ y.lastReport = (s.sampled c r).lastReport := by
  obtain ⟨h₁, h₂, h₃, h₄, h₅, -⟩ := Channel.formReading_kept ..
  exact ⟨h₁, h₂, h₃, h₄, h₅⟩

/-- A conversion yields a reading exactly where the window of samples is full (R26). -/
theorem State.convert_full (s : State) (c : Ch) (r : Int) :
    ((s.convert c r).ch c).full (s.params c).n = (s.sampled c r).full (s.params c).n := by
  rw [State.convert_eq, State.setCh_ch]
  split
  · obtain ⟨h, -⟩ := s.reads_kept c r
    rw [Channel.full, h]
    rfl
  · rfl

theorem Channel.leaveFault_of_ne {x : Channel} (h : x.state ≠ .fault) : x.leaveFault = x := if_neg h

/-- Out of FAULT, the sample joins the window of a channel and its saturation count (R25). -/
theorem State.sampled_of_noFault {s : State} {c : Ch} (h : (s.ch c).state ≠ .fault) (r : Int) : s.sampled c r = { s.ch c with
    samples := pushWindow (s.params c).n (s.ch c).samples r
    saturated := (pushWindow (s.params c).n (s.ch c).samples r).countP (fun x => x == -8388608 || x == 8388607)
    watchdog := some (s.clock + 100) } := by
  rw [State.sampled, Channel.leaveFault_of_ne h, List.countP_eq_length_filter]
  rfl

/-! ### A reading of channel P and the priced weighing (R83, R85, R86) -/

/-- What the re-arm test of a reading makes of the request record. -/
theorem State.testRearm_pw (r : Report) (s : State) : (s.testRearm r).pw = { s.pw with
    rearm := s.pw.rearm || rearms (s.params .p).e s.pw.reference r
    state := if (s.pw.rearm = false ∧ rearms (s.params .p).e s.pw.reference r = true) ∧ s.pw.state = .waitRearm then .waitStable
      else s.pw.state } := by
  have htest : (!s.pw.rearm) = true ∧ rearms (s.params .p).e s.pw.reference r = true
      ↔ s.pw.rearm = false ∧ rearms (s.params .p).e s.pw.reference r = true := by simp
  unfold State.testRearm
  by_cases h : s.pw.rearm = false ∧ rearms (s.params .p).e s.pw.reference r = true
  · rw [if_pos (htest.2 h)]
    by_cases hw : s.pw.state = .waitRearm <;> simp [h, hw, State.raisePrice]
  · have hsame : (s.pw.rearm || rearms (s.params .p).e s.pw.reference r) = s.pw.rearm := by
      cases hr : s.pw.rearm
      · simpa [hr] using h
      · rfl
    rw [if_neg (htest.not.2 h), if_neg fun hw => h hw.1, hsame]

/-- A reading that neither wakes nor finds a waiting weighing touches the re-arm flag alone. -/
theorem State.testRearm_of_notWaiting (r : Report) {s : State} (h : s.pw.state ≠ .waitRearm) : s.testRearm r =
    { s with pw := { s.pw with rearm := s.pw.rearm || rearms (s.params .p).e s.pw.reference r } } := by
  have hs : s.testRearm r = s.setPw (s.testRearm r).pw := by
    unfold State.testRearm
    rw [if_neg h]
    split <;> rfl
  rw [hs, State.testRearm_pw, if_neg fun hw => h hw.2]
  rfl

theorem State.priceReading_of_notLatching {s : State}
    (h : ¬ ((s.testRearm (s.report .p)).pw.state = .waitStable ∧ latches (s.params .p).e (s.report .p) = true)) :
    s.priceReading = s.testRearm (s.report .p) := by
  have hk : (s.testRearm (s.report .p)).cal = s.cal := by simp
  have hp : (s.testRearm (s.report .p)).params .p = s.params .p := by
    rw [State.params, State.inForce_of_cal hk]
    rfl
  simp only [State.priceReading, hp, if_neg h]

/-- With no weighing that waits, a reading sets at most the re-arm flag (R83). -/
theorem State.priceReading_of_notWaiting {s : State} (hr : s.pw.state ≠ .waitRearm) (hs : s.pw.state ≠ .waitStable) :
    s.priceReading =
      { s with pw := { s.pw with rearm := s.pw.rearm || rearms (s.params .p).e s.pw.reference (s.report .p) } } := by
  have ht := State.testRearm_of_notWaiting (s.report .p) hr
  rw [State.priceReading_of_notLatching (by rw [ht]; exact fun h => hs h.1), ht]

/-! ### The event (R42) -/

/-- A conversion completes: the reading is handed on where one is formed, and the report is compared after a reading or the end
of a fault. -/
theorem evConversionComplete_eq (c : Ch) (raw : BitVec 24) (s : State) : evConversionComplete c raw s =
    let formed := (s.sampled c raw.toInt).full (s.params c).n
    let u := s.convert c raw.toInt
    let v := match c with
      | .p => if formed then u.priceReading else u
      | .b => u.handOnB ((s.ch c).state == .fault) formed
    if (s.ch c).state == .fault ∨ formed then v.raiseWeight c else v := by
  rw [← State.convert_full]
  rfl

section
variable {s : State} {c : Ch} {raw : BitVec 24} (hf : (s.ch c).state ≠ .fault)
include hf

theorem evConversionComplete_of_partial (hn : (s.sampled c raw.toInt).full (s.params c).n = false) :
    evConversionComplete c raw s = s.setCh c (s.sampled c raw.toInt) := by
  have hc : s.convert c raw.toInt = s.setCh c (s.sampled c raw.toInt) := by simp [State.convert_eq, hn]
  have hwas : ((s.ch c).state == .fault) = false := beq_false_of_ne hf
  rw [evConversionComplete_eq, hn, hc, hwas]
  cases c <;> rfl

/-- With no weighing that waits and no verification, a reading that is formed sets at most the re-arm flag (R83). -/
theorem evConversionComplete_of_formed (hp : c = .p → s.pw.state ≠ .waitRearm ∧ s.pw.state ≠ .waitStable)
    (hb : c = .b → s.bag.state = .inactive) (hn : (s.sampled c raw.toInt).full (s.params c).n = true) :
    ∃ rearm, (c = .b → rearm = s.pw.rearm) ∧ evConversionComplete c raw s =
      ({ s.setCh c (s.reads c raw.toInt) with pw := { s.pw with rearm := rearm } } : State).raiseWeight c := by
  have hc : s.convert c raw.toInt = s.setCh c (s.reads c raw.toInt) := by simp [State.convert_eq, hn]
  have hwas : ((s.ch c).state == .fault) = false := beq_false_of_ne hf
  rw [evConversionComplete_eq, hn, hc, hwas]
  cases c with
  | p =>
    obtain ⟨hr, hs⟩ := hp rfl
    have hread := State.priceReading_of_notWaiting (s := s.setChP (s.reads .p raw.toInt)) hr hs
    exact ⟨_, (fun h => nomatch h), congrArg (State.raiseWeight .p) hread⟩
  | b =>
    refine ⟨s.pw.rearm, fun _ => rfl, ?_⟩
    have hi : (s.setChB (s.reads .b raw.toInt)).bagReading = s.setChB (s.reads .b raw.toInt) := by
      rw [State.bagReading, show (s.setChB (s.reads .b raw.toInt)).bag.state = .inactive from hb rfl]
    exact congrArg (State.raiseWeight .b) hi

end

/-! ### CONVERSION_COMPLETE (R25 to R29, R32, R42, R45, R83) -/

theorem exec_conversionComplete (c : Ch) (raw : BitVec 24) (s : State) :
    exec (.conversionComplete c raw) s = .next ((evConversionComplete c raw s).finish s) := rfl

theorem State.report_condition {s : State} {c : Ch} {r : Reading} (h : (s.ch c).latest = some r) :
    (s.report c).condition = (s.ch c).condition (s.params c) (s.scale c r.a) := by
  rw [State.report, Channel.report_of_some _ _ h]

/-- A command that sets a channel and the priced weighing, and ends with the raise test of the channel's report (R45). -/
theorem State.finish_raiseWeight (s : State) (c : Ch) (v : Pricing) {y : Channel} (hy : y.lastReport = (s.ch c).lastReport) :
    ∃ t last, (({ s.setCh c y with pw := v } : State).raiseWeight c).finish s = t
      ∧ t = { s.setCh c (t.ch c) with link := t.link, pw := v } ∧ t.ch c = { y with lastReport := last }
      ∧ (∀ q, (s.ch c).lastReport = some q → { q with raw := (t.report c).raw } = t.report c →
          last = some q ∧ t.link = s.chooseFrame.link)
      ∧ ((∀ q, (s.ch c).lastReport = some q → { q with raw := (t.report c).raw } ≠ t.report c) →
          last = some (t.report c) ∧ s.raised t (weightSlot c) (reportBytes c (t.report c))) := by
  generalize hw : ({ s.setCh c y with pw := v } : State) = w
  have hkeeps : w.txn = s.txn ∧ w.bag = s.bag ∧ w.drw1 = s.drw1 ∧ w.drw2 = s.drw2 ∧ w.prn = s.prn := by subst hw; simp
  have hch : w.ch c = y := by subst hw; cases c <;> rfl
  have hlink : w.link = s.link := by subst hw; cases c <;> rfl
  have hfin : (w.raiseWeight c).finish s = (w.raiseWeight c).chooseFrame :=
    State.finish_of_same (by simp [hkeeps]) (by simp [hkeeps]) (by simp [hkeeps]) (by simp [hkeeps]) (by simp [hkeeps])
  have hframe : (w.raiseWeight c).chooseFrame = { w.setCh c ((w.raiseWeight c).chooseFrame.ch c) with
      link := (w.raiseWeight c).chooseFrame.link } := by
    rw [State.chooseFrame, State.setLink_ch, State.raiseWeight_eq]
    cases c <;> rfl
  have hlast : (w.raiseWeight c).chooseFrame.ch c = { y with lastReport := ((w.raiseWeight c).chooseFrame.ch c).lastReport } := by
    rw [State.chooseFrame, State.setLink_ch, State.raiseWeight_eq, ← hch]
    cases c <;> rfl
  have hreport : (w.raiseWeight c).chooseFrame.report c = w.report c := State.report_congr (by simp) (by rw [hch]; exact hlast)
  have hchoose : w.chooseFrame.link = s.chooseFrame.link := congrArg Link.choose hlink
  have hraised : State.raised w = State.raised s := by
    unfold State.raised
    rw [hlink]
  have hraise := w.raiseWeight_chosen c
  rw [hch, hy, hchoose, hraised, ← hreport] at hraise
  refine ⟨_, _, hfin, hframe.trans ?_, hlast, hraise⟩
  rw [← hw]
  cases c <;> rfl

section
variable {s : State} {c : Ch} (hf : (s.ch c).state ≠ .fault)
include hf

theorem State.sampled_keeps (r : Int) : (s.sampled c r).state = (s.ch c).state ∧ (s.sampled c r).window = (s.ch c).window
    ∧ (s.sampled c r).zo = (s.ch c).zo ∧ (s.sampled c r).zoInit = (s.ch c).zoInit ∧ (s.sampled c r).tare = (s.ch c).tare
    ∧ (s.sampled c r).tracking = (s.ch c).tracking ∧ (s.sampled c r).latest = (s.ch c).latest
    ∧ (s.sampled c r).lastReport = (s.ch c).lastReport := by
  rw [State.sampled_of_noFault hf]
  exact ⟨rfl, rfl, rfl, rfl, rfl, rfl, rfl, rfl⟩

theorem State.sampled_sample (r : Int) : (s.sampled c r).watchdog = some (s.clock + 100) ∧ (s.sampled c r).tare = (s.ch c).tare
    ∧ (∃ gone, (s.ch c).samples ++ [r] = gone ++ (s.sampled c r).samples)
    ∧ (s.sampled c r).samples.length = min (s.params c).n ((s.ch c).samples.length + 1)
    ∧ (s.sampled c r).saturated = (s.sampled c r).samples.countP (fun x => x == -8388608 || x == 8388607) := by
  rw [State.sampled_of_noFault hf]
  exact ⟨rfl, rfl, pushWindow_suffix _ _ _, pushWindow_length _ _ _, rfl⟩

theorem State.sampled_full_of_noFault (r : Int) :
    (s.sampled c r).full (s.params c).n = true ↔ (s.params c).n ≤ (s.ch c).samples.length + 1 := by
  rw [State.sampled_full_iff, Channel.leaveFault_of_ne hf]

/-- A conversion that fills no window leaves its sample and restarts the watchdog. -/
theorem exec_conversion_of_partial {raw : BitVec 24} (hn : (s.ch c).samples.length + 1 < (s.params c).n) :
    exec (.conversionComplete c raw) s = .next (s.setCh c (s.sampled c raw.toInt)).chooseFrame := by
  have hfull : (s.sampled c raw.toInt).full (s.params c).n = false :=
    Bool.eq_false_iff.2 fun h => absurd ((State.sampled_full_of_noFault hf _).1 h) (not_le.2 hn)
  rw [exec_conversionComplete, evConversionComplete_of_partial hf hfull,
    State.finish_of_same (by simp) (by simp) (by simp) (by simp) (by simp)]

/-- A conversion that fills the window, with no weighing that waits and no verification: the channel with its reading, and the
raise test of its report. -/
theorem exec_conversion_of_formed {raw : BitVec 24} (hp : c = .p → s.pw.state ≠ .waitRearm ∧ s.pw.state ≠ .waitStable)
    (hb : c = .b → s.bag.state = .inactive) (hn : (s.params c).n ≤ (s.ch c).samples.length + 1) :
    ∃ t last, exec (.conversionComplete c raw) s = .next t
      ∧ t = { s.setCh c (t.ch c) with link := t.link, pw := { s.pw with rearm := t.pw.rearm } }
      ∧ t.ch c = { s.reads c raw.toInt with lastReport := last }
      ∧ (c = .b → t.pw = s.pw)
      ∧ (∀ q, (s.ch c).lastReport = some q → { q with raw := (t.report c).raw } = t.report c →
          last = some q ∧ t.link = s.chooseFrame.link)
      ∧ ((∀ q, (s.ch c).lastReport = some q → { q with raw := (t.report c).raw } ≠ t.report c) →
          last = some (t.report c) ∧ s.raised t (weightSlot c) (reportBytes c (t.report c))) := by
  obtain ⟨rearm, hrearm, he⟩ := evConversionComplete_of_formed hf hp hb ((State.sampled_full_of_noFault hf raw.toInt).2 hn)
  have hlast : (s.reads c raw.toInt).lastReport = (s.ch c).lastReport := by
    obtain ⟨-, -, -, -, -, -, -, hx⟩ := State.sampled_keeps hf raw.toInt
    obtain ⟨-, -, -, -, hy⟩ := s.reads_kept c raw.toInt
    exact hy.trans hx
  obtain ⟨t, last, ht, heq, hch, hraise⟩ := s.finish_raiseWeight c { s.pw with rearm := rearm } hlast
  have hpw : t.pw = { s.pw with rearm := rearm } := by rw [heq]
  refine ⟨t, last, ?_, ?_, hch, fun h => ?_, hraise⟩
  · rw [exec_conversionComplete, he, ht]
  · rw [hpw]
    exact heq
  · rw [hpw, hrearm h]

end

section
variable {s : State} {raw : BitVec 24}

/-- In every state of the unit, a reading of channel P that does not latch sets the re-arm flag as its test says (R83, R85). -/
theorem exec_conversion_of_notLatching (hfull : (s.convert .p raw.toInt).chP.samples.length = (s.params .p).n)
    (hl : ¬ (latches (s.params .p).e ((s.convert .p raw.toInt).report .p) = true ∧ (s.pw.state = .waitStable
      ∨ s.pw.state = .waitRearm ∧ s.pw.rearm = false
        ∧ rearms (s.params .p).e s.pw.reference ((s.convert .p raw.toInt).report .p) = true))) :
    ∃ t, exec (.conversionComplete .p raw) s = .next t
      ∧ t.pw.rearm = (s.pw.rearm || rearms (s.params .p).e s.pw.reference ((s.convert .p raw.toInt).report .p))
      ∧ t.pw.reference = s.pw.reference := by
  have hn : (s.sampled .p raw.toInt).full (s.params .p).n = true := by
    rw [← State.convert_full]
    exact beq_iff_eq.2 hfull
  have he : evConversionComplete .p raw s = (s.convert .p raw.toInt).priceReading.raiseWeight .p := by
    rw [evConversionComplete_eq, hn]
    exact if_pos (.inr rfl)
  have hpw : (s.convert .p raw.toInt).pw = s.pw := by simp
  have hpar : (s.convert .p raw.toInt).params .p = s.params .p := rfl
  have hno : ¬ (((s.convert .p raw.toInt).testRearm ((s.convert .p raw.toInt).report .p)).pw.state = .waitStable
      ∧ latches ((s.convert .p raw.toInt).params .p).e ((s.convert .p raw.toInt).report .p) = true) := by
    rintro ⟨hs, hlatch⟩
    rw [hpar] at hlatch
    rw [State.testRearm_pw, hpw, hpar] at hs
    refine hl ⟨hlatch, ?_⟩
    split at hs
    · next h => exact .inr ⟨h.2, h.1.1, h.1.2⟩
    · exact .inl hs
  refine ⟨_, exec_conversionComplete _ _ _, ?_⟩
  have ht : ((evConversionComplete .p raw s).finish s).pw =
      ((s.convert .p raw.toInt).testRearm ((s.convert .p raw.toInt).report .p)).pw := by
    rw [he, State.priceReading_of_notLatching hno]
    simp
  rw [ht, State.testRearm_pw, hpw, hpar]
  exact ⟨rfl, rfl⟩

end

/-- The reading that a full window of samples forms (R26 to R29, R32). -/
theorem State.reads_reading {s : State} {c : Ch} (hf : (s.ch c).state ≠ .fault) (r : Int) : let y := s.reads c r
    ∃ (a : Int) (stable : Bool) (gone : List Int), y.latest = some { a := a, stable := stable }
      ∧ (0 < (s.params c).n → (2 * (s.params c).n : Int) * a ≤ 2 * y.samples.sum + (s.params c).n
          ∧ 2 * y.samples.sum + (s.params c).n < (2 * (s.params c).n : Int) * (a + 1))
      ∧ (s.ch c).window ++ [if (s.ch c).state.weights then s.scale c a else a] = gone ++ y.window
      ∧ y.window.length = min (s.params c).s ((s.ch c).window.length + 1)
      ∧ (stable = true ↔ y.window.length = (s.params c).s ∧ ∀ x ∈ y.window, ∀ z ∈ y.window,
          x - z ≤ (if (s.ch c).state.weights then 1000 * ((s.params c).e : Int) else 8))
      ∧ (if (s.ch c).state = .noZero ∧ stable = true ∧ y.saturated = 0
            ∧ ((s.scale c a).natAbs : Int) ≤ 100 * (s.params c).max then
          y.state = .weighing ∧ y.zo = s.scale c a ∧ y.zoInit = s.scale c a
        else y.state = (s.ch c).state ∧ y.zo = (s.ch c).zo ∧ y.zoInit = (s.ch c).zoInit)
      ∧ (let tracks := y.state = .weighing ∧ (s.params c).tracking = true ∧ (s.ch c).tare = 0 ∧ stable = true
            ∧ y.condition (s.params c) (s.scale c a) = .valid ∧ 2 * (s.scale c a - y.zo).natAbs ≤ 1000 * (s.params c).e
        (¬ tracks → y.tracking = none)
        ∧ (tracks → (s.ch c).tracking = none → y.tracking = some (s.clock + 1000))
        ∧ (tracks → (s.ch c).tracking ≠ none → y.tracking = (s.ch c).tracking)) := by
  obtain ⟨hstate, hwindow, hzo, hzoInit, htare, htracking, -, -⟩ := State.sampled_keeps hf r
  have hbounds := filtered_bounds (n := (s.params c).n) (s.sampled c r).samples
  unfold State.reads
  generalize filtered (s.params c).n (s.sampled c r).samples = a at hbounds ⊢
  generalize s.sampled c r = x at *
  have hjoined : x.joined (s.params c) (s.scale c) a =
      pushWindow (s.params c).s (s.ch c).window (if (s.ch c).state.weights then s.scale c a else a) := by
    rw [Channel.joined, hstate, hwindow]
  have hsteady := x.steady_iff (s.params c) (s.scale c) a
  have hzero := x.formReading_zero (s.params c) (s.scale c) (some (s.clock + 1000)) a
  have htracks := x.formReading_tracks (s.params c) (s.scale c) (some (s.clock + 1000)) a
  obtain ⟨ysamples, ysat, -, -, -, ywindow, ylatest⟩ :=
    x.formReading_kept (s.params c) (s.scale c) (some (s.clock + 1000)) a
  generalize x.formReading (s.params c) (s.scale c) (some (s.clock + 1000)) a = y at *
  rw [hstate, ← ywindow] at hsteady
  rw [hstate, hzo, hzoInit, ← ysat] at hzero
  rw [htare, htracking] at htracks
  rw [← ysamples] at hbounds
  rw [← ywindow] at hjoined
  obtain ⟨gone, hgone⟩ := pushWindow_suffix (s.params c).s (s.ch c).window (if (s.ch c).state.weights then s.scale c a else a)
  exact ⟨a, _, gone, ylatest, hbounds, by rw [hjoined, hgone], by rw [hjoined, pushWindow_length], hsteady, hzero, htracks⟩

/-- Settles O22. -/
theorem conversionFormsTheReading : Obligations.ConversionFormsTheReading := by
  refine ⟨fun s c raw hf hp hb => ?_, fun s raw r hr hfull hl => ?_⟩
  · obtain ⟨hwd, htare, hgone, hlen, hsat⟩ := State.sampled_sample hf raw.toInt
    by_cases hn : (s.ch c).samples.length + 1 < (s.params c).n
    · obtain ⟨hstate, -, hzo, -, -, htracking, hlatest, hlast⟩ := State.sampled_keeps hf raw.toInt
      have hch : (s.setCh c (s.sampled c raw.toInt)).chooseFrame.ch c = s.sampled c raw.toInt := by
        rw [State.chooseFrame, State.setLink_ch, State.setCh_ch]
      have hpw : (s.setCh c (s.sampled c raw.toInt)).chooseFrame.pw = s.pw := by simp
      have hlink : (s.setCh c (s.sampled c raw.toInt)).chooseFrame.link = s.chooseFrame.link := by cases c <;> rfl
      refine ⟨_, exec_conversion_of_partial hf hn, ?_⟩
      rw [hch, hpw, hlink]
      exact ⟨by cases c <;> rfl, hwd, htare, hgone, hlen, hsat, fun _ => ⟨hlatest, hstate, hzo, htracking, hlast, rfl, rfl⟩,
        fun _ => rfl, fun h => absurd h (not_le.2 hn), fun h => absurd h (not_le.2 hn)⟩
    · obtain ⟨t, last, ht, heq, hch, hpw, hsame, hnew⟩ := exec_conversion_of_formed hf hp hb (raw := raw) (not_lt.1 hn)
      obtain ⟨ysamples, ysat, ywd, ytare, -⟩ := State.reads_kept s c raw.toInt
      obtain ⟨a, stable, gone, hlatest, hreading⟩ := State.reads_reading hf raw.toInt
      rw [← ysamples] at hgone hlen hsat
      rw [← ysat] at hsat
      have hcond : (t.report c).condition = (s.reads c raw.toInt).condition (s.params c) (s.scale c a) := by
        rw [State.report_condition (by rw [hch]; exact hlatest), hch, heq]
        cases c <;> rfl
      refine ⟨t, ht, heq, ?_⟩
      rw [hch, hcond]
      exact ⟨ywd.trans hwd, ytare.trans htare, hgone, hlen, hsat, fun h => absurd h hn, hpw, fun _ => ⟨hsame, hnew⟩,
        fun _ => ⟨a, stable, gone, hlatest, hreading⟩⟩
  · have hsets : rearms (s.params .p).e s.pw.reference r = true ↔ (r.state = .weighing ∧ r.condition = .valid)
        ∧ ((r.gross.natAbs : Int) ≤ 5 * (s.params .p).e
          ∨ 20 * ((s.params .p).e : Int) ≤ ((r.net - s.pw.reference).natAbs : Int)) := by
      rw [rearms, decide_eq_true_iff, and_assoc]
    obtain ⟨t, ht, hrearm, href⟩ := exec_conversion_of_notLatching hfull (by
      rw [← hr, hsets, latches, decide_eq_true_iff]
      rintro ⟨⟨hw, hv, hst, hnet⟩, hwaits⟩
      exact hl ⟨⟨hw, hv⟩, hst, hnet, hwaits⟩)
    rw [← hr] at hrearm
    exact ⟨t, ht, by rw [hrearm, Bool.or_eq_true, hsets], href⟩

/-! ### CONVERSION_WATCHDOG_EXPIRY (R22, R133) -/

theorem State.finish_ch (s before : State) (c : Ch) : (s.finish before).ch c = s.ch c := by
  have h : (s.finish before).Alike s := State.Alike.finish ⟨s.link, rfl⟩ before
  exact (h.ch c).symm

/-- The entry into FAULT touches the channel, with its report last raised, and the link. -/
theorem State.enterFault_eq (s : State) (c : Ch) : s.enterFault c = { s.setCh c { s.ch c with
    state := .fault, resume := (s.ch c).state, latest := none, tracking := none, watchdog := none
    lastReport := ((s.enterFault c).ch c).lastReport } with link := (s.enterFault c).link } := by
  rw [State.enterFault, State.raiseWeight_eq]
  cases c <;> rfl

/-- Channel B's entry into FAULT touches the verifier and the attention outputs alone. -/
theorem State.bagFault_eq (s : State) : s.bagFault = { s with bag := s.bagFault.bag, attn := s.bagFault.attn } := by
  unfold State.bagFault State.beginHold
  dsimp only
  repeat' split
  all_goals rfl

/-- A verifier that watches is held, and BAG_HOLD is asserted (R132, R133). -/
theorem State.bagFault_of_watching {s : State} (hw : s.bag.state = .watching) (hk : s.bag.kind = .none) :
    s.bagFault.bag.state = .hold ∧ s.bagFault.bag.kind = .scaleFault ∧ s.bagFault.bag.baseline = s.bag.baseline
      ∧ s.bagFault.attn.bagHold = { active := true, muted := false, start := s.clock } := by
  have hb : s.bagFault = s.beginHold .scaleFault 0 none none := by simp [State.bagFault, hw, hk]
  rw [hb, State.beginHold, hw]
  exact ⟨rfl, rfl, rfl, rfl⟩

theorem State.bagFault_of_inactive {s : State} (h : s.bag.state = .inactive) : s.bagFault = s := if_pos (.inl h)

theorem evConversionWatchdogExpiry_of_some {s : State} {c : Ch} {w : Nat} (h : (s.ch c).watchdog = some w) :
    evConversionWatchdogExpiry c s = if c = .b then ((s.setClock (max s.clock w)).enterFault c).bagFault
      else (s.setClock (max s.clock w)).enterFault c := by
  rw [evConversionWatchdogExpiry, h]
  cases c <;> rfl

/-- The watchdog's expiry on its channel, and beside it the clock, the link, the verifier and the attention outputs. -/
theorem evConversionWatchdogExpiry_frame {s : State} {c : Ch} {w : Nat} (h : (s.ch c).watchdog = some w) :
    let u := evConversionWatchdogExpiry c s
    u.ch c = { s.ch c with state := .fault, resume := (s.ch c).state, latest := none, tracking := none, watchdog := none,
                           lastReport := (u.ch c).lastReport }
      ∧ u = { s.setCh c (u.ch c) with clock := max s.clock w, link := u.link, bag := u.bag, attn := u.attn } := by
  dsimp only
  rw [evConversionWatchdogExpiry_of_some h]
  cases c
  · rw [if_neg nofun, State.enterFault_eq]
    exact ⟨rfl, rfl⟩
  · rw [if_pos rfl, State.bagFault_eq, State.enterFault_eq]
    exact ⟨rfl, rfl⟩

/-- Without a verification, the watchdog's expiry leaves the verifier and the attention outputs. -/
theorem evConversionWatchdogExpiry_of_noVerifier {s : State} {c : Ch} {w : Nat} (h : (s.ch c).watchdog = some w)
    (hc : c = .p ∨ s.bag.state = .inactive) :
    (evConversionWatchdogExpiry c s).bag = s.bag ∧ (evConversionWatchdogExpiry c s).attn = s.attn := by
  rw [evConversionWatchdogExpiry_of_some h]
  split
  · next hb =>
    have hi : s.bag.state = .inactive := hc.resolve_left fun hp => nomatch hp.symm.trans hb
    rw [State.bagFault_of_inactive (by simp [hi])]
    simp
  · simp

/-- A verifier that watches is held by channel B's watchdog (R132, R133). -/
theorem evConversionWatchdogExpiry_of_watching {s : State} {w : Nat} (h : (s.ch .b).watchdog = some w)
    (hw : s.bag.state = .watching) (hk : s.bag.kind = .none) : let u := evConversionWatchdogExpiry .b s
    u.bag.state = .hold ∧ u.bag.kind = .scaleFault ∧ u.bag.baseline = s.bag.baseline
      ∧ u.attn.bagHold = { active := true, muted := false, start := max s.clock w } := by
  have hb : ((s.setClock (max s.clock w)).enterFault .b).bag = s.bag := by simp
  have hclock : ((s.setClock (max s.clock w)).enterFault .b).clock = max s.clock w := by simp
  have hheld := State.bagFault_of_watching (s := (s.setClock (max s.clock w)).enterFault .b) (by rw [hb, hw]) (by rw [hb, hk])
  dsimp only
  rw [hb, hclock] at hheld
  rw [evConversionWatchdogExpiry_of_some h, if_pos rfl]
  exact hheld

/-! ### The end of a FAULT (R23) -/

/-- In FAULT, a sample is the only one of its channel, which resumes. -/
theorem State.sampled_of_fault {s : State} {c : Ch} (h : (s.ch c).state = .fault) (hn : 1 < (s.params c).n) (r : Int) :
    (s.sampled c r).state = (s.ch c).resume ∧ (s.sampled c r).samples = [r] ∧ (s.sampled c r).latest = none
      ∧ (s.sampled c r).window = [] ∧ (s.sampled c r).zo = (s.ch c).zo ∧ (s.sampled c r).tare = (s.ch c).tare := by
  have hone : pushWindow (s.params c).n [] r = [r] := by
    rw [pushWindow, List.length_nil, Nat.zero_add, Nat.sub_eq_zero_of_le hn.le]
    rfl
  rw [State.sampled, show (s.ch c).leaveFault = _ from if_pos h]
  exact ⟨rfl, hone, rfl, rfl, rfl, rfl⟩

/-- A conversion that forms no reading leaves its channel as the sample does, but for the report last raised. -/
theorem evConversionComplete_ch {s : State} {c : Ch} {raw : BitVec 24} (hn : (s.sampled c raw.toInt).full (s.params c).n = false) :
    ((evConversionComplete c raw s).ch c).unreported = (s.sampled c raw.toInt).unreported := by
  have hc : s.convert c raw.toInt = s.setCh c (s.sampled c raw.toInt) := by simp [State.convert_eq, hn]
  rw [evConversionComplete_eq, hn, hc]
  dsimp only
  rw [apply_ite (State.ch · c), apply_ite Channel.unreported, State.raiseWeight_unreported, ite_self]
  cases c
  · rfl
  · show (State.handOnB _ _ _).chB.unreported = _
    simp [State.setCh]

/-! ### TRACKING_STEP (R33) -/

/-- The tracking step touches the channel, with its report last raised, and the link. -/
theorem State.trackZero_eq {s : State} {c : Ch} {r : Reading} (h : (s.ch c).latest = some r) : s.trackZero c = { s.setCh c { s.ch c with
    zo := max ((s.ch c).zoInit - 20 * (s.params c).max) (min ((s.ch c).zoInit + 20 * (s.params c).max) (s.scale c r.a))
    tracking := some (s.clock + 1000)
    lastReport := ((s.trackZero c).ch c).lastReport } with link := (s.trackZero c).link } := by
  have hz : (s.ch c).zo + s.latestGross c = s.scale c r.a := by
    rw [State.latestGross_of_some h]
    omega
  rw [State.trackZero, State.raiseWeight_eq, hz]
  cases c <;> rfl

theorem exec_trackZero {s : State} {c : Ch} {w : Nat} {r : Reading} (ht : (s.ch c).tracking = some w) (hr : (s.ch c).latest = some r) :
    exec (.trackingStep c) s = .next ((s.setClock (max s.clock w)).trackZero c).chooseFrame := by
  have he : evTrackingStep c s = (s.setClock (max s.clock w)).trackZero c := by
    simp only [evTrackingStep, ht, hr]
    rfl
  refine congrArg Host.Outcome.next (?_ : (evTrackingStep c s).finish s = _)
  rw [he, State.finish_of_same (by simp) (by simp) (by simp) (by simp) (by simp)]

/-- Settles O23. -/
theorem watchdogFaultsAndTrackingStepsTheZero : Obligations.WatchdogFaultsAndTrackingStepsTheZero := by
  refine fun s c => ⟨fun w hw => ?_, fun raw hf hn => ?_, fun w r ht hr => ?_⟩
  · obtain ⟨hch, hframe⟩ := evConversionWatchdogExpiry_frame hw
    have hno := evConversionWatchdogExpiry_of_noVerifier hw
    have hfin := State.finish_eq (evConversionWatchdogExpiry c s) s
    have htch := State.finish_ch (evConversionWatchdogExpiry c s) s c
    refine ⟨(evConversionWatchdogExpiry c s).finish s, rfl, ?_⟩
    generalize (evConversionWatchdogExpiry c s).finish s = t at *
    have hbag : t.bag = (evConversionWatchdogExpiry c s).bag := by rw [hfin]
    have hattn : t.attn = (evConversionWatchdogExpiry c s).attn := by rw [hfin]
    rw [htch, hbag, hattn]
    refine ⟨hch, hfin.trans (congrArg (fun v : State => { v with link := t.link }) hframe), hno, fun h hs hk => ?_⟩
    subst h
    exact evConversionWatchdogExpiry_of_watching hw hs hk
  · obtain ⟨hstate, hsamples, hlatest, hwindow, hzo, htare⟩ := State.sampled_of_fault hf hn raw.toInt
    have hfull : (s.sampled c raw.toInt).full (s.params c).n = false := by
      rw [Channel.full, hsamples]
      exact beq_false_of_ne hn.ne
    refine ⟨_, exec_conversionComplete _ _ _, ?_⟩
    have hch := evConversionComplete_ch (raw := raw) hfull
    rw [State.finish_ch]
    exact ⟨(congrArg Channel.state hch).trans hstate, (congrArg Channel.samples hch).trans hsamples,
      (congrArg Channel.latest hch).trans hlatest, (congrArg Channel.window hch).trans hwindow,
      (congrArg Channel.zo hch).trans hzo, (congrArg Channel.tare hch).trans htare⟩
  · have hu : ((s.setClock (max s.clock w)).ch c).latest = some r := by rw [← hr]; cases c <;> rfl
    have hslots : s.SlotsOnly ((s.setClock (max s.clock w)).trackZero c) :=
      (State.SlotsOnly.setCh (.of_link rfl) c _).raiseWeight c
    refine ⟨_, exec_trackZero ht hr, ?_, hslots.chooseFrame⟩
    have hlast : (((s.setClock (max s.clock w)).trackZero c).chooseFrame.ch c).lastReport =
        (((s.setClock (max s.clock w)).trackZero c).ch c).lastReport := by rw [State.chooseFrame, State.setLink_ch]
    rw [hlast, State.chooseFrame, State.trackZero_eq hu]
    cases c <;> rfl

end Sys2Proof.Machine

namespace Sys2Proof.Machine

/-! ### The moves of the calibration unit (R21) -/

/-- Of a state, only the link, the calibration unit, the channels and the priced weighing have changed. -/
def State.CalOnly (s t : State) : Prop := t = { s with link := t.link, cal := t.cal, chP := t.chP, chB := t.chB, pw := t.pw }

namespace State.CalOnly
variable {s t u : State}

theorem refl (s : State) : s.CalOnly s := rfl

theorem trans (h : s.CalOnly t) (k : t.CalOnly u) : s.CalOnly u := by
  unfold State.CalOnly at *
  rw [k, h]

theorem setLink (h : s.CalOnly t) (v : Link) : s.CalOnly (t.setLink v) := h.trans rfl
theorem setCal (h : s.CalOnly t) (v : Calib) : s.CalOnly (t.setCal v) := h.trans rfl
theorem setPw (h : s.CalOnly t) (v : Pricing) : s.CalOnly (t.setPw v) := h.trans rfl
theorem setCh (h : s.CalOnly t) (c : Ch) (v : Channel) : s.CalOnly (t.setCh c v) := h.trans (by cases c <;> rfl)

theorem ite {c : Prop} [Decidable c] (ht : s.CalOnly t) (hu : s.CalOnly u) : s.CalOnly (if c then t else u) := by
  split
  · exact ht
  · exact hu

theorem raise (h : s.CalOnly t) (k : Slot) (body : List Byte) : s.CalOnly (t.raise k body) := ite (h.setLink _) h
theorem raiseWeight (h : s.CalOnly t) (c : Ch) : s.CalOnly (t.raiseWeight c) := ite h ((h.setCh c _).raise _ _)
theorem setTare (h : s.CalOnly t) (mg : Int) : s.CalOnly (t.setTare mg) := ite h (((h.setPw _).setCh .p _).raiseWeight .p)

theorem moveChannel (h : s.CalOnly t) (c : Ch) (target : ChState) (nChanged : Bool) : s.CalOnly (t.moveChannel c target nChanged) :=
  have hc := h.setCh c ((t.ch c).moved target nChanged)
  have ht := ite (c := c = .p ∧ target.clearsTare = true) (hc.setTare 0) hc
  ite ht (ht.raiseWeight c)

theorem endSession (h : s.CalOnly t) (x : Session) : s.CalOnly (t.endSession x) := (h.setCal _).moveChannel _ _ _

/-- A command that touches no more raises no notice of the other blocks. -/
theorem finish (h : s.CalOnly t) : t.finish s = t.chooseFrame := by
  rw [h]
  exact State.finish_of_same

end State.CalOnly

theorem State.raiseWeight_ch_of_ne (s : State) {c d : Ch} (h : d ≠ c) : (s.raiseWeight c).ch d = s.ch d := by
  rw [State.raiseWeight_eq]
  exact State.setCh_ch_of_ne s h _

theorem State.setTare_chB (s : State) (mg : Int) : (s.setTare mg).chB = s.chB := by rw [State.setTare_eq]

section
variable (s : State) (c : Ch) (target : ChState) (nChanged : Bool)

/-- The channel moved, with P's tare cleared on the entries that clear it (R21). -/
def State.entered : State :=
  let u := s.setCh c ((s.ch c).moved target nChanged)
  if c = .p ∧ target.clearsTare = true then u.setTare 0 else u

theorem State.moveChannel_entered : s.moveChannel c target nChanged =
    if ((s.entered c target nChanged).ch c).state = (s.ch c).state then s.entered c target nChanged
    else (s.entered c target nChanged).raiseWeight c := rfl

/-- A move leaves the other channel as it was. -/
theorem State.moveChannel_ch_of_ne {d : Ch} (h : d ≠ c) : (s.moveChannel c target nChanged).ch d = s.ch d := by
  have he : (s.entered c target nChanged).ch d = s.ch d := by
    unfold State.entered
    dsimp only
    split
    · next hp =>
      obtain ⟨rfl, -⟩ := hp
      have hd : d = .b := by cases d <;> trivial
      subst hd
      exact State.setTare_chB _ _
    · exact State.setCh_ch_of_ne s h _
  rw [State.moveChannel_entered]
  split
  · exact he
  · exact (State.raiseWeight_ch_of_ne _ h).trans he

/-- A move of channel B leaves the priced weighing as it was. -/
theorem State.moveChannel_b_pw : (s.moveChannel .b target nChanged).pw = s.pw := by
  rw [State.moveChannel_entered]
  split
  · rfl
  · rw [State.raiseWeight_eq]
    rfl

/-- What a move makes of its channel, beside the report last raised (R21). -/
theorem State.moveChannel_ch : ((s.moveChannel c target false).ch c).unreported = { s.ch c with
    window := if (s.ch c).movedFrom.counts = target.counts then (s.ch c).window else []
    latest := if (s.ch c).movedFrom.counts = target.counts then (s.ch c).latest
      else (s.ch c).latest.map fun r => { r with stable := false }
    state := if (s.ch c).state = .fault then .fault else target
    resume := if (s.ch c).state = .fault then target else (s.ch c).resume
    zo := if target = .noZero then 0 else (s.ch c).zo
    zoInit := if target = .noZero then 0 else (s.ch c).zoInit
    tracking := if target = .noZero ∨ target = .calibrating then none else (s.ch c).tracking
    tare := if c = .p ∧ target.clearsTare = true then 0 else (s.ch c).tare
    lastReport := none } := by
  have he : ((s.entered c target false).ch c).unreported = { (s.ch c).moved target false with
      tare := if c = .p ∧ target.clearsTare = true then 0 else ((s.ch c).moved target false).tare, lastReport := none } := by
    unfold State.entered
    dsimp only
    split
    · next hp => rw [State.setTare_unreported, State.setCh_ch, if_pos hp.1]
    · rw [State.setCh_ch]
      rfl
  rw [Channel.moved_eq] at he
  rw [State.moveChannel_entered]
  split
  · exact he
  · exact (State.raiseWeight_unreported ..).trans he

end

/-! ### The metrology switch (R49, R59, R62) -/

theorem State.endSession_cal (s : State) (x : Session) : (s.endSession x).cal = { s.cal with session := none } := by
  simp [State.endSession, State.dropSession]

/-- The channel of a session that has ended is home; in FAULT its resume state is (R21, R58). -/
theorem State.endSession_ch (s : State) (x : Session) : if (s.ch x.channel).state = .fault then
      ((s.endSession x).ch x.channel).state = .fault ∧ ((s.endSession x).ch x.channel).resume = x.home
    else ((s.endSession x).ch x.channel).state = x.home := by
  have h := State.moveChannel_ch s.dropSession x.channel x.home
  rw [State.dropSession, State.setCal_ch] at h
  have hs : ((s.endSession x).ch x.channel).state = if (s.ch x.channel).state = .fault then .fault else x.home :=
    (congrArg Channel.state h :)
  have hr : ((s.endSession x).ch x.channel).resume = if (s.ch x.channel).state = .fault then x.home else (s.ch x.channel).resume :=
    (congrArg Channel.resume h :)
  rw [hs, hr]
  split
  · exact ⟨rfl, rfl⟩
  · rfl

/-- A session ends, and CAL_STATE says so. -/
theorem State.raiseCal_of_closed {s : State} (event : CalEvent) (cause : Cause) (h : s.cal.session = none) :
    s.raiseCal event cause = s.raise .calState ([Byte.of s.cal.lastChannel.code, 0, Byte.of event.code, Byte.of cause.code,
        if s.cal.switchClosed then 1 else 0]
      ++ le16 s.cal.counterP ++ le16 s.cal.counterB ++ le32 s.cal.lastRecord) := by
  rw [State.raiseCal, Calib.bytes, h]
  cases s.cal.switchClosed <;> rfl

theorem State.raiseCal_of_session {s : State} (event : CalEvent) (cause : Cause) {x : Session} (h : s.cal.session = some x) :
    s.raiseCal event cause = s.raise .calState ([Byte.of x.channel.code, if x.committing then 2 else 1, Byte.of event.code,
        Byte.of cause.code, Byte.of (flagsByte [s.cal.switchClosed, x.zeroStaged, x.spanStaged, x.paramsStaged])]
      ++ le16 s.cal.counterP ++ le16 s.cal.counterB ++ le32 s.cal.lastRecord) := by
  rw [State.raiseCal, Calib.bytes, h]
  dsimp only [sessionCode, calFlags]
  cases x.committing <;> rfl

/-- A change of the metrology switch that is one (R49, R59). -/
theorem exec_switchChange {s u : State} {closed : Bool} (h : evMetrologySwitchChange closed s = u) (hu : s.CalOnly u) :
    exec (.metrologySwitchChange closed) s = .next u.chooseFrame := by
  show Host.Outcome.next _ = _
  rw [h, hu.finish]

/-- Settles O24. -/
theorem switchChangeReportsAndEndsAnOpenSession : Obligations.SwitchChangeReportsAndEndsAnOpenSession := by
  intro s closed
  have hset : ∀ v, s.CalOnly (s.setCal v) := (State.CalOnly.refl s).setCal
  refine ⟨fun h => ?_, fun h hx => ?_, fun x h hc hx ho => ?_, fun x h hc hx => ?_, fun x h hc hx ho => ?_⟩
  · exact exec_switchChange (if_pos h) rfl
  · refine exec_switchChange ?_ ((hset _).raise _ _)
    have he : evMetrologySwitchChange closed s = (s.setCal { s.cal with switchClosed := closed }).raiseCal .switch .none := by
      rw [evMetrologySwitchChange, if_neg h]
      cases closed <;> simp [hx]
    exact he.trans (State.raiseCal_of_closed _ _ hx)
  · subst hc
    refine exec_switchChange ?_ ((hset _).raise _ _)
    have he : evMetrologySwitchChange false s = (s.setCal { s.cal with
        switchClosed := false, session := some { x with endMark := true, cause := .switch } }).raiseCal .switch .none := by
      simp [evMetrologySwitchChange, h, hx, State.switchOpens, ho, State.setSession]
      rfl
    exact he.trans ((State.raiseCal_of_session _ _ rfl).trans (by simp only [ho, if_true]; rfl))
  · subst hc
    refine exec_switchChange ?_ ((hset _).raise _ _)
    have he : evMetrologySwitchChange true s = (s.setCal { s.cal with switchClosed := true }).raiseCal .switch .none := by
      rw [evMetrologySwitchChange, if_neg (by simp [h])]
    exact he.trans (State.raiseCal_of_session _ _ hx)
  · subst hc
    have hu : s.CalOnly ((s.setCal { s.cal with switchClosed := false }).endSession x) := (hset _).endSession x
    have hcal := State.endSession_cal (s.setCal { s.cal with switchClosed := false }) x
    have hch := State.endSession_ch (s.setCal { s.cal with switchClosed := false }) x
    have hslots : s.SlotsOnly ((s.setCal { s.cal with switchClosed := false }).endSession x) :=
      (State.SlotsOnly.of_link rfl).moveChannel _ _ _
    refine ⟨_, _, exec_switchChange ?_ (hu.raise _ _), ?_, hcal, rfl, ?_, hu⟩
    · have he : evMetrologySwitchChange false s =
          ((s.setCal { s.cal with switchClosed := false }).endSession x).raiseCal .abandoned .switch := by
        simp [evMetrologySwitchChange, h, hx, State.switchOpens, ho]
      rw [he, State.raiseCal_of_closed _ _ (by rw [hcal]), hcal]
      rfl
    · obtain ⟨slots, hl⟩ := hslots
      rw [State.noticed, hl]
    · rwa [State.setCal_ch] at hch


/-! ### CAL_BEGIN and CAL_ABANDON (R50, R58) -/

/-- CAL_BEGIN, as the calibration unit takes it: the session, with its channel in CALIBRATING (R50). -/
def State.calBegun (s : State) (c : Ch) : State :=
  ((s.setCal { s.cal with session := some (s.newSession c), lastChannel := c }).moveChannel c .calibrating false).raiseCal .begun .none

theorem serveCalBegin_of_accepted {s : State} (c : Ch) (hw : s.cal.switchClosed = true) (hi : s.txn.state = .idle)
    (hx : s.cal.session = none) (hs : s.link.starting = false) :
    serveCalBegin c.code s = (s.calBegun c, .accept (le16 (s.cal.counter c))) := by
  have hr : calBeginRefusal s = none := by simp [calBeginRefusal, hw, hi, hx, hs]
  have hk : (s.calBegun c).cal.counter c = s.cal.counter c := by
    cases c <;> simp [State.calBegun, Calib.counter]
  rw [serveCalBegin, hr]
  show forChannel _ _ _ = _
  rw [forChannel_code, reqCalBegin, hr, ← hk]
  rfl

theorem State.calBegun_only (s : State) (c : Ch) : s.CalOnly (s.calBegun c) :=
  (((State.CalOnly.refl s).setCal _).moveChannel _ _ _).raise _ _

theorem State.calBegun_slots (s : State) (c : Ch) : s.SlotsOnly (s.calBegun c) :=
  (((State.SlotsOnly.of_link (rfl : s.link = s.link)).setCal _).moveChannel _ _ _).raise _ _

theorem State.calBegun_cal (s : State) (c : Ch) :
    (s.calBegun c).cal = { s.cal with session := some (s.newSession c), lastChannel := c } := by
  simp [State.calBegun]

/-- The entry of a channel into CALIBRATING (R21). -/
theorem State.calBegun_ch (s : State) (c : Ch) : let x := s.ch c; let y := (s.calBegun c).ch c
    (if x.state = .fault then y.state = .fault ∧ y.resume = .calibrating else y.state = .calibrating)
      ∧ y.tracking = none ∧ (c = .p → y.tare = 0) ∧ y.zo = x.zo ∧ y.zoInit = x.zoInit
      ∧ (x.state.weights = true → y.window = []) ∧ y.samples = x.samples := by
  have h := State.moveChannel_ch (s.setCal { s.cal with session := some (s.newSession c), lastChannel := c }) c .calibrating
  have hy : (s.calBegun c).ch c = _ := State.raise_ch _ _ _ c
  rw [State.setCal_ch] at h
  dsimp only
  rw [hy]
  refine ⟨?_, (congrArg Channel.tracking h :), fun hc => ?_, (congrArg Channel.zo h :), (congrArg Channel.zoInit h :), fun hw => ?_,
    (congrArg Channel.samples h :)⟩
  · split
    · next hf => exact ⟨(congrArg Channel.state h :).trans (if_pos hf), (congrArg Channel.resume h :).trans (if_pos hf)⟩
    · next hf => exact (congrArg Channel.state h :).trans (if_neg hf)
  · exact (congrArg Channel.tare h :).trans (if_pos ⟨hc, rfl⟩)
  · refine (congrArg Channel.window h :).trans (if_neg ?_)
    rw [Channel.movedFrom]
    revert hw
    cases (s.ch c).state <;> nofun

/-- The session of one channel leaves the other channel alone, and the priced weighing beside channel P. -/
theorem State.calBegun_b (s : State) : (s.calBegun .b).chP = s.chP ∧ (s.calBegun .b).pw = s.pw := by
  have hch : (s.calBegun .b).ch .p = s.ch .p :=
    (State.raise_ch ..).trans ((State.moveChannel_ch_of_ne _ _ _ _ (by decide)).trans (State.setCal_ch ..))
  refine ⟨hch, ?_⟩
  rw [State.calBegun, State.raiseCal, State.raise_eq]
  exact (State.moveChannel_b_pw ..).trans (State.setCal_pw ..)

theorem State.calBegun_p (s : State) : (s.calBegun .p).chB = s.chB :=
  ((State.raise_ch (s := _) (c := .b) ..).trans ((State.moveChannel_ch_of_ne _ _ _ _ (by decide)).trans (State.setCal_ch ..)) :
    (s.calBegun .p).ch .b = s.ch .b)

/-- CAL_ABANDON of an open session (R58). -/
def State.calAbandoned (s : State) (x : Session) : State := (s.endSession x).raiseCal .abandoned .request

theorem reqCalAbandon_of_open {s : State} {x : Session} (hx : s.cal.session = some x) (ho : x.committing = false) :
    reqCalAbandon s = (s.calAbandoned x, .accept []) := by
  simp [reqCalAbandon, State.openSession, hx, ho, State.calAbandoned]

theorem State.endSession_zeros (s : State) {x : Session} (hh : x.home ≠ .noZero) :
    ((s.endSession x).ch x.channel).zo = (s.ch x.channel).zo ∧ ((s.endSession x).ch x.channel).zoInit = (s.ch x.channel).zoInit := by
  have h := State.moveChannel_ch s.dropSession x.channel x.home
  rw [State.dropSession, State.setCal_ch] at h
  exact ⟨(congrArg Channel.zo h :).trans (if_neg hh), (congrArg Channel.zoInit h :).trans (if_neg hh)⟩

/-- The frame of a request of the calibration unit, in the state before its reply place was reserved. -/
theorem State.CalOnly.served {s t u : State} (h : s.reservePlace.CalOnly u) (ht : t = { u with link := t.link }) :
    t = { s with link := t.link, cal := t.cal, chP := t.chP, chB := t.chB, pw := t.pw } := by
  rw [ht, h]
  rfl

/-- Settles O25. -/
theorem calibrationSessionBeginsAndIsAbandoned : Obligations.CalibrationSessionBeginsAndIsAbandoned := by
  intro s tag c hready
  refine ⟨fun hw hi hx => ?_, fun x hx ho => ?_⟩
  · obtain ⟨t, ht, hrep, heq⟩ := exec_of_served (c := .calBegin tag (Byte.of c.code)) (u := s.reservePlace.calBegun c) hready rfl nofun
      (by rw [channelCode_toNat]; exact decide_eq_true (channelCode_le c))
      (by rw [channelCode_toNat]; show answered (serveCalBegin _ _) = _; rw [serveCalBegin_of_accepted (s := s.reservePlace) c hw hi hx hready.2]; rfl)
      (State.calBegun_slots _ c)
    have hch : t.ch c = (s.reservePlace.calBegun c).ch c := by rw [heq]; exact State.setLink_ch ..
    have hcal : t.cal = (s.reservePlace.calBegun c).cal := by rw [heq]
    obtain ⟨hstate, htracking, htare, hzo, hzoInit, hwindow, hsamples⟩ := s.reservePlace.calBegun_ch c
    rw [← hch, show s.reservePlace.ch c = s.ch c from State.setLink_ch ..] at *
    refine ⟨t, s.newSession c, ht, ?_, ?_, rfl, hstate, htracking, ?_, ?_, ?_, hzo, hzoInit, hwindow, hsamples,
      (State.calBegun_only _ c).served heq⟩
    · cases c <;> exact hrep
    · rw [hcal, State.calBegun_cal]
      cases c <;> rfl
    · rintro rfl
      exact htare rfl
    · rintro rfl
      obtain ⟨hchP, hpw⟩ := s.reservePlace.calBegun_b
      rw [heq]
      exact ⟨hchP, hpw⟩
    · rintro rfl
      rw [heq]
      exact s.reservePlace.calBegun_p
  · obtain ⟨t, ht, hrep, heq⟩ := exec_of_served (c := .calAbandon tag) (u := s.reservePlace.calAbandoned x) hready rfl nofun rfl
      (show answered (reqCalAbandon _) = _ by rw [reqCalAbandon_of_open (s := s.reservePlace) hx ho]; rfl)
      ((((State.SlotsOnly.of_link rfl).setCal _).moveChannel _ _ _).raise _ _)
    have hch : t.ch x.channel = (s.reservePlace.endSession x).ch x.channel := by
      rw [heq]
      exact (State.setLink_ch ..).trans (State.raise_ch ..)
    have hcal : t.cal = (s.reservePlace.endSession x).cal := by rw [heq]; exact (State.raise_keeps ..).2.2.2.1
    refine ⟨t, ht, hrep, ?_, ?_, fun hh => ?_, ?_⟩
    · rw [hcal, State.endSession_cal]
      rfl
    · rw [hch]
      have h := s.reservePlace.endSession_ch x
      rwa [show s.reservePlace.ch x.channel = s.ch x.channel from State.setLink_ch ..] at h
    · rw [hch]
      have h := s.reservePlace.endSession_zeros hh
      rwa [show s.reservePlace.ch x.channel = s.ch x.channel from State.setLink_ch ..] at h
    · exact (((State.CalOnly.refl _).endSession x).raise _ _ : s.reservePlace.CalOnly (s.reservePlace.calAbandoned x)).served heq


/-! ### CAL_POINT and CAL_PARAMS (R52, R53) -/

/-- A request that its block answers at once, raising no notice that follows a command: of the link the reply is all that its
place leaves (R7, R8, R9). -/
theorem exec_of_answered {s u : State} {c : Instr} {tag : Byte} {r : Request} {a : Answer} (h : s.ready)
    (hc : c.request? = some (tag, r)) (hr : r ≠ .laneReset) (hf : r.fieldsOk = true)
    (hs : serve tag r s.reservePlace = (u.reservePlace, some a)) (ht : u.txn = s.txn := by rfl) (hb : u.bag = s.bag := by rfl)
    (h₁ : u.drw1 = s.drw1 := by rfl) (h₂ : u.drw2 = s.drw2 := by rfl) (hp : u.prn = s.prn := by rfl) :
    exec c s = .next (u.answer r.kind tag a).chooseFrame := by
  have ha : s.takeRequest tag r = u.answer r.kind tag a :=
    State.takeRequest_of_answer h.1 (by rw [decide3_of_fieldsOk (s := s.reservePlace) tag h.2 hf, hs])
  rw [exec_of_request hc hr, ended, ha]
  exact congrArg _ (State.finish_of_same ht hb h₁ h₂ hp)

theorem State.openSession_of_open {s : State} {x : Session} (hx : s.cal.session = some x) (ho : x.committing = false) :
    s.openSession = .ok x := by
  simp [State.openSession, hx, ho]

/-- The count of a stable, unsaturated latest reading is one to stage (R52). -/
theorem State.pointCount_of_stable {s : State} {c : Ch} {r : Reading} (hr : (s.ch c).latest = some r) (hst : r.stable = true)
    (hsat : (s.ch c).saturated = 0) : s.pointCount c = .ok r.a := by
  simp [State.pointCount, hr, hst, State.report_not_saturated hsat]

section
variable {s : State} {x : Session}

theorem calPointZero_of_stable {r : Reading} (hx : s.openSession = .ok x) (hp : s.pointCount x.channel = .ok r.a) :
    calPointZero s = (s.setSession { x with zc := some r.a, zeroStaged := true }, .accept (leI32 r.a)) := by
  simp [calPointZero, hx, hp]

theorem calPointSpan_of_stable {r : Reading} {mass : Nat} (hx : s.openSession = .ok x) (hp : s.pointCount x.channel = .ok r.a)
    (hm : 1000 ≤ mass ∧ mass ≤ 60000000) :
    calPointSpan mass s = (s.setSession { x with span := some (r.a, (mass : Int)), spanStaged := true }, .accept (leI32 r.a)) := by
  simp [calPointSpan, hx, hp, hm]

theorem calPointSpan_of_outside {mass : Nat} (hx : s.openSession = .ok x) (hm : ¬ (1000 ≤ mass ∧ mass ≤ 60000000)) :
    calPointSpan mass s = (s, .refuse .badValue) := by
  simp [calPointSpan, hx, hm]

/-- The parameters as CAL_PARAMS stages them (R53). -/
theorem reqCalParams_of_open {max : Int} {e n st tracking : Nat} (hx : s.openSession = .ok x) :
    reqCalParams max e n st tracking s = if paramsOk x.channel max e n st = true ∧ tracking ≤ 1 then
        (s.setSession { x with
          params := { max := max.toNat, e := e, n := n, s := st, tracking := tracking == 1 }, paramsStaged := true }, .accept [])
      else (s, .refuse .badValue) := by
  have hc : (¬ paramsOk x.channel max e n st = true ∨ 1 < tracking) ↔ ¬ (paramsOk x.channel max e n st = true ∧ tracking ≤ 1) := by
    rw [not_and_or, Nat.not_le]
  simp only [reqCalParams, hx, Bool.not_eq_true', ← Bool.not_eq_true, hc, ite_not]

end

/-- The limits of R53, of a Max that is not negative. -/
theorem paramsOk_natCast (c : Ch) (max e n st : Nat) : paramsOk c max e n st = true ↔
    (e = 1 ∨ e = 2 ∨ e = 5 ∨ e = 10 ∨ e = 20 ∨ e = 50) ∧ 1 ≤ max ∧ max ≤ 60000 ∧ max % e = 0 ∧ max / e ≤ maxDivisions c
      ∧ (n = 4 ∨ n = 8 ∨ n = 16 ∨ n = 32) ∧ 4 ≤ st ∧ st ≤ 16 := by
  have hm : (max : Int) % e = 0 ↔ max % e = 0 := by norm_cast
  have hd : (max : Int) / e ≤ maxDivisions c ↔ max / e ≤ maxDivisions c := by norm_cast
  simp only [paramsOk, Bool.and_eq_true, decide_eq_true_eq, hm, hd, List.contains_eq_mem, List.mem_cons, List.not_mem_nil, or_false,
    and_assoc]
  omega

/-- A Max of the wire keeps the limits only where its sign bit is clear, and is then the number that its four bytes write. -/
theorem paramsOk_wire (c : Ch) (max : BitVec 32) (e n st : Nat) : paramsOk c max.toInt e n st = true ↔
    (e = 1 ∨ e = 2 ∨ e = 5 ∨ e = 10 ∨ e = 20 ∨ e = 50) ∧ 1 ≤ max.toNat ∧ max.toNat ≤ 60000 ∧ max.toNat % e = 0
      ∧ max.toNat / e ≤ maxDivisions c ∧ (n = 4 ∨ n = 8 ∨ n = 16 ∨ n = 32) ∧ 4 ≤ st ∧ st ≤ 16 := by
  by_cases hlt : 2 * max.toNat < 2 ^ 32
  · rw [BitVec.toInt_eq_toNat_of_lt hlt]
    exact paramsOk_natCast c max.toNat e n st
  · have hbig : ¬ max.toNat ≤ 60000 := by omega
    have hneg : ¬ (1 : Int) ≤ max.toInt := by rw [BitVec.toInt_eq_toNat_cond, if_neg hlt]; omega
    simp [paramsOk, hbig, hneg]

/-- Settles O26. -/
theorem pointsAndParametersAreStaged : Obligations.PointsAndParametersAreStaged := by
  intro s tag x hready hx ho
  have hopen : s.reservePlace.openSession = .ok x := State.openSession_of_open hx ho
  refine ⟨fun r mass hr hst hsat => ?_, fun max e n st tracking => ⟨fun hok => ?_, fun hok => ?_⟩⟩
  · have hpoint : s.reservePlace.pointCount x.channel = .ok r.a :=
      State.pointCount_of_stable (by rwa [State.reservePlace, State.setLink_ch]) hst (by rwa [State.reservePlace, State.setLink_ch])
    refine ⟨?_, fun hlo hhi => ?_, fun hm => ?_⟩
    · exact exec_of_answered (c := .calPointZero tag mass) (r := .calPoint 0 mass.toNat) hready rfl nofun rfl
        (congrArg answered (calPointZero_of_stable hopen hpoint))
    · exact exec_of_answered (c := .calPointSpan tag mass) (r := .calPoint 1 mass.toNat) hready rfl nofun rfl
        (congrArg answered (calPointSpan_of_stable hopen hpoint ⟨hlo, hhi⟩))
    · exact exec_of_answered (c := .calPointSpan tag mass) (r := .calPoint 1 mass.toNat) hready rfl nofun rfl
        (congrArg answered (calPointSpan_of_outside hopen (by omega)))
  · obtain ⟨he, hlo, hhi, hmod, hdiv, hn, hs4, hs16, ht⟩ := hok
    have hlimits := (paramsOk_wire x.channel max e.toNat n.toNat st.toNat).2 ⟨he, hlo, hhi, hmod, hdiv, hn, hs4, hs16⟩
    have hmax : max.toInt.toNat = max.toNat := by rw [BitVec.toInt_eq_toNat_of_lt (by omega), Int.toNat_natCast]
    have hserved := reqCalParams_of_open (max := max.toInt) (e := e.toNat) (n := n.toNat) (st := st.toNat)
      (tracking := tracking.toNat) hopen
    rw [if_pos ⟨hlimits, ht⟩, hmax] at hserved
    exact exec_of_answered (c := .calParams tag max e n st tracking) hready rfl nofun rfl (congrArg answered hserved)
  · have hrefused : reqCalParams max.toInt e.toNat n.toNat st.toNat tracking.toNat s.reservePlace =
        (s.reservePlace, .refuse .badValue) := by
      refine (reqCalParams_of_open hopen).trans (if_neg fun ⟨hlimits, ht⟩ => hok ?_)
      obtain ⟨he, hlo, hhi, hmod, hdiv, hn, hs4, hs16⟩ := (paramsOk_wire ..).1 hlimits
      exact ⟨he, hlo, hhi, hmod, hdiv, hn, hs4, hs16, ht⟩
    exact exec_of_answered (c := .calParams tag max e n st tracking)
      (r := .calParams max.toInt e.toNat n.toNat st.toNat tracking.toNat) hready rfl nofun rfl (congrArg answered hrefused)


/-! ### CAL_COMMIT (R54, R55) -/

/-- The validity relations, with the factor of R54 in place of the weight of a division. -/
theorem relationsOk_iff (zc cs ms : Int) (p : Params) : relationsOk zc cs ms p = true ↔
    zc < cs ∧ 1000 * (p.max : Int) ≤ 10 * ms ∧ 4 * ms ≤ (cs - zc) * (1000 * p.e) := by
  have he : (p.eMg : Int) = 1000 * p.e := by rw [Params.eMg]; norm_cast
  have hm : 1000 * (p.max : Int) ≤ 10 * ms ↔ 100 * (p.max : Int) ≤ ms := by omega
  simp only [relationsOk, Bool.and_eq_true, decide_eq_true_eq, and_assoc, he, hm]

theorem Session.staged_eq {x : Session} {zc cs ms : Int} (hz : x.zc = some zc) (hs : x.span = some (cs, ms)) :
    x.staged = if relationsOk zc cs ms x.params then some { zc := zc, cs := cs, ms := ms, params := x.params } else none := by
  simp only [Session.staged, hz, hs]

/-- What an access handed over leaves depends on the store and on the start-up alone. -/
theorem State.receives_of_same {s t : State} {a : Access} {x : Store} (hs : t.store = s.store)
    (hl : t.link.starting = s.link.starting) (h : s.receives a x) : t.receives a x := by
  unfold State.receives at *
  rwa [hs, hl]

section
variable {s : State} {x : Session} (hx : s.openSession = .ok x)
include hx

theorem reqCalCommit_of_invalid (hk : x.staged = none) : reqCalCommit s = (s, .refuse .outOfRange) := by
  simp [reqCalCommit, hx, hk]

variable {k : Calibration} (hk : x.staged = some k)
include hk

theorem reqCalCommit_of_storeFull (hc : s.store.condition = .storeFull) : reqCalCommit s = (s, .refuse .storeFull) := by
  simp [reqCalCommit, hx, hk, hc]

theorem reqCalCommit_of_failed (hc : s.store.condition = .failed) : reqCalCommit s = (s, .refuse .storeFailed) := by
  simp [reqCalCommit, hx, hk, hc]

theorem reqCalCommit_of_placesTaken (hf : s.store.condition ≠ .storeFull) (hn : s.store.condition ≠ .failed)
    (hp : 4 ≤ s.store.queue.length + s.store.waiters.length) : reqCalCommit s = (s, .refuse .busy) := by
  have ht : s.store.placesTaken = true := decide_eq_true hp
  simp [reqCalCommit, hx, hk, hf, hn, ht]

theorem reqCalCommit_of_accepted (hf : s.store.condition ≠ .storeFull) (hn : s.store.condition ≠ .failed)
    (hp : s.store.queue.length + s.store.waiters.length < 4) : reqCalCommit s =
      (((s.setSession { x with committing := true }).raiseCal .committing .none).enqueue (.write (.cal
        { channel := x.channel, carried := false, counter := sat16 (s.cal.counter x.channel + 1), cal := k })),
      .accept (le16 (sat16 (s.cal.counter x.channel + 1)))) := by
  have ht : s.store.placesTaken = false := decide_eq_false (Nat.not_le.2 hp)
  simp [reqCalCommit, hx, hk, hf, hn, ht]

end

/-- A session that commits hands its record over, with the reply place of its request still reserved (R55). -/
theorem State.committing_enqueue {s : State} {x : Session} {r : RecordBody} {store : Store} (hr : s.receives (.write r) store) :
    ((s.reservePlace.setSession { x with committing := true }).raiseCal .committing .none).enqueue (.write r) =
      (({ s with cal := { s.cal with session := some { x with committing := true } }, store := store } : State).raise .calState
        ([Byte.of x.channel.code, 2, 3, 0,
          Byte.of (flagsByte [s.cal.switchClosed, x.zeroStaged, x.spanStaged, x.paramsStaged])]
          ++ le16 s.cal.counterP ++ le16 s.cal.counterB ++ le32 s.cal.lastRecord)).reservePlace := by
  rw [State.raiseCal_of_session _ _ (x := { x with committing := true }) rfl]
  have hstarting : ∀ k body, (((s.reservePlace.setSession { x with committing := true }).raise k body).link.starting) =
      s.link.starting := fun _ _ => by unfold State.raise; split <;> rfl
  rw [State.enqueue_of_receives (State.receives_of_same (by simp) (hstarting _ _) hr)]
  show State.setStore store (if _ then _ else _) = State.reservePlace (if _ then _ else _)
  rw [apply_ite (State.setStore store), apply_ite State.reservePlace]
  rfl

/-- Settles O27. -/
theorem commitHandsOverTheStagedCalibration : Obligations.CommitHandsOverTheStagedCalibration := by
  intro s tag x zc cs ms hready hx ho hzc hspan valid counter record
  have hopen : s.reservePlace.openSession = .ok x := State.openSession_of_open hx ho
  have hstaged := Session.staged_eq hzc hspan
  have hvalid : relationsOk zc cs ms x.params = true ↔ valid := relationsOk_iff zc cs ms x.params
  have refused : ∀ {a : Answer}, reqCalCommit s.reservePlace = (s.reservePlace, a) →
      exec (.calCommit tag) s = .next (s.answer 0x17 tag a).chooseFrame := fun h =>
    exec_of_answered (c := .calCommit tag) (r := .calCommit) hready rfl nofun rfl (congrArg answered h)
  refine ⟨fun hv => ?_, fun hv hc => ?_, fun hv hc => ?_, fun hv hf hn hp store hr => ?_, fun hv hf hn hp => ?_⟩
  · rw [if_neg (mt hvalid.1 hv)] at hstaged
    exact refused (reqCalCommit_of_invalid hopen hstaged)
  all_goals rw [if_pos (hvalid.2 hv)] at hstaged
  · exact refused (reqCalCommit_of_storeFull hopen hstaged hc)
  · exact refused (reqCalCommit_of_failed hopen hstaged hc)
  · have hcounter : sat16 (s.reservePlace.cal.counter x.channel + 1) = counter := by
      rw [sat16, Nat.min_comm]
      simp only [counter]
      cases x.channel <;> rfl
    have hserved := reqCalCommit_of_accepted hopen hstaged hf hn hp
    rw [hcounter, State.committing_enqueue hr] at hserved
    refine exec_of_answered (c := .calCommit tag) (r := .calCommit) hready rfl nofun rfl (congrArg answered hserved) ?_ ?_ ?_ ?_ ?_
    all_goals rw [State.raise_eq]
  · exact refused (reqCalCommit_of_placesTaken hopen hstaged hf hn hp)


/-! ### What the idle flash leaves as it was (R100) -/

/-- Two stores that agree on what the attempts to program have spent: the numbers, the slots, the failures in a row, and the current
CAL records (R98, R101, R105). -/
structure Store.Tally (x y : Store) : Prop where
  next : y.next = x.next
  failures : y.failures = x.failures
  current : ∀ c, y.current c = x.current c
  used : ∀ j, (y.entry j).used = (x.entry j).used

theorem Store.Tally.trans {x y z : Store} (h : x.Tally y) (k : y.Tally z) : x.Tally z :=
  ⟨k.next.trans h.next, k.failures.trans h.failures, fun c => (k.current c).trans (h.current c), fun j => (k.used j).trans (h.used j)⟩

/-- A change of other fields than the table, the counts and the current CAL records. -/
theorem Store.Tally.of_same {x y : Store} (ht : y.table = x.table := by rfl) (hn : y.next = x.next := by rfl)
    (hf : y.failures = x.failures := by rfl) (hp : y.currentP = x.currentP := by rfl) (hb : y.currentB = x.currentB := by rfl) :
    x.Tally y where
  next := hn
  failures := hf
  current c := by
    cases c
    · exact hp
    · exact hb
  used j := by rw [Store.entry, Store.entry, ht]

/-- What may become of the store while the idle flash chooses: accesses leave the queue, a copy, a mark or an erase is begun or
dropped, and the store may fail for want of room for a copy. No slot and no number is used (R98). -/
structure Store.Served (x y : Store) : Prop where
  tally : x.Tally y
  failed : x.failed = true → y.failed = true
  writes : ∀ b, .write b ∈ y.queue → .write b ∈ x.queue
  noCopies : x.copies = [] → y.copies = [] ∧ y.erase = x.erase ∧ y.condition = x.condition
  noErase : x.copies = [] → x.erase = none → y.table = x.table

namespace Store.Served
variable {x y z : Store}

theorem refl (x : Store) : x.Served x := ⟨.of_same, id, fun _ => id, fun h => ⟨h, rfl, rfl⟩, fun _ _ => rfl⟩

theorem trans (h : x.Served y) (k : y.Served z) : x.Served z where
  tally := h.tally.trans k.tally
  failed := k.failed ∘ h.failed
  writes b := h.writes b ∘ k.writes b
  noCopies hc := by
    obtain ⟨hy, hey, hcy⟩ := h.noCopies hc
    obtain ⟨hz, hez, hcz⟩ := k.noCopies hy
    exact ⟨hz, hez.trans hey, hcz.trans hcy⟩
  noErase hc he := by
    obtain ⟨hy, hey, -⟩ := h.noCopies hc
    exact (k.noErase hy (hey.trans he)).trans (h.noErase hc he)

/-- An operation begun, a rotation dropped, or reads counted. -/
theorem begun (x : Store) (op : FlashOp) (r : Rotation) (n : Nat) : x.Served { x with op := op, rotation := r, damagedFound := n } :=
  ⟨.of_same, id, fun _ => id, fun h => ⟨h, rfl, rfl⟩, fun _ _ => rfl⟩

/-- Accesses that leave the queue, and a release that goes on with the marks it has left. -/
theorem ofQueue {q : List Access} (h : ∀ b, .write b ∈ q → .write b ∈ x.queue) : x.Served { x with queue := q } :=
  ⟨.of_same, id, h, fun h => ⟨h, rfl, rfl⟩, fun _ _ => rfl⟩

theorem ofCopies {l : List Ch} (h : x.copies ≠ []) : x.Served { x with copies := l } :=
  ⟨.of_same, id, fun _ => id, fun hc => absurd hc h, fun hc => absurd hc h⟩

end Store.Served

/-- A sector's mark or state changes, and its slots do not. -/
theorem Store.used_setEntry {x : Store} {i : Nat} {e : SectorEntry} (h : e.used = (x.entry i).used) (j : Nat) :
    ((x.setEntry i e).entry j).used = (x.entry j).used := by
  rw [Store.entry_setEntry]
  split
  · next hij => rw [h, hij.1]
  · rfl

/-- The next step of an erase. -/
theorem Store.Served.eraseStep {x : Store} {e : Erase} (he : x.erase = some e) : x.Served (x.eraseStep e) := by
  unfold Store.eraseStep
  split
  · exact .begun x _ x.rotation x.damagedFound
  · exact .begun x _ x.rotation x.damagedFound
  · exact ⟨⟨rfl, rfl, fun c => by cases c <;> rfl, x.used_setEntry rfl⟩, id, fun _ => id, fun h => ⟨h, rfl, rfl⟩,
      fun _ h => absurd (he.symm.trans h) nofun⟩

/-- A store that fails while copies are owed gives the erase up (R105). -/
theorem Store.fail_of_copies {x : Store} {e : Erase} (hc : x.copies ≠ []) (he : x.erase = some e) :
    x.fail = { x.setEntry e.sector { x.entry e.sector with pending := false } with
      failed := true, rotation := .none, copies := [], erase := none } := by
  obtain ⟨c, rest, hc⟩ := List.exists_cons_of_ne_nil hc
  simp only [Store.fail, hc, he]
  rfl

/-- A store that fails: its latch is set, and no mark and no copy is owed (R98, R101). -/
theorem Store.fail_cases (x : Store) : x.fail = { x with failed := true, rotation := .none, copies := [] }
    ∨ ∃ e : Erase, x.fail = { x.setEntry e.sector { x.entry e.sector with pending := false } with
        failed := true, rotation := .none, copies := [], erase := none } := by
  cases hc : x.copies with
  | nil => exact .inl (by simp [Store.fail, hc])
  | cons c rest =>
    cases he : x.erase with
    | none => exact .inl (by simp [Store.fail, hc, he])
    | some e => exact .inr ⟨e, Store.fail_of_copies (hc ▸ List.cons_ne_nil _ _) he⟩

theorem Store.fail_of_noCopies {x : Store} (h : x.copies = []) : x.fail = { x with failed := true, rotation := .none } := by
  simp only [Store.fail, h]

section
variable (x : Store)

theorem Store.fail_eq : x.fail = { x with
    table := x.fail.table, erase := x.fail.erase, failed := true, rotation := .none, copies := [] } := by
  rcases x.fail_cases with h | ⟨e, h⟩
  · rw [h]
  · rw [h]
    rfl

@[simp] theorem Store.fail_failed : x.fail.failed = true := (congrArg Store.failed x.fail_eq :)
@[simp] theorem Store.fail_rotation : x.fail.rotation = .none := (congrArg Store.rotation x.fail_eq :)
@[simp] theorem Store.fail_copies : x.fail.copies = [] := (congrArg Store.copies x.fail_eq :)
@[simp] theorem Store.fail_op : x.fail.op = x.op := (congrArg Store.op x.fail_eq :)

theorem Store.Tally.fail : x.Tally x.fail := by
  rcases x.fail_cases with h | ⟨e, h⟩
  · rw [h]
    exact .of_same
  · rw [h]
    exact ⟨rfl, rfl, fun c => by cases c <;> rfl, x.used_setEntry rfl⟩

end

/-- The store that fails for want of room for a copy (R105). -/
theorem Store.Served.fail {x : Store} (h : x.copies ≠ []) (c : StoreCondition) : x.Served { x.fail with condition := c } where
  tally := (Store.Tally.fail x).trans .of_same
  failed _ := x.fail_failed
  writes b hb := by rwa [← x.fail_queue]
  noCopies hc := absurd hc h
  noErase hc := absurd hc h

/-- What the idle flash may do to the units: a write left in the queue may end failed, which a weighing that is over and a channel
with no session do not see. -/
structure State.Served (s t : State) : Prop where
  store : s.store.Served t.store
  sales : t.txn.sales = s.txn.sales
  inForceP : t.cal.inForceP = s.cal.inForceP
  inForceB : t.cal.inForceB = s.cal.inForceB
  idle : s.pw.state = .idle → t.txn = s.txn ∧ t.bag = s.bag ∧ t.pw = { s.pw with reference := t.pw.reference }
  closed : s.cal.session = none → t.cal = s.cal ∧ t.chP = s.chP ∧ t.chB = s.chB
  noWrite : (∀ b, .write b ∉ s.store.queue) →
    t.pw = s.pw ∧ t.txn = s.txn ∧ t.bag = s.bag ∧ t.cal = s.cal ∧ t.chP = s.chP ∧ t.chB = s.chB

theorem State.moveChannel_pw (s : State) (c : Ch) (target : ChState) (nChanged : Bool) :
    (s.moveChannel c target nChanged).pw = { s.pw with reference := (s.moveChannel c target nChanged).pw.reference } := by
  have he : ∃ r, (s.entered c target nChanged).pw = { s.pw with reference := r } := by
    unfold State.entered
    dsimp only
    split
    · exact ⟨_, by rw [State.setTare_eq]; simp; rfl⟩
    · exact ⟨s.pw.reference, by simp⟩
  obtain ⟨r, hr⟩ := he
  rw [State.moveChannel_entered]
  split
  · rw [hr]
  · rw [State.raiseWeight_eq]
    simp [hr]

theorem State.endSession_pw (s : State) (x : Session) :
    (s.endSession x).pw = { s.pw with reference := (s.endSession x).pw.reference } :=
  (State.moveChannel_pw ..).trans rfl

/-! #### The owner of a write that ends failed (R57, R91) -/

theorem State.saleFailed_of_idle {s : State} (h : s.pw.state = .idle) : s.saleFailed = s := by simp [State.saleFailed, h]

theorem State.saleFailed_sales (s : State) : s.saleFailed.txn.sales = s.txn.sales := by
  unfold State.saleFailed
  split
  · simp only [State.endRequest]
    split <;> simp [State.clearInFlight, State.releaseSlot]
  · simp
  · rfl

theorem State.commitFailed_of_closed {s : State} (h : s.cal.session = none) : s.commitFailed = s := by simp [State.commitFailed, h]

/-- A commit that fails while its session is to end (R57, R59). -/
theorem State.commitFailed_of_marked {s : State} {x : Session} (h : s.cal.session = some x) (hm : x.endMark = true) :
    s.commitFailed = (s.endSession x).raiseCal .failed x.cause := by
  simp [State.commitFailed, h, hm]

/-- A commit that fails returns to OPEN (R57). -/
theorem State.commitFailed_of_unmarked {s : State} {x : Session} (h : s.cal.session = some x) (hm : x.endMark = false) :
    s.commitFailed = (s.setCal { s.cal with session := some { x with committing := false } }).raiseCal .failed .none := by
  simp [State.commitFailed, h, hm]

/-- The session aside, the calibration unit keeps what it had, and a priced weighing its reference aside. -/
theorem State.commitFailed_cal (s : State) : s.commitFailed.cal = { s.cal with session := s.commitFailed.cal.session }
    ∧ s.commitFailed.pw = { s.pw with reference := s.commitFailed.pw.reference } := by
  cases h : s.cal.session with
  | none => rw [State.commitFailed_of_closed h]; exact ⟨rfl, rfl⟩
  | some x =>
    cases hm : x.endMark with
    | true =>
      have hcal := s.endSession_cal x
      have hpw := s.endSession_pw x
      rw [State.commitFailed_of_marked h hm]
      exact ⟨by simp [hcal], by simpa using hpw⟩
    | false => rw [State.commitFailed_of_unmarked h hm]; simp

namespace State.Served
variable {s t u : State}

theorem trans (h : s.Served t) (k : t.Served u) : s.Served u where
  store := h.store.trans k.store
  sales := k.sales.trans h.sales
  inForceP := k.inForceP.trans h.inForceP
  inForceB := k.inForceB.trans h.inForceB
  idle hs := by
    obtain ⟨htxn, hbag, hpw⟩ := h.idle hs
    obtain ⟨ktxn, kbag, kpw⟩ := k.idle (by rw [hpw]; exact hs)
    exact ⟨ktxn.trans htxn, kbag.trans hbag, kpw.trans (by rw [hpw])⟩
  closed hs := by
    obtain ⟨hcal, hp, hb⟩ := h.closed hs
    obtain ⟨kcal, kp, kb⟩ := k.closed (by rw [hcal]; exact hs)
    exact ⟨kcal.trans hcal, kp.trans hp, kb.trans hb⟩
  noWrite hs := by
    obtain ⟨hpw, htxn, hbag, hcal, hp, hb⟩ := h.noWrite hs
    obtain ⟨kpw, ktxn, kbag, kcal, kp, kb⟩ := k.noWrite fun b hm => hs b (h.store.writes b hm)
    exact ⟨kpw.trans hpw, ktxn.trans htxn, kbag.trans hbag, kcal.trans hcal, kp.trans hp, kb.trans hb⟩

/-- Of the units nothing changes. -/
theorem of_store (h : s.store.Served t.store) (hpw : t.pw = s.pw := by simp) (htxn : t.txn = s.txn := by simp)
    (hbag : t.bag = s.bag := by simp) (hcal : t.cal = s.cal := by simp) (hp : t.chP = s.chP := by simp)
    (hb : t.chB = s.chB := by simp) : s.Served t where
  store := h
  sales := by rw [htxn]
  inForceP := by rw [hcal]
  inForceB := by rw [hcal]
  idle _ := ⟨htxn, hbag, by rw [hpw]⟩
  closed _ := ⟨hcal, hp, hb⟩
  noWrite _ := ⟨hpw, htxn, hbag, hcal, hp, hb⟩

theorem refl (s : State) : s.Served s := of_store (.refl _)

theorem setStore {x : Store} (h : s.store.Served x) : s.Served (s.setStore x) := of_store h

theorem popAccess (s : State) : s.Served s.popAccess := setStore (.ofQueue fun _ => List.mem_of_mem_tail)

theorem failCopies (h : s.store.copies ≠ []) : s.Served s.failCopies :=
  of_store (by rw [State.failCopies, State.evalCondition_store]; exact .fail h _)

/-- The write at the head ends failed, and its owner is told (R101). -/
theorem failWrite {r : RecordBody} {rest : List Access} (hq : s.store.queue = .write r :: rest) :
    s.Served (s.popAccess.failWrite r) := by
  have hwrite : ¬ ∀ b, .write b ∉ s.store.queue := fun h => h r (by simp [hq])
  have hstore : s.store.Served (s.popAccess.failWrite r).store := by simpa using (popAccess s).store
  cases r with
  | sale f =>
    refine ⟨hstore, ?_, by simp [State.failWrite], by simp [State.failWrite], fun hi => ?_, fun _ => by simp [State.failWrite],
      (absurd · hwrite)⟩
    · exact s.popAccess.saleFailed_sales.trans (by simp)
    · rw [State.failWrite, State.saleFailed_of_idle (by simpa using hi)]
      simp
  | cal k =>
    obtain ⟨hcal, hpw⟩ := s.popAccess.commitFailed_cal
    refine ⟨hstore, by simp [State.failWrite], (congrArg Calib.inForceP hcal :), (congrArg Calib.inForceB hcal :),
      fun _ => ⟨by simp [State.failWrite], by simp [State.failWrite], hpw⟩, fun hc => ?_, (absurd · hwrite)⟩
    rw [State.failWrite, State.commitFailed_of_closed (by simpa using hc)]
    simp

/-- A read at the head ends with its result (R102). -/
theorem endRead (s : State) (a : Access) (health : List Health) : s.Served (s.endRead a health) := by
  refine of_store ?_
  have hstore : ∃ n, (s.endRead a health).store = { s.popAccess.store with damagedFound := n } := by
    simp only [State.endRead]
    split <;> exact ⟨_, by simp [State.ite_fields, State.reply, State.pushReply]; rfl⟩
  obtain ⟨n, hn⟩ := hstore
  rw [hn]
  exact (popAccess s).store.trans (.begun _ s.popAccess.store.op s.popAccess.store.rotation n)

/-- The next step of the erase, or nothing. -/
theorem serveErase (s : State) : s.Served
    (match s.store.erase with | some y => (s.setStore (s.store.eraseStep y), false) | none => (s, false)).1 := by
  split
  · next he => exact setStore (.eraseStep he)
  · exact refl s

/-- One choice of the idle flash (R100). -/
theorem choose1 (s : State) : s.Served s.choose1.1 := by
  have hop : ∀ op, s.Served (s.setStore { s.store with op := op }) := fun op =>
    setStore (.begun _ op s.store.rotation s.store.damagedFound)
  fun_cases State.choose1 s
  case case1 | case2 | case6 | case10 | case13 => exact hop _
  case case3 => exact setStore (.begun _ s.store.op .none s.store.damagedFound)
  case case4 hc _ => exact setStore (.ofCopies (hc ▸ List.cons_ne_nil _ _))
  case case5 hc _ _ => exact failCopies (hc ▸ List.cons_ne_nil _ _)
  case case7 | case9 => exact serveErase s
  case case8 hq _ _ => exact failWrite hq
  case case11 => exact popAccess s
  case case12 rest hq i more _ _ =>
    have hwrites : ∀ b, .write b ∈ .release (i :: more) :: rest → .write b ∈ s.store.queue := fun b hb =>
      hq ▸ List.mem_cons_of_mem _ ((List.mem_cons.1 hb).resolve_left nofun)
    exact setStore ((Store.Served.ofQueue hwrites).trans (.begun _ (.markReleased i) s.store.rotation s.store.damagedFound))
  case case14 => exact endRead s _ _

theorem pumpN (k : Nat) (s : State) : s.Served (s.pumpN k) := by
  induction k generalizing s with
  | zero => exact refl s
  | succ k ih =>
    rw [State.pumpN]
    dsimp only
    split
    · exact refl s
    · split
      · exact (choose1 s).trans (ih _)
      · exact choose1 s

theorem pump (s : State) : s.Served s.pump := by
  unfold State.pump
  split
  · exact refl s
  · exact pumpN 16 s

end State.Served


/-! ### An attempt to program a record (R98, R101) -/

/-- The store with the next slot of a sector and the next number spent, and the flash idle (R98). -/
def Store.spent (x : Store) (i : Nat) : Store :=
  { x.setEntry i { x.entry i with first := (x.entry i).first.or (some x.next), used := (x.entry i).used + 1 } with
    next := x.next + 1, op := .idle }

/-- The store that a record program which verifies leaves (R101, R104, R105). -/
def Store.programmed (x : Store) (i : Nat) (r : RecordBody) (copies : List Ch) : Store :=
  ({ x.spent i with failures := 0, copies := copies }.noteCal x.next r).checkLast.oweRotation

/-- The store that a record program which fails leaves, its condition aside (R101). -/
def Store.programFailed (x : Store) (i : Nat) : Store := (x.spent i).countFailure.checkLast.oweRotation

section
variable {s : State} {i : Nat} {x : FlashSector} (hi : s.store.active = some i) (hx : s.flash[i]? = some x)
include hi hx

theorem State.takeSlot_of_active (u : UsedSlot) : (s.setStore s.store.opEnds).takeSlot u =
    (s.setStore (s.store.spent i)).setFlash (s.flash.set i { x with slots := x.slots ++ [u] }) := by
  have ha : (s.setStore s.store.opEnds).store.active = some i := hi
  have hf : Flash.program i u s.flash = s.flash.set i { x with slots := x.slots ++ [u] } := Flash.modify_of_get hx _
  unfold State.takeSlot
  rw [ha, ← hf]
  rfl

theorem State.programmed_of_active (r : RecordBody) (copies : List Ch) : s.programmed r copies =
    (s.setStore (s.store.programmed i r copies)).setFlash (s.flash.set i { x with slots := x.slots ++ [.record s.store.next r] }) := by
  unfold State.programmed
  dsimp only
  rw [State.takeSlot_of_active hi hx]
  rfl

theorem State.programFailed_of_active : s.programFailed =
    ((s.setStore (s.store.programFailed i)).setFlash (s.flash.set i { x with slots := x.slots ++ [.cleared] })).evalCondition := by
  unfold State.programFailed
  dsimp only
  rw [State.takeSlot_of_active hi hx]
  rfl

end

/-! #### The slot and the number spent (R98) -/

section
variable {x : Store} {i : Nat}

theorem Store.lt_of_active (h : x.active = some i) : i < x.table.length :=
  (List.findIdx?_eq_some_iff_findIdx_eq.1 h).1

theorem Store.spent_entry (h : x.active = some i) : (x.spent i).entry i =
    { x.entry i with first := (x.entry i).first.or (some x.next), used := (x.entry i).used + 1 } :=
  (Store.entry_setEntry ..).trans (if_pos ⟨rfl, Store.lt_of_active h⟩)

theorem Store.spent_entry_of_ne {j : Nat} (h : j ≠ i) : (x.spent i).entry j = x.entry j :=
  (Store.entry_setEntry ..).trans (if_neg fun hij => h hij.1.symm)

/-- A slot spent moves no sector to another state. -/
theorem Store.spent_states : (x.spent i).table.map (·.state) = x.table.map (·.state) := by
  refine (List.map_set ..).trans ?_
  by_cases hl : i < x.table.length
  · have he : (x.entry i).state = (x.table.map (·.state))[i]'(by simpa using hl) := by simp [Store.entry, hl]
    dsimp only
    rw [he, List.set_getElem_self]
  · exact List.set_eq_of_length_le (by simpa using hl)

theorem Store.spent_active : (x.spent i).active = x.active := by
  have hs : ∀ y : Store, y.active = (y.table.map (·.state)).findIdx? (· == .active) := fun y => by
    rw [List.findIdx?_map]
    rfl
  rw [hs, hs, Store.spent_states]

theorem Store.spent_anyErased : (x.spent i).anyErased = x.anyErased := by
  have hs : ∀ y : Store, y.anyErased = (y.table.map (·.state)).any (· == .erased) := fun y => by
    rw [List.any_map]
    rfl
  rw [hs, hs, Store.spent_states]

theorem Store.spent_room (h : x.active = some i) : (x.spent i).room = 128 - ((x.entry i).used + 1) := by
  rw [Store.room, Store.spent_active, h]
  dsimp only
  rw [Store.spent_entry h]
  rfl

theorem Store.holdsCurrent_congr {y : Store} {j : Nat} {c : Ch} (he : y.entry j = x.entry j) (hp : y.currentP = x.currentP)
    (hb : y.currentB = x.currentB) : y.holdsCurrent j c ↔ x.holdsCurrent j c := by
  unfold Store.holdsCurrent
  rw [he, hp, hb]

end

theorem Store.noteCal_eq (x : Store) (n : Nat) (r : RecordBody) : x.noteCal n r = { x with
    currentP := (x.noteCal n r).currentP, currentB := (x.noteCal n r).currentB } := by
  unfold Store.noteCal Store.setCurrent
  repeat' split
  all_goals rfl

theorem Store.noteCal_current (x : Store) (n : Nat) (k : CalFields) :
    (x.noteCal n (.cal k)).current k.channel = some { number := n, fields := k } := by
  rw [Store.noteCal]
  cases k.channel <;> rfl

/-- With a number left, the store goes on (R98). -/
theorem Store.checkLast_of_left {x : Store} (h : x.next ≤ 4294967295) : x.checkLast = x := if_neg (Nat.not_lt.2 h)
theorem Store.checkLast_of_none {x : Store} (h : 4294967295 < x.next) : x.checkLast = x.fail := if_pos h

/-- One failure more, short of the third in a row (R101). -/
theorem Store.countFailure_of_few {x : Store} (h : x.failures < 2) : x.countFailure = { x with failures := x.failures + 1 } :=
  if_neg (by simp only [Config.maxFailures]; omega)

/-- The third failure in a row fails the store (R101). -/
theorem Store.countFailure_of_third {x : Store} (h : 2 ≤ x.failures) : x.countFailure = { x with failures := x.failures + 1 }.fail :=
  if_pos (by simp only [Config.maxFailures]; omega)

theorem Store.oweRotation_eq (x : Store) : x.oweRotation = { x with rotation := x.oweRotation.rotation } := by
  simp only [Store.oweRotation]
  repeat' split
  all_goals rfl

/-- With a slot left, or no sector to go on with, no rotation is owed (R104). -/
theorem Store.oweRotation_of_room {x : Store} (h : x.room ≠ 0 ∨ x.anyErased = false) : x.oweRotation = x := by
  simp only [Store.oweRotation]
  split
  · exact if_neg fun ⟨hr, he, _⟩ => h.elim (· hr) (nomatch he.symm.trans ·)
  · rfl

/-- A store that has failed rotates no more (R104). -/
theorem Store.oweRotation_of_failed {x : Store} (h : x.failed = true) : x.oweRotation = x := by
  simp only [Store.oweRotation]
  split
  · exact if_neg fun ⟨_, _, hf, _⟩ => by simp [h] at hf
  · rfl

/-- The last slot used, with a sector ERASED, owes the rotation (R104). -/
theorem Store.oweRotation_of_full {x : Store} {i : Nat} (hi : x.active = some i) (hr : x.room = 0) (he : x.anyErased = true)
    (hf : x.failed = false) (hn : x.rotation = .none) : x.oweRotation = { x with rotation := .owesFull i } := by
  simp [Store.oweRotation, hi, hr, he, hf, hn]

section
variable (x : Store)

@[simp] theorem Store.oweRotation_op : x.oweRotation.op = x.op := (congrArg Store.op x.oweRotation_eq :)
@[simp] theorem Store.oweRotation_failed : x.oweRotation.failed = x.failed := (congrArg Store.failed x.oweRotation_eq :)
@[simp] theorem Store.oweRotation_copies : x.oweRotation.copies = x.copies := (congrArg Store.copies x.oweRotation_eq :)
@[simp] theorem Store.oweRotation_erase : x.oweRotation.erase = x.erase := (congrArg Store.erase x.oweRotation_eq :)

theorem Store.Tally.oweRotation : x.Tally x.oweRotation := by
  rw [x.oweRotation_eq]
  exact .of_same

theorem Store.Tally.checkLast : x.Tally x.checkLast := by
  unfold Store.checkLast
  split
  · exact .fail x
  · exact .of_same

theorem Store.Tally.countFailure : Store.Tally { x with failures := x.failures + 1 } x.countFailure := by
  simp only [Store.countFailure]
  split
  · exact .fail _
  · exact .of_same

end

/-! #### What an attempt leaves -/

section
variable {x : Store} {i : Nat} (hi : x.active = some i)
include hi

/-- The attempt uses its slot and its number whether or not it verifies (R98). -/
theorem Store.programmed_spends (r : RecordBody) (copies : List Ch) : (x.programmed i r copies).next = x.next + 1
    ∧ ((x.programmed i r copies).entry i).used = (x.entry i).used + 1 ∧ (x.programmed i r copies).failures = 0 := by
  have ht := (Store.Tally.checkLast ({ x.spent i with failures := 0, copies := copies }.noteCal x.next r)).trans (.oweRotation _)
  rw [Store.programmed]
  refine ⟨ht.next.trans ?_, (ht.used i).trans ?_, ht.failures.trans ?_⟩
  · rw [Store.noteCal_eq]
    rfl
  · rw [Store.noteCal_eq]
    exact congrArg SectorEntry.used (Store.spent_entry hi)
  · rw [Store.noteCal_eq]

theorem Store.programFailed_spends : (x.programFailed i).next = x.next + 1
    ∧ ((x.programFailed i).entry i).used = (x.entry i).used + 1 ∧ (x.programFailed i).failures = x.failures + 1
    ∧ ∀ c, (x.programFailed i).current c = x.current c := by
  have ht := ((Store.Tally.countFailure (x.spent i)).trans (.checkLast _)).trans (.oweRotation _)
  exact ⟨ht.next, (ht.used i).trans (congrArg SectorEntry.used (Store.spent_entry hi)), ht.failures,
    fun c => (ht.current c).trans (by cases c <;> rfl)⟩

/-- With the last slot used and a sector ERASED, the rotation is owed (R104). -/
theorem Store.programmed_of_lastSlot (r : RecordBody) (copies : List Ch) (hf : x.failed = false) (hn : x.next < 4294967295)
    (hr : x.rotation = .none) (hu : (x.entry i).used = 127) (he : x.anyErased = true) : x.programmed i r copies =
      { { x.spent i with failures := 0, copies := copies }.noteCal x.next r with rotation := .owesFull i } := by
  have hroom := Store.spent_room hi
  rw [hu] at hroom
  rw [Store.programmed, Store.noteCal_eq, Store.checkLast_of_left (by exact hn)]
  exact Store.oweRotation_of_full (Store.spent_active.trans hi) hroom (Store.spent_anyErased.trans he) hf hr

/-- With a slot and a number left, a copy written owes no rotation (R104). -/
theorem Store.programmed_of_left (r : RecordBody) (copies : List Ch) (hn : x.next < 4294967295) (hu : (x.entry i).used < 127) :
    x.programmed i r copies = { x.spent i with failures := 0, copies := copies }.noteCal x.next r := by
  have hroom : (x.spent i).room ≠ 0 := by rw [Store.spent_room hi]; omega
  rw [Store.programmed, Store.noteCal_eq, Store.checkLast_of_left (by exact hn)]
  exact Store.oweRotation_of_room (.inl hroom)

omit hi in
/-- The last number, spent on the last copy, fails the store and keeps the erase (R98, log entry 64). -/
theorem Store.programmed_of_lastNumber (r : RecordBody) (hn : x.next = 4294967295) :
    (x.programmed i r []).failed = true ∧ (x.programmed i r []).copies = [] ∧ (x.programmed i r []).erase = x.erase := by
  have hlast : 4294967295 < x.next + 1 := by omega
  rw [Store.programmed, Store.noteCal_eq, Store.checkLast_of_none (by exact hlast), Store.fail_of_noCopies rfl]
  exact ⟨Store.oweRotation_failed _, Store.oweRotation_copies _, Store.oweRotation_erase _⟩

/-- A failure that neither ends the slots nor the numbers, nor fails the store, is counted alone (R101). -/
theorem Store.programFailed_of_few (hf : x.failures < 2) (hn : x.next < 4294967295)
    (hu : (x.entry i).used < 127 ∨ x.anyErased = false) :
    x.programFailed i = { x.spent i with failures := x.failures + 1 } := by
  have hc : (x.spent i).countFailure = { x.spent i with failures := x.failures + 1 } := Store.countFailure_of_few hf
  rw [Store.programFailed, hc, Store.checkLast_of_left (by exact hn)]
  refine Store.oweRotation_of_room (hu.imp (fun hu => ?_) (Store.spent_anyErased.trans ·))
  have hroom := Store.spent_room hi
  change (x.spent i).room ≠ 0
  omega

omit hi in
/-- The third failure in a row, and the last number, fail the store (R98, R101). -/
theorem Store.programFailed_of_last (h : 2 ≤ x.failures ∨ x.next = 4294967295) : (x.programFailed i).failed = true
    ∧ (x.programFailed i).rotation = .none ∧ (x.programFailed i).copies = [] ∧ (x.programFailed i).op = .idle := by
  have hfail : ∃ y : Store, (x.spent i).countFailure.checkLast = y.fail ∧ y.op = .idle := by
    by_cases hn : 4294967295 < (x.spent i).countFailure.next
    · refine ⟨_, Store.checkLast_of_none hn, ?_⟩
      simp only [Store.countFailure]
      split <;> simp [Store.spent]
    · have hnext : (x.spent i).countFailure.next = x.next + 1 := (Store.Tally.countFailure (x.spent i)).next
      have hthird : 2 ≤ x.failures := h.resolve_right (by omega)
      refine ⟨{ x.spent i with failures := (x.spent i).failures + 1 }, ?_, rfl⟩
      rw [Store.checkLast_of_left (by omega)]
      exact Store.countFailure_of_third hthird
  obtain ⟨y, hy, hop⟩ := hfail
  rw [Store.programFailed, hy, Store.oweRotation_of_failed y.fail_failed]
  simp [hop]

end


/-! ### The owner of a record that is written or fails (R56, R90, R91, R93) -/

/-- The expectation that a sale makes of its reservation (R90, R121). -/
def State.soldEntry (s : State) (n : Nat) (expected tolerance : Int) : Expect where
  dir := .add
  ref := n
  origin := .sale
  expected := expected
  tolerance := tolerance
  skippable := false
  deadline := some (s.clock + s.bag.placementS * 1000)
  overdue := false
  held := false

theorem State.convertSlot_eq (s : State) (n : Nat) (expected tolerance : Int) : s.convertSlot n expected tolerance =
    s.setBag (if s.bag.reserved = 0 then s.bag
      else { s.bag with reserved := 0, entries := s.bag.entries ++ [s.soldEntry n expected tolerance] }) := by
  unfold State.convertSlot
  split <;> rfl

theorem State.convertSlot_bag (s : State) (n : Nat) (expected tolerance : Int) (h : 0 < s.bag.reserved) :
    (s.convertSlot n expected tolerance).bag =
      { s.bag with reserved := 0, entries := s.bag.entries ++ [s.soldEntry n expected tolerance] } := by
  rw [State.convertSlot_eq, State.setBag_bag, if_neg (by omega)]

/-- The sale listed with its number, and its reservation turned into an expectation (R90). -/
def State.saleListed (s : State) (n : Nat) (l : Latch) : State :=
  (s.setTxn { s.txn with
    sales := s.txn.sales ++ [{ number := n, net := l.net, price := l.price, queued := false, printed := false }] }).setBag
    (if s.pw.reserved = true then (s.convertSlot n l.net s.pw.tolerance).bag else s.bag)

/-- The tare cleared where tare_autoclear is 1 (R90). -/
def State.tareCleared (s : State) : State := if s.pw.tareAutoclear = true then s.setTare 0 else s

theorem State.tareCleared_units (s : State) : s.tareCleared.txn = s.txn ∧ s.tareCleared.bag = s.bag
    ∧ s.tareCleared.pw = { s.pw with reference :=
        if s.pw.tareAutoclear = true ∧ s.pw.rearm = false then s.pw.reference + s.chP.tare / 1000 else s.pw.reference }
    ∧ s.tareCleared.chP.tare = (if s.pw.tareAutoclear = true then 0 else s.chP.tare) := by
  unfold State.tareCleared
  cases ha : s.pw.tareAutoclear with
  | false => simp
  | true => cases hm : s.pw.rearm <;> simp [hm, State.setTare_zero_pw, State.setTare_tare]

theorem State.saleWritten_eq {s : State} {l : Latch} (n : Nat) (hs : s.pw.state = .storing) (hl : s.pw.latch = some l) :
    s.saleWritten n = ((s.saleListed n l).tareCleared.clearInFlight.setPw
      ((s.saleListed n l).tareCleared.pw.ended .done .none n)).raisePrice := by
  have hw : ∀ t : Txn, (if s.pw.reserved = true then (s.setTxn t).convertSlot n l.net s.pw.tolerance else s.setTxn t) =
      (s.setTxn t).setBag (if s.pw.reserved = true then (s.convertSlot n l.net s.pw.tolerance).bag else s.bag) := fun t => by
    rw [State.convertSlot_eq, State.convertSlot_eq]
    split <;> rfl
  simp only [State.saleWritten, hs, hl]
  rw [State.setTxn_pw, hw]
  rfl

/-- A weighing whose record is written: the sale is listed, and the request ends DONE (R90, R84). -/
theorem State.saleWritten_of_storing {s : State} {l : Latch} (n : Nat) (hs : s.pw.state = .storing) (hl : s.pw.latch = some l) :
    (s.saleWritten n).txn = { s.txn with
        sales := s.txn.sales ++ [{ number := n, net := l.net, price := l.price, queued := false, printed := false }]
        inFlight := false }
      ∧ (s.saleWritten n).bag = (if s.pw.reserved = true then (s.convertSlot n l.net s.pw.tolerance).bag else s.bag)
      ∧ (s.saleWritten n).pw = { s.pw.ended .done .none n with
          reference := if s.pw.tareAutoclear = true ∧ s.pw.rearm = false then s.pw.reference + s.chP.tare / 1000
            else s.pw.reference }
      ∧ (s.saleWritten n).chP.tare = (if s.pw.tareAutoclear = true then 0 else s.chP.tare) := by
  obtain ⟨htxn, hbag, hpw, htare⟩ := (s.saleListed n l).tareCleared_units
  rw [State.saleWritten_eq n hs hl]
  refine ⟨?_, ?_, ?_, ?_⟩
  · simp only [State.raisePrice_keeps, State.setPw_txn, State.clearInFlight, State.setTxn_txn]
    rw [htxn]
    rfl
  · simp only [State.raisePrice_keeps, State.setPw_bag, State.clearInFlight_keeps]
    exact hbag
  · simp only [State.raisePrice_keeps, State.setPw_pw]
    rw [hpw]
    rfl
  · simp only [State.raisePrice_keeps, State.setPw_chP, State.clearInFlight_keeps]
    exact htare

/-- A weighing that was detached before its record is written (R93). -/
theorem State.saleWritten_of_detached {s : State} (n : Nat) (hs : s.pw.state = .detached) :
    s.saleWritten n = (s.setPw (s.pw.ended .aborted .none n)).raisePrice := by
  simp [State.saleWritten, hs]

/-- A weighing whose record fails (R91). -/
theorem State.saleFailed_of_storing {s : State} (hs : s.pw.state = .storing) :
    s.saleFailed.pw = { s.pw.ended .storeFailed .none 0 with rearm := true }
      ∧ s.saleFailed.txn = { s.txn with inFlight := false }
      ∧ s.saleFailed.bag = { s.bag with reserved := if s.pw.reserved = true then 0 else s.bag.reserved } := by
  cases hr : s.pw.reserved <;>
    simp [State.saleFailed, hs, hr, State.endRequest, State.releaseSlot, State.clearInFlight, Pricing.ended]

/-- A detached weighing whose record fails (R93). -/
theorem State.saleFailed_of_detached {s : State} (hs : s.pw.state = .detached) :
    s.saleFailed = (s.setPw { s.pw.ended .aborted .none 0 with rearm := true }).raisePrice := by
  simp [State.saleFailed, hs, Pricing.ended]

/-- A commit that is written (R56). -/
theorem State.commitWritten_of_session {s : State} {y : Session} (n : Nat) (k : CalFields) (h : s.cal.session = some y) :
    (s.commitWritten n k).cal = { s.cal.install k.channel k.counter k.cal with lastRecord := n, session := none }
      ∧ ((s.commitWritten n k).ch k.channel).standing = (s.ch k.channel).standing.uprooted := by
  simp only [State.commitWritten, h]
  refine ⟨by simp, ?_⟩
  rw [State.raiseCal, State.raise_ch, State.moveChannel_standing, if_pos rfl, Channel.moved_noZero, State.setCal_ch]

/-- The calibration of a written record is in force with its counter, and the other channel's as it was (R56). -/
theorem Calib.install_cases (k : Calib) (c : Ch) (counter : Nat) (cal : Calibration) : match c with
    | .p => (k.install c counter cal).inForceP = some cal ∧ (k.install c counter cal).counterP = counter
        ∧ (k.install c counter cal).inForceB = k.inForceB
    | .b => (k.install c counter cal).inForceB = some cal ∧ (k.install c counter cal).counterB = counter
        ∧ (k.install c counter cal).inForceP = k.inForceP := by
  cases c <;> exact ⟨rfl, rfl, rfl⟩

theorem State.SlotsOnly.tellWritten (s : State) (n : Nat) (r : RecordBody) : s.SlotsOnly (s.tellWritten n r) := by
  have h0 : s.SlotsOnly s := .of_link rfl
  cases r with
  | sale f =>
    simp only [State.tellWritten, State.saleWritten]
    split
    · refine State.SlotsOnly.raise (State.SlotsOnly.setPw (State.SlotsOnly.setTxn ?_ _) _) _ _
      have hconv : ∀ {u : State} {a b c}, s.SlotsOnly u → s.SlotsOnly (if u.pw.reserved = true then u.convertSlot a b c else u) :=
        fun hu => .ite (.ite hu (hu.setBag _)) hu
      exact .ite ((hconv (h0.setTxn _)).setTare 0) (hconv (h0.setTxn _))
    · exact (h0.setPw _).raise _ _
    · exact h0
  | cal k =>
    simp only [State.tellWritten, State.commitWritten]
    split
    · exact h0
    · exact ((h0.setCal _).moveChannel _ _ _).raise _ _

/-! ### The choices that follow a record program (R100) -/

/-- The FULL mark of a rotation owed, with RELEASED where the release point covers the sector (R104). -/
theorem State.choose1_of_owesFull {s : State} {i : Nat} (h : s.store.rotation = .owesFull i) : s.choose1 =
    (s.setStore { s.store with op := .markFull i (decide ((s.store.entry i).last ≤ s.store.releasePoint)) }, false) := by
  simp only [State.choose1, h]

section
variable {s : State} {r : RecordBody} {rest : List Access} (hr : s.store.rotation = .none) (hc : s.store.copies = [])
  (hq : s.store.queue = .write r :: rest)
include hr hc hq

/-- In a store that has failed, the write at the head ends failed (R101). -/
theorem State.choose1_of_lostWrite (hf : s.store.condition = .failed) : s.choose1 = (s.popAccess.failWrite r, true) := by
  simp [State.choose1, hr, hc, hq, hf]

/-- With room beyond the reserve, the write at the head is programmed (R101). -/
theorem State.choose1_of_write (hf : s.store.condition ≠ .failed) (hn : s.store.condition ≠ .storeFull) (hroom : 2 < s.store.room) :
    s.choose1 = (s.setStore { s.store with op := .programHead }, false) := by
  have hb : s.store.headBlocked = false := by
    have hle : ¬ s.store.room ≤ Config.reserveSlots := Nat.not_le.2 hroom
    simp [Store.headBlocked, hq, hle]
  simp [State.choose1, hr, hc, hq, hf, hn, hb, Nat.ne_zero_of_lt hroom]

end

/-- A first choice that ends at once is followed by the others. -/
theorem State.pump_of_choose1_again {s u : State} (hs : s.link.starting = false) (ho : s.store.op = .idle)
    (hc : s.choose1 = (u, true)) : s.pump = u.pumpN 15 := by
  simp [State.pump, hs, State.pumpN, ho, hc]

/-- With room beyond the reserve, a store that has not failed takes writes (R99). -/
theorem Store.judge_of_room {x : Store} (hf : x.failed = false) (hroom : 2 < x.room) : x.judge ≠ .failed ∧ x.judge ≠ .storeFull := by
  have hle : ¬ x.room ≤ Config.reserveSlots := Nat.not_le.2 hroom
  unfold Store.judge
  rw [hf, if_neg (by decide), if_neg hle]
  split <;> exact ⟨nofun, nofun⟩


/-! ### The record at the head of the queue (R101) -/

/-- The record at the head verifies: it leaves the queue, and the condition is judged anew (R99, R101). -/
def State.headRecorded (s : State) (r : RecordBody) : State := (s.programmed r s.store.copies).popAccess.evalCondition

/-- The owner of the record is told its number (R101). -/
def State.headWritten (s : State) (r : RecordBody) : State := (s.headRecorded r).tellWritten s.store.next r

section
variable {s : State} {r : RecordBody} {rest : List Access} (ho : s.store.op = .programHead) (hq : s.store.queue = .write r :: rest)
include ho hq

theorem evRecordProgramEnd_of_written : evRecordProgramEnd true s = (s.headWritten r).pump := by
  simp [evRecordProgramEnd, ho, hq, State.headWritten, State.headRecorded]

theorem evRecordProgramEnd_of_headFailed : evRecordProgramEnd false s = s.programFailed.pump := by
  simp [evRecordProgramEnd, ho, hq]

end

/-- What follows the end of a record program touches the link alone (R3, R11). -/
theorem exec_recordProgramEnd {s u : State} {v : Bool} (h : evRecordProgramEnd v s = u) :
    ∃ l, exec (.recordProgramEnd v) s = .next (u.setLink l) := by
  refine ⟨(u.finish s).link, ?_⟩
  show Host.Outcome.next _ = _
  rw [h]
  exact congrArg _ (State.finish_eq u s)

section
variable {s : State} {i : Nat} {x : FlashSector} {r : RecordBody}

/-- The units have not changed yet when their record has been programmed. -/
theorem State.headRecorded_units (s : State) (r : RecordBody) : (s.headRecorded r).clock = s.clock ∧ (s.headRecorded r).chP = s.chP
    ∧ (s.headRecorded r).chB = s.chB ∧ (s.headRecorded r).cal = s.cal ∧ (s.headRecorded r).txn = s.txn
    ∧ (s.headRecorded r).pw = s.pw ∧ (s.headRecorded r).bag = s.bag ∧ (s.headRecorded r).link.starting = s.link.starting := by
  have hst : (s.headRecorded r).link.starting = s.link.starting := by
    rw [State.headRecorded, State.evalCondition_starting]
    simp
  simpa [State.headRecorded] using hst

theorem State.headRecorded_ch (s : State) (r : RecordBody) (c : Ch) : (s.headRecorded r).ch c = s.ch c := by
  obtain ⟨-, hp, hb, -⟩ := s.headRecorded_units r
  cases c
  · exact hp
  · exact hb

theorem State.headRecorded_store (hi : s.store.active = some i) (hx : s.flash[i]? = some x) : ∃ c, (s.headRecorded r).store =
    { s.store.programmed i r s.store.copies with queue := s.store.queue.tail, condition := c } := by
  have hpop : (s.programmed r s.store.copies).popAccess.store =
      { s.store.programmed i r s.store.copies with queue := s.store.queue.tail } := by
    rw [State.popAccess, State.programmed_queue, State.programmed_of_active hi hx]
    rfl
  exact ⟨_, by rw [State.headRecorded, State.evalCondition_store, hpop]⟩

/-- After a record is written, the slot, the number and the array are as R98 and R101 say, whatever the flash chooses next. -/
theorem State.headWritten_pump (hi : s.store.active = some i) (hx : s.flash[i]? = some x) : let u := (s.headWritten r).pump
    u.flash = s.flash.set i { x with slots := x.slots ++ [.record s.store.next r] } ∧ u.store.next = s.store.next + 1
      ∧ (u.store.entry i).used = (s.store.entry i).used + 1 ∧ u.store.failures = 0 ∧ u.clock = s.clock ∧ u.card = s.card
      ∧ u.noSale = s.noSale ∧ u.pending = s.pending := by
  intro u
  have ht := (State.Served.pump (s.headWritten r)).store.tally
  obtain ⟨c, hc⟩ := State.headRecorded_store (r := r) hi hx
  obtain ⟨hnext, hused, hfail⟩ := Store.programmed_spends hi r s.store.copies
  have hstore : (s.headWritten r).store = _ := (State.tellWritten_keeps ..).2.1.trans hc
  have hflash : (s.programmed r s.store.copies).flash = _ := congrArg State.flash (State.programmed_of_active hi hx r _)
  refine ⟨?_, ht.next.trans ?_, (ht.used i).trans ?_, ht.failures.trans ?_, ?_⟩
  · simp only [u, State.headWritten, State.headRecorded, State.pump_keeps, State.tellWritten_keeps, State.evalCondition_keeps,
      State.popAccess_keeps]
    exact hflash
  · rw [hstore]; exact hnext
  · rw [hstore]; exact hused
  · rw [hstore]; exact hfail
  · simp [u, State.headWritten, State.headRecorded]

/-- With the last slot used and a sector ERASED, the FULL mark follows the record (R104). -/
theorem State.headWritten_markFull (hi : s.store.active = some i) (hx : s.flash[i]? = some x) (hf : s.store.failed = false)
    (hn : s.store.next < 4294967295) (hs : s.link.starting = false) (hr : s.store.rotation = .none)
    (hu : (s.store.entry i).used = 127) (he : ∃ e ∈ s.store.table, e.state = .erased) :
    (s.headWritten r).pump.store.rotation = .owesFull i ∧ (s.headWritten r).pump.store.op =
      .markFull i (decide ((s.store.entry i).first.getD s.store.next + 127 ≤ s.store.releasePoint)) := by
  have hany : s.store.anyErased = true := by
    obtain ⟨e, hm, hs⟩ := he
    exact List.any_eq_true.2 ⟨e, hm, by simp [hs]⟩
  obtain ⟨c, hc⟩ := State.headRecorded_store (r := r) hi hx
  have hstore : (s.headWritten r).store = _ := (State.tellWritten_keeps ..).2.1.trans hc
  rw [Store.programmed_of_lastSlot hi r _ hf hn hr hu hany, Store.noteCal_eq] at hstore
  obtain ⟨slots, hl⟩ := State.SlotsOnly.tellWritten (s.headRecorded r) s.store.next r
  have hstart : (s.headWritten r).link.starting = false := by
    obtain ⟨-, -, -, -, -, -, -, hst⟩ := s.headRecorded_units r
    rw [State.headWritten, hl]
    exact hst.trans hs
  have hrot : (s.headWritten r).store.rotation = .owesFull i := by rw [hstore]
  have hop : (s.headWritten r).store.op = .idle := by rw [hstore]; rfl
  have hlast : ((s.headWritten r).store.entry i).last = (s.store.entry i).first.getD s.store.next + 127 := by
    have hentry : (s.headWritten r).store.entry i = (s.store.spent i).entry i := by rw [hstore]; rfl
    rw [hentry, Store.spent_entry hi, SectorEntry.last, hu]
    cases (s.store.entry i).first <;> rfl
  have hpoint : (s.headWritten r).store.releasePoint = s.store.releasePoint := by rw [hstore]; rfl
  rw [State.pump_of_choose1 hstart hop (State.choose1_of_owesFull hrot), hlast, hpoint]
  exact ⟨hrot, rfl⟩

/-- A SALE record written ends its weighing DONE, with the sale listed (R90). -/
theorem State.headWritten_sale {f : SaleFields} {l : Latch} (hs : s.pw.state = .storing) (hl : s.pw.latch = some l) :
    let u := s.headWritten (.sale f)
    u.txn = { s.txn with
        sales := s.txn.sales ++ [{ number := s.store.next, net := l.net, price := l.price, queued := false, printed := false }]
        inFlight := false }
      ∧ u.bag = (if s.pw.reserved = true then (s.convertSlot s.store.next l.net s.pw.tolerance).bag else s.bag)
      ∧ u.pw = { s.pw.ended .done .none s.store.next with
          reference := if s.pw.tareAutoclear = true ∧ s.pw.rearm = false then s.pw.reference + s.chP.tare / 1000
            else s.pw.reference }
      ∧ u.chP.tare = (if s.pw.tareAutoclear = true then 0 else s.chP.tare) := by
  obtain ⟨hclock, hchP, -, -, htxn, hpw, hbag, -⟩ := s.headRecorded_units (.sale f)
  have hconv : ∀ n a b, ((s.headRecorded (.sale f)).convertSlot n a b).bag = (s.convertSlot n a b).bag := fun n a b => by
    rw [State.convertSlot_eq, State.convertSlot_eq, State.setBag_bag, State.setBag_bag, State.soldEntry, State.soldEntry, hbag,
      hclock]
  have h := State.saleWritten_of_storing s.store.next (hpw ▸ hs : (s.headRecorded (.sale f)).pw.state = .storing) (hpw ▸ hl)
  rw [hchP, htxn, hpw, hbag, hconv] at h
  exact h

/-- A SALE record written for a detached weighing is listed nowhere (R93). -/
theorem State.headWritten_detached {f : SaleFields} (hs : s.pw.state = .detached) : let u := s.headWritten (.sale f)
    u.pw = s.pw.ended .aborted .none s.store.next ∧ u.txn = s.txn ∧ u.bag = s.bag ∧ u.chP = s.chP := by
  obtain ⟨-, hchP, -, -, htxn, hpw, hbag, -⟩ := s.headRecorded_units (.sale f)
  have h := State.saleWritten_of_detached s.store.next (hpw ▸ hs : (s.headRecorded (.sale f)).pw.state = .detached)
  have hu : s.headWritten (.sale f) = _ := h
  rw [hu, hpw]
  simp [hchP, htxn, hbag]

/-- A CAL record written is installed, and ends the session (R56). -/
theorem State.headWritten_cal {k : CalFields} {y : Session} (hy : s.cal.session = some y) : let u := s.headWritten (.cal k)
    u.cal = { s.cal.install k.channel k.counter k.cal with lastRecord := s.store.next, session := none }
      ∧ (u.ch k.channel).standing = (s.ch k.channel).standing.uprooted := by
  obtain ⟨-, -, -, hcal, -⟩ := s.headRecorded_units (.cal k)
  have h := State.commitWritten_of_session s.store.next k (hcal ▸ hy : (s.headRecorded (.cal k)).cal.session = some y)
  rw [hcal, State.headRecorded_ch] at h
  exact h

end


/-! ### A record program that fails (R101) -/

section
variable {s : State} {i : Nat} {x : FlashSector} {body : RecordBody} {rest : List Access}

theorem State.programFailed_store (hi : s.store.active = some i) (hx : s.flash[i]? = some x) : s.programFailed.store =
    { s.store.programFailed i with condition := (s.store.programFailed i).judge } := by
  rw [State.programFailed_of_active hi hx, State.evalCondition_store]
  rfl

theorem State.programFailed_starting (s : State) : s.programFailed.link.starting = s.link.starting := by
  rw [State.programFailed, State.evalCondition_starting]
  simp

theorem Store.programFailed_queue (y : Store) (i : Nat) : (y.programFailed i).queue = y.queue := by
  simp [Store.programFailed, Store.spent]

/-- The slot is cleared, and its number is gone, whatever the flash chooses next (R98, R101). -/
theorem State.programFailed_pump (hi : s.store.active = some i) (hx : s.flash[i]? = some x) : let u := s.programFailed.pump
    u.flash = s.flash.set i { x with slots := x.slots ++ [.cleared] } ∧ u.store.next = s.store.next + 1
      ∧ (u.store.entry i).used = (s.store.entry i).used + 1 ∧ u.store.failures = s.store.failures + 1
      ∧ (∀ c, u.store.current c = s.store.current c) ∧ u.txn.sales = s.txn.sales ∧ u.cal.inForceP = s.cal.inForceP
      ∧ u.cal.inForceB = s.cal.inForceB := by
  intro u
  have hserved := State.Served.pump s.programFailed
  have ht : (s.store.programFailed i).Tally u.store :=
    Store.Tally.trans (by rw [State.programFailed_store hi hx]; exact .of_same) hserved.store.tally
  obtain ⟨hnext, hused, hfail, hcurrent⟩ := Store.programFailed_spends hi
  have hflash : s.programFailed.flash = s.flash.set i { x with slots := x.slots ++ [.cleared] } := by
    rw [State.programFailed_of_active hi hx]
    simp
  refine ⟨by rw [← hflash]; simp [u], ht.next.trans hnext, (ht.used i).trans hused, ht.failures.trans hfail,
    fun c => (ht.current c).trans (hcurrent c), hserved.sales.trans (by simp), hserved.inForceP.trans (by simp),
    hserved.inForceB.trans (by simp)⟩

/-- The same record is programmed again while the store has room and has not failed (R101). -/
theorem State.programFailed_again (hi : s.store.active = some i) (hx : s.flash[i]? = some x)
    (hq : s.store.queue = .write body :: rest) (hf : s.store.failed = false) (hfew : s.store.failures < 2)
    (hn : s.store.next < 4294967295) (hc : s.store.copies = []) (hr : s.store.rotation = .none) (hs : s.link.starting = false)
    (hu : 2 < 128 - ((s.store.entry i).used + 1)) : let u := s.programFailed.pump
    u.store.op = .programHead ∧ u.store.queue = s.store.queue ∧ u.store.failed = false ∧ u.pw = s.pw ∧ u.cal = s.cal
      ∧ u.txn = s.txn := by
  have hstore := State.programFailed_store hi hx
  rw [Store.programFailed_of_few hi hfew hn (.inl (by omega))] at hstore
  have hroom : 2 < s.programFailed.store.room := by
    rw [hstore]
    exact (Store.spent_room hi).symm ▸ hu
  obtain ⟨hjudge, hjudge'⟩ := Store.judge_of_room (x := { s.store.spent i with failures := s.store.failures + 1 }) hf
    (by exact (Store.spent_room hi).symm ▸ hu)
  have hchoose : s.programFailed.choose1 = _ := State.choose1_of_write (by rw [hstore]; exact hr) (by rw [hstore]; exact hc)
    (by rw [hstore]; exact hq) (by rw [hstore]; exact hjudge) (by rw [hstore]; exact hjudge') hroom
  dsimp only
  rw [State.pump_of_choose1 ((State.programFailed_starting s).trans hs) (by rw [hstore]; rfl) hchoose]
  refine ⟨rfl, ?_, ?_, by simp, by simp, by simp⟩
  · rw [hstore]; rfl
  · rw [hstore]; exact hf

/-- With the third failure in a row, or the last number, the store has failed, and the write at the head has ended failed; what else
the flash does then, with no write left, the units do not see (R98, R101). -/
theorem State.programFailed_lost (hi : s.store.active = some i) (hx : s.flash[i]? = some x)
    (hq : s.store.queue = .write body :: rest) (hlast : 2 ≤ s.store.failures ∨ s.store.next = 4294967295)
    (hs : s.link.starting = false) (hrest : ∀ b, .write b ∉ rest) :
    let w := s.programFailed.popAccess.failWrite body
    let u := s.programFailed.pump
    (u.store.failed = true ∧ u.store.condition = .failed ∧ ∀ b, .write b ∉ u.store.queue)
      ∧ u.pw = w.pw ∧ u.txn = w.txn ∧ u.bag = w.bag ∧ u.cal = w.cal ∧ u.chP = w.chP ∧ u.chB = w.chB := by
  intro w u
  have hstore := State.programFailed_store hi hx
  obtain ⟨hf, hr, hc, hop⟩ := Store.programFailed_of_last (i := i) hlast
  have hqueue : s.programFailed.store.queue = .write body :: rest := by
    rw [hstore]
    exact (Store.programFailed_queue ..).trans hq
  have hcond : s.programFailed.store.condition = .failed := by
    rw [hstore]
    exact if_pos hf
  have hchoose : s.programFailed.choose1 = (w, true) :=
    State.choose1_of_lostWrite (by rw [hstore]; exact hr) (by rw [hstore]; exact hc) hqueue hcond
  have hu : u = w.pumpN 15 :=
    State.pump_of_choose1_again ((State.programFailed_starting s).trans hs) (by rw [hstore]; exact hop) hchoose
  have hw : w.store = { s.programFailed.store with queue := rest } := by
    simp [w, State.popAccess, hqueue]
  have hserved : w.Served u := hu ▸ State.Served.pumpN 15 w
  have hwrites : ∀ b, .write b ∉ w.store.queue := by rwa [hw]
  obtain ⟨-, -, hcondition⟩ := hserved.store.noCopies (by rw [hw, hstore]; exact hc)
  refine ⟨⟨hserved.store.failed (by rw [hw, hstore]; exact hf), ?_, fun b hb => hwrites b (hserved.store.writes b hb)⟩,
    hserved.noWrite hwrites⟩
  rw [hcondition, hw]
  exact hcond

/-- The units in which a write ends failed are those in which it was programmed. -/
theorem State.programFailed_units (s : State) : let v := s.programFailed.popAccess
    v.pw = s.pw ∧ v.txn = s.txn ∧ v.bag = s.bag ∧ v.cal = s.cal ∧ v.chP = s.chP ∧ v.chB = s.chB := by
  simp

theorem State.programFailed_ch (s : State) (c : Ch) : s.programFailed.popAccess.ch c = s.ch c := by
  obtain ⟨-, -, -, -, hp, hb⟩ := s.programFailed_units
  cases c
  · exact hp
  · exact hb

theorem State.failWrite_storing {f : SaleFields} (h : s.pw.state = .storing) :
    let w := s.programFailed.popAccess.failWrite (.sale f)
    w.pw = { s.pw.ended .storeFailed .none 0 with rearm := true } ∧ w.txn = { s.txn with inFlight := false }
      ∧ w.bag = { s.bag with reserved := if s.pw.reserved = true then 0 else s.bag.reserved } ∧ w.chP = s.chP := by
  obtain ⟨hpw, htxn, hbag, -, hp, -⟩ := s.programFailed_units
  obtain ⟨wpw, wtxn, wbag⟩ := State.saleFailed_of_storing (s := s.programFailed.popAccess) (by rw [hpw]; exact h)
  rw [hpw] at wpw
  rw [htxn] at wtxn
  rw [hbag, hpw] at wbag
  exact ⟨wpw, wtxn, wbag, (State.saleFailed_keeps _).2.1.trans hp⟩

theorem State.failWrite_detached {f : SaleFields} (h : s.pw.state = .detached) :
    let w := s.programFailed.popAccess.failWrite (.sale f)
    w.pw = { s.pw.ended .aborted .none 0 with rearm := true } ∧ w.txn = s.txn ∧ w.bag = s.bag ∧ w.chP = s.chP := by
  obtain ⟨hpw, htxn, hbag, -, hp, -⟩ := s.programFailed_units
  have hw := State.saleFailed_of_detached (s := s.programFailed.popAccess) (by rw [hpw]; exact h)
  have hw' : s.programFailed.popAccess.failWrite (.sale f) = _ := hw
  dsimp only
  rw [hw', hpw]
  simp

theorem State.failWrite_unmarked {k : CalFields} {y : Session} (hy : s.cal.session = some y) (hm : y.endMark = false) :
    let w := s.programFailed.popAccess.failWrite (.cal k)
    w.cal = { s.cal with session := some { y with committing := false } } ∧ w.chP = s.chP ∧ w.chB = s.chB := by
  obtain ⟨-, -, -, hcal, hp, hb⟩ := s.programFailed_units
  have hw := State.commitFailed_of_unmarked (s := s.programFailed.popAccess) (hcal ▸ hy) hm
  have hw' : s.programFailed.popAccess.failWrite (.cal k) = _ := hw
  dsimp only
  rw [hw', hcal]
  simp

theorem State.failWrite_marked {k : CalFields} {y : Session} (hy : s.cal.session = some y) (hm : y.endMark = true) :
    let w := s.programFailed.popAccess.failWrite (.cal k)
    w.cal = { s.cal with session := none } ∧ if (s.ch y.channel).state = .fault then
        (w.ch y.channel).state = .fault ∧ (w.ch y.channel).resume = y.home
      else (w.ch y.channel).state = y.home := by
  obtain ⟨-, -, -, hcal, -⟩ := s.programFailed_units
  have hw := State.commitFailed_of_marked (s := s.programFailed.popAccess) (hcal ▸ hy) hm
  have hw' : s.programFailed.popAccess.failWrite (.cal k) = _ := hw
  have hch := State.endSession_ch s.programFailed.popAccess y
  have hcal' := State.endSession_cal s.programFailed.popAccess y
  rw [State.programFailed_ch] at hch
  rw [hcal] at hcal'
  dsimp only
  rw [hw', State.raiseCal, State.raise_ch]
  exact ⟨by simp [hcal'], hch⟩

end

/-! ### A CARRIED copy before an erase (R105) -/

/-- A copy that verifies (R105). -/
def State.copyWritten (s : State) (k : CalFields) (more : List Ch) : State := (s.programmed (.cal k) more).evalCondition

/-- The mark of a pending erase is withdrawn where the sector stands in the table, and stands nowhere else. -/
theorem Store.fail_pending {x : Store} {e : Erase} (hc : x.copies ≠ []) (he : x.erase = some e) :
    (x.fail.entry e.sector).pending = false := by
  rw [Store.fail_of_copies hc he]
  refine (congrArg SectorEntry.pending (Store.entry_setEntry x _ _ _)).trans ?_
  split
  · rfl
  · next hl =>
    have hlen : x.table.length ≤ e.sector := Nat.not_lt.1 fun h => hl ⟨rfl, h⟩
    rw [Store.entry, List.getD_eq_default _ _ hlen]
    rfl

section
variable {s : State} {i : Nat} {x : FlashSector} {c : Ch} {k : CurrentCal} {more : List Ch} {e : Erase}

theorem evRecordProgramEnd_of_copyWritten (ho : s.store.op = .programCopy c) (hk : s.store.current c = some k)
    (hc : s.store.copies = c :: more) :
    evRecordProgramEnd true s = (s.copyWritten { k.fields with carried := true } more).pump := by
  simp [evRecordProgramEnd, ho, hk, hc, State.copyWritten]

theorem evRecordProgramEnd_of_copyFailed (ho : s.store.op = .programCopy c) : evRecordProgramEnd false s = s.programFailed.pump := by
  simp [evRecordProgramEnd, ho]

theorem State.copyWritten_store (hi : s.store.active = some i) (hx : s.flash[i]? = some x) (k : CalFields) (more : List Ch) :
    (s.copyWritten k more).store =
      { s.store.programmed i (.cal k) more with condition := (s.store.programmed i (.cal k) more).judge } := by
  rw [State.copyWritten, State.evalCondition_store, State.programmed_of_active hi hx]
  rfl

theorem State.copyWritten_starting (s : State) (k : CalFields) (more : List Ch) :
    (s.copyWritten k more).link.starting = s.link.starting := by
  rw [State.copyWritten, State.evalCondition_starting]
  simp

/-- The record programmed is the current one of its channel (R105). -/
theorem Store.programmed_current (y : Store) (i : Nat) (k : CalFields) (copies : List Ch) :
    (y.programmed i (.cal k) copies).current k.channel = some { number := y.next, fields := k } :=
  (((Store.Tally.checkLast _).trans (.oweRotation _)).current _).trans (Store.noteCal_current ..)

/-- After a copy is written, whatever the flash chooses next. -/
theorem State.copyWritten_pump (hi : s.store.active = some i) (hx : s.flash[i]? = some x) (k : CalFields) (more : List Ch) :
    let u := (s.copyWritten k more).pump
    u.flash = s.flash.set i { x with slots := x.slots ++ [.record s.store.next (.cal k)] } ∧ u.store.next = s.store.next + 1
      ∧ (u.store.entry i).used = (s.store.entry i).used + 1 ∧ u.store.failures = 0
      ∧ u.store.current k.channel = some { number := s.store.next, fields := k } ∧ u.clock = s.clock ∧ u.card = s.card := by
  intro u
  have ht : (s.store.programmed i (.cal k) more).Tally u.store :=
    Store.Tally.trans (by rw [State.copyWritten_store hi hx]; exact .of_same) (State.Served.pump _).store.tally
  obtain ⟨hnext, hused, hfail⟩ := Store.programmed_spends hi (.cal k) more
  have hflash : (s.programmed (.cal k) more).flash = _ := congrArg State.flash (State.programmed_of_active hi hx _ _)
  refine ⟨?_, ht.next.trans hnext, (ht.used i).trans hused, ht.failures.trans hfail,
    (ht.current _).trans (s.store.programmed_current i k more), by simp [u, State.copyWritten], by simp [u, State.copyWritten]⟩
  simp only [u, State.copyWritten, State.pump_keeps, State.evalCondition_keeps]
  exact hflash

/-- With the last copy written and nothing queued, the first pulse begins (R105, R106). -/
theorem State.copyWritten_pulse (hi : s.store.active = some i) (hx : s.flash[i]? = some x) (k : CalFields)
    (hn : s.store.next < 4294967295) (hs : s.link.starting = false) (hr : s.store.rotation = .none) (hq : s.store.queue = [])
    (hu : (s.store.entry i).used < 127) (he : s.store.erase = some e) (hp : e.next = .pulse) (hl : e.sector < s.store.table.length)
    (hne : e.sector ≠ i) : let u := (s.copyWritten k []).pump
    u.store.op = .pulse false ∧ u.store.erase = some e
      ∧ u.store.entry e.sector = { s.store.entry e.sector with state := .erasing, seq := 0, pending := false } := by
  have hstore := State.copyWritten_store hi hx k []
  rw [Store.programmed_of_left hi _ _ hn hu, Store.noteCal_eq] at hstore
  have hchoose : (s.copyWritten k []).choose1 = _ := State.choose1_of_erase (e := e) (by rw [hstore]; exact hr)
    (by rw [hstore]; exact hq) (by rw [hstore]) (by rw [hstore]; exact he)
  have hentry : (s.copyWritten k []).store.entry e.sector = s.store.entry e.sector := by
    rw [hstore]
    exact Store.spent_entry_of_ne hne
  have hlen : e.sector < (s.copyWritten k []).store.table.length := by
    rw [hstore]
    simpa [Store.spent, Store.setEntry] using hl
  dsimp only
  rw [State.pump_of_choose1 ((s.copyWritten_starting k []).trans hs) (by rw [hstore]; rfl) hchoose, State.setStore_store]
  have hstep : (s.copyWritten k []).store.eraseStep e = { (s.copyWritten k []).store.setEntry e.sector
      { (s.copyWritten k []).store.entry e.sector with state := .erasing, seq := 0, pending := false } with op := .pulse false } := by
    rw [Store.eraseStep, hp]
  rw [hstep]
  refine ⟨rfl, ?_, (Store.entry_setEntry ..).trans ((if_pos ⟨rfl, hlen⟩).trans (by rw [hentry]))⟩
  rw [hstore]
  exact he

/-- The last number spent on the last copy fails the store, and keeps the erase (log entry 64). -/
theorem State.copyWritten_lastNumber (hi : s.store.active = some i) (hx : s.flash[i]? = some x) (k : CalFields)
    (hn : s.store.next = 4294967295) (he : s.store.erase = some e) :
    (s.copyWritten k []).pump.store.failed = true ∧ (s.copyWritten k []).pump.store.erase = some e := by
  have hserved := (State.Served.pump (s.copyWritten k [])).store
  obtain ⟨hf, hc, hkept⟩ := Store.programmed_of_lastNumber (i := i) (.cal k) hn
  have hstore := State.copyWritten_store hi hx k []
  obtain ⟨-, herase, -⟩ := hserved.noCopies (by rw [hstore]; exact hc)
  refine ⟨hserved.failed (by rw [hstore]; exact hf), herase.trans ?_⟩
  rw [hstore]
  exact hkept.trans he

section
variable (hi : s.store.active = some i) (hx : s.flash[i]? = some x) (hfew : s.store.failures < 2)
  (hn : s.store.next < 4294967295) (hs : s.link.starting = false) (hr : s.store.rotation = .none)
  (hc : s.store.copies = c :: more) (he : s.store.erase = some e) (hne : e.sector ≠ i) (hold : s.store.holdsCurrent e.sector c)
include hi hx hfew hn hs hr hc he hne hold

/-- A copy that fails is attempted again while a slot is left (R105). -/
theorem State.copyFailed_again (hf : s.store.failed = false) (hu : (s.store.entry i).used < 127) : let u := s.programFailed.pump
    u.store.op = .programCopy c ∧ u.store.copies = c :: more ∧ u.store.failed = false := by
  have hstore := State.programFailed_store hi hx
  rw [Store.programFailed_of_few hi hfew hn (.inl hu)] at hstore
  have howed : c ∈ s.programFailed.store.copiesOwed e.sector := by
    rw [Store.mem_copiesOwed, hstore]
    exact (Store.holdsCurrent_congr (Store.spent_entry_of_ne hne) rfl rfl).2 hold
  have hroom : s.programFailed.store.room ≠ 0 := by
    rw [hstore]
    have h := Store.spent_room hi
    change (s.store.spent i).room ≠ 0
    omega
  have hchoose : s.programFailed.choose1 = _ := State.choose1_of_copy (rest := more) (by rw [hstore]; exact hr)
    (by rw [hstore]; exact hc) (by rw [hstore]; exact he) howed hroom
  dsimp only
  rw [State.pump_of_choose1 ((State.programFailed_starting s).trans hs) (by rw [hstore]; rfl) hchoose, State.setStore_store, hstore]
  exact ⟨rfl, hc, hf⟩

/-- With no slot left for the copy, the store fails, and the erase is not started (R105). -/
theorem State.copyFailed_noRoom (hu : (s.store.entry i).used = 127) (hnone : ∀ y ∈ s.store.table, y.state ≠ .erased) :
    let u := s.programFailed.pump
    u.store.failed = true ∧ u.store.erase = none ∧ (u.store.entry e.sector).pending = false := by
  intro u
  have hany : s.store.anyErased = false := by simpa [Store.anyErased] using hnone
  have hstore := State.programFailed_store hi hx
  rw [Store.programFailed_of_few hi hfew hn (.inr hany)] at hstore
  have howed : c ∈ s.programFailed.store.copiesOwed e.sector := by
    rw [Store.mem_copiesOwed, hstore]
    exact (Store.holdsCurrent_congr (Store.spent_entry_of_ne hne) rfl rfl).2 hold
  have hroom : s.programFailed.store.room = 0 := by
    rw [hstore]
    exact (Store.spent_room hi).trans (by rw [hu])
  have hcopies : s.programFailed.store.copies = c :: more := by rw [hstore]; exact hc
  have herase : s.programFailed.store.erase = some e := by rw [hstore]; exact he
  have hchoose : s.programFailed.choose1 = _ :=
    State.choose1_of_noRoom (by rw [hstore]; exact hr) hcopies herase howed hroom
  have hpump : u = s.programFailed.failCopies.pumpN 15 :=
    State.pump_of_choose1_again ((State.programFailed_starting s).trans hs) (by rw [hstore]; rfl) hchoose
  have hserved : s.programFailed.failCopies.store.Served u.store := hpump ▸ (State.Served.pumpN 15 _).store
  have hfailed : s.programFailed.failCopies.store = { s.programFailed.store.fail with
      condition := s.programFailed.store.fail.judge } := by
    rw [State.failCopies, State.evalCondition_store]
    rfl
  have howes : s.programFailed.store.copies ≠ [] := hcopies ▸ List.cons_ne_nil _ _
  have hnocopies : s.programFailed.failCopies.store.copies = [] := by rw [hfailed]; exact Store.fail_copies _
  have hnoerase : s.programFailed.failCopies.store.erase = none := by
    rw [hfailed, Store.fail_of_copies howes herase]
  obtain ⟨-, hkept, -⟩ := hserved.noCopies hnocopies
  refine ⟨hserved.failed (by rw [hfailed]; exact Store.fail_failed _), hkept.trans hnoerase, ?_⟩
  rw [Store.entry, hserved.noErase hnocopies hnoerase, hfailed]
  exact Store.fail_pending howes herase

end
end


/-! ### The end of a record or copy program -/

section
variable {s : State} {i : Nat} {x : FlashSector} {rest : List Access} (hi : s.store.active = some i) (hx : s.flash[i]? = some x)

include hi hx in
theorem State.headWritten_queue {r : RecordBody} (hq : s.store.queue = .write r :: rest) : (s.headWritten r).store.queue = rest := by
  obtain ⟨c, hc⟩ := State.headRecorded_store (r := r) hi hx
  rw [State.headWritten, (State.tellWritten_keeps ..).2.1, hc]
  exact congrArg List.tail hq

include hi hx in
/-- The weighing of a SALE record written, after the flash has chosen again (R84, R90). -/
theorem State.saleWritten_pump {f : SaleFields} {l : Latch} (hq : s.store.queue = .write (.sale f) :: rest)
    (hs : s.pw.state = .storing) (hl : s.pw.latch = some l) : let u := (s.headWritten (.sale f)).pump
    u.txn.sales = s.txn.sales ++ [{ number := s.store.next, net := l.net, price := l.price, queued := false, printed := false }]
      ∧ u.txn.inFlight = false ∧ u.pw.state = .idle ∧ u.pw.result = .done ∧ u.pw.lastAlibi = s.store.next
      ∧ (s.pw.reserved = true → 0 < s.bag.reserved → ∃ e, u.bag.entries = s.bag.entries ++ [e] ∧ e.ref = s.store.next
          ∧ e.dir = .add ∧ e.origin = .sale ∧ e.expected = l.net ∧ e.tolerance = s.pw.tolerance ∧ e.skippable = false
          ∧ e.deadline = some (s.clock + s.bag.placementS * 1000) ∧ u.bag.reserved = 0)
      ∧ ((∀ b, Access.write b ∉ rest) → u.pw.rearm = s.pw.rearm
          ∧ (s.pw.tareAutoclear = false → u.chP.tare = s.chP.tare ∧ u.pw.reference = s.pw.reference)
          ∧ (s.pw.tareAutoclear = true → u.chP.tare = 0
            ∧ u.pw.reference = s.pw.reference + (if s.pw.rearm = true then 0 else s.chP.tare / 1000))) := by
  intro u
  obtain ⟨htxn, hbag, hpw, htare⟩ := State.headWritten_sale (f := f) hs hl
  have hserved : (s.headWritten (.sale f)).Served u := State.Served.pump _
  obtain ⟨utxn, ubag, upw⟩ := hserved.idle (by rw [hpw]; rfl)
  refine ⟨by rw [utxn, htxn], by rw [utxn, htxn], by rw [upw, hpw]; rfl, by rw [upw, hpw]; rfl, by rw [upw, hpw]; rfl,
    fun hres hpos => ?_, fun hrest => ?_⟩
  · rw [if_pos hres, State.convertSlot_bag _ _ _ _ hpos] at hbag
    exact ⟨s.soldEntry s.store.next l.net s.pw.tolerance, by rw [ubag, hbag], rfl, rfl, rfl, rfl, rfl, rfl, rfl, by rw [ubag, hbag]⟩
  · obtain ⟨upw, -, -, -, uchP, -⟩ := hserved.noWrite (by rwa [State.headWritten_queue hi hx hq])
    rw [upw, uchP, htare, hpw]
    refine ⟨rfl, fun ha => ?_, fun ha => ?_⟩
    · simp [ha]
    · cases hm : s.pw.rearm <;> simp [ha]

include hi hx in
/-- A detached weighing, after the flash has chosen again (R93). -/
theorem State.detachedWritten_pump {f : SaleFields} (hq : s.store.queue = .write (.sale f) :: rest) (hs : s.pw.state = .detached)
    (hrest : ∀ b, Access.write b ∉ rest) : let u := (s.headWritten (.sale f)).pump
    u.pw = s.pw.ended .aborted .none s.store.next ∧ u.txn = s.txn ∧ u.bag = s.bag ∧ u.chP = s.chP := by
  obtain ⟨hpw, htxn, hbag, hchP⟩ := State.headWritten_detached (f := f) hs
  obtain ⟨upw, utxn, ubag, -, uchP, -⟩ := (State.Served.pump (s.headWritten (.sale f))).noWrite
    (by rwa [State.headWritten_queue hi hx hq])
  exact ⟨upw.trans hpw, utxn.trans htxn, ubag.trans hbag, uchP.trans hchP⟩

include hi hx in
/-- The calibration of a CAL record written, after the flash has chosen again (R56). -/
theorem State.calWritten_pump {k : CalFields} {y : Session} (hy : s.cal.session = some y) : let u := (s.headWritten (.cal k)).pump
    u.cal = { s.cal.install k.channel k.counter k.cal with lastRecord := s.store.next, session := none }
      ∧ (u.ch k.channel).standing = (s.ch k.channel).standing.uprooted
      ∧ u.store.current k.channel = some { number := s.store.next, fields := k } := by
  obtain ⟨hcal, hstanding⟩ := State.headWritten_cal (k := k) hy
  have hserved := State.Served.pump (s.headWritten (.cal k))
  obtain ⟨ucal, uchP, uchB⟩ := hserved.closed (by rw [hcal])
  have hch : (s.headWritten (.cal k)).pump.ch k.channel = (s.headWritten (.cal k)).ch k.channel := by
    cases k.channel
    · exact uchP
    · exact uchB
  obtain ⟨c, hc⟩ := State.headRecorded_store (r := .cal k) hi hx
  have hstore : (s.headWritten (.cal k)).store = _ := (State.tellWritten_keeps ..).2.1.trans hc
  have ht : (s.store.programmed i (.cal k) s.store.copies).Tally (s.headWritten (.cal k)).pump.store :=
    Store.Tally.trans (by rw [hstore]; exact .of_same) hserved.store.tally
  refine ⟨ucal.trans hcal, (congrArg Channel.standing hch).trans hstanding, (ht.current _).trans (Store.programmed_current ..)⟩

end

/-- Where a channel stands whose zeros are discarded (R21). -/
theorem Channel.uprooted_cases {x y : Channel} (h : y.standing = x.standing.uprooted) :
    y.zo = 0 ∧ y.zoInit = 0 ∧ (x.state ≠ .fault → y.state = .noZero) := by
  have hs : x.standing.state = x.state := rfl
  unfold Standing.uprooted at h
  rw [hs] at h
  split at h
  · next hf => exact ⟨(congrArg Standing.zo h :), (congrArg Standing.zoInit h :), (absurd hf ·)⟩
  · exact ⟨(congrArg Standing.zo h :), (congrArg Standing.zoInit h :), fun _ => (congrArg Standing.state h :)⟩

/-- Settles O39. -/
theorem recordProgramTakesItsSlotAndNumber : Obligations.RecordProgramTakesItsSlotAndNumber := by
  intro s i x hi hx
  refine ⟨fun body rest ho hq => ⟨?_, ?_⟩, fun c k more e ho hk hc he hne hr => ?_⟩
  · obtain ⟨l, hexec⟩ := exec_recordProgramEnd (evRecordProgramEnd_of_written ho hq)
    obtain ⟨hflash, hnext, hused, hfail, hclock, hcard, hnoSale, hpending⟩ := State.headWritten_pump (r := body) hi hx
    refine ⟨_, hexec, ?_⟩
    simp only [State.setLink_flash, State.setLink_store, State.setLink_clock, State.setLink_card, State.setLink_noSale,
      State.setLink_pending, State.setLink_txn, State.setLink_pw, State.setLink_bag, State.setLink_chP, State.setLink_cal,
      State.setLink_ch]
    refine ⟨hflash, hnext, hused, hfail, hclock, hcard, hnoSale, hpending, State.headWritten_markFull hi hx, ?_, ?_, ?_⟩
    · rintro f l rfl hs hl
      exact State.saleWritten_pump hi hx hq hs hl
    · rintro f rfl hs hrest
      exact State.detachedWritten_pump hi hx hq hs hrest
    · rintro k y rfl hy
      obtain ⟨hcal, hstanding, hcurrent⟩ := State.calWritten_pump (k := k) hi hx hy
      obtain ⟨hzo, hzoInit, hstate⟩ := Channel.uprooted_cases hstanding
      have hinstall := s.cal.install_cases k.channel k.counter k.cal
      rw [hcal]
      refine ⟨rfl, rfl, ?_, hzo, hzoInit, hstate, hcurrent⟩
      revert hinstall
      cases k.channel <;> exact id
  · obtain ⟨l, hexec⟩ := exec_recordProgramEnd (evRecordProgramEnd_of_headFailed ho hq)
    obtain ⟨hflash, hnext, hused, hfail, -, hsales, hP, hB⟩ := State.programFailed_pump hi hx
    refine ⟨_, hexec, ?_⟩
    simp only [State.setLink_flash, State.setLink_store, State.setLink_txn, State.setLink_pw, State.setLink_bag, State.setLink_chP,
      State.setLink_chB, State.setLink_cal, State.setLink_ch]
    refine ⟨hflash, hnext, hused, hfail, hsales, hP, hB, State.programFailed_again hi hx hq, fun hlast hs hrest => ?_⟩
    obtain ⟨⟨hfailed, hcond, hwrites⟩, upw, utxn, ubag, ucal, uchP, uchB⟩ := State.programFailed_lost hi hx hq hlast hs hrest
    refine ⟨hfailed, hcond, hwrites, ?_, ?_, ?_⟩
    · rintro f rfl hs
      rw [upw, utxn, ubag, uchP]
      exact State.failWrite_storing hs
    · rintro f rfl hs
      rw [upw, utxn, ubag, uchP]
      exact State.failWrite_detached hs
    · rintro k y rfl hy
      have uch : s.programFailed.pump.ch y.channel = (s.programFailed.popAccess.failWrite (.cal k)).ch y.channel := by
        cases y.channel
        · exact uchP
        · exact uchB
      rw [utxn, ubag, ucal, uchP, uchB, uch]
      exact ⟨by simp [State.failWrite], by simp [State.failWrite], State.failWrite_unmarked hy, State.failWrite_marked hy⟩
  · intro copy working
    constructor
    · obtain ⟨l, hexec⟩ := exec_recordProgramEnd (evRecordProgramEnd_of_copyWritten ho hk hc)
      obtain ⟨hflash, hnext, hused, hfail, hcurrent, hclock, hcard⟩ := State.copyWritten_pump hi hx copy more
      refine ⟨_, hexec, ?_⟩
      simp only [State.setLink_flash, State.setLink_store, State.setLink_clock, State.setLink_card]
      refine ⟨hflash, hnext, hused, hfail, hcurrent, hclock, hcard, ?_, ?_⟩
      · rintro ⟨-, hs, hn⟩ rfl hq hu hp hl
        exact State.copyWritten_pulse hi hx copy hn hs hr hq hu he hp hl hne
      · rintro rfl hn
        exact State.copyWritten_lastNumber hi hx copy hn he
    · obtain ⟨l, hexec⟩ := exec_recordProgramEnd (evRecordProgramEnd_of_copyFailed ho)
      obtain ⟨hflash, hnext, -, hfail, hcurrent, -⟩ := State.programFailed_pump hi hx
      refine ⟨_, hexec, ?_⟩
      simp only [State.setLink_flash, State.setLink_store]
      refine ⟨hflash, hnext, hfail, (hcurrent c).trans hk, ?_, ?_⟩
      · rintro ⟨hf, hs, hn⟩ hfew hold hu
        exact State.copyFailed_again hi hx hfew hn hs hr hc he hne hold hf hu
      · rintro ⟨-, hs, hn⟩ hfew hold hu hnone
        exact State.copyFailed_noRoom hi hx hfew hn hs hr hc he hne hold hu hnone

end Sys2Proof.Machine

namespace Sys2Proof.Machine
set_option Elab.async false

/-! ### Waiting kicks and the sale (R66, R69, R70, R72, R168, R175) -/

/-- Where no port waits, none waits outside its sale. -/
theorem State.kicksKept_of_noWait {s : State} (h₁ : s.drw1.state ≠ .waitSupply) (h₂ : s.drw2.state ≠ .waitSupply) : s.kicksKept :=
  ⟨fun h => absurd h h₁, fun h => absurd h h₂⟩

namespace State.kicksKept
variable {u t : State}

theorem port (h : u.kicksKept) (p : Port) : u.waitAllowed p := by
  cases p
  · exact h.1
  · exact h.2

theorem of_ports (h : ∀ p, u.waitAllowed p) : u.kicksKept := ⟨h .one, h .two⟩

/-- Two ports that stay as they are, and a sale that allows as much. -/
theorem of_sale (h : u.kicksKept) (hs : t.txn.state = u.txn.state) (hc : t.txn.tenderCash = u.txn.tenderCash)
    (hf : ∀ p, u.txn.fired p = true → t.txn.fired p = true) (hd : ∀ p, t.drw p = u.drw p) : t.kicksKept :=
  of_ports fun p hw => by
    rw [hd] at hw ⊢
    rw [hs, hc]
    exact (h.port p hw).imp_right (Or.imp_left fun ⟨hr, ht, hcash, hp⟩ => ⟨hr, ht, hcash, hf p hp⟩)

/-- The ports and the transaction as they stand. -/
theorem of_same (h : u.kicksKept) (ht : t.txn = u.txn := by simp) (hd₁ : t.drw1 = u.drw1 := by simp)
    (hd₂ : t.drw2 = u.drw2 := by simp) : t.kicksKept :=
  h.of_sale (by rw [ht]) (by rw [ht]) (by rw [ht]; exact fun _ => id) fun p => by cases p; exacts [hd₁, hd₂]

/-- A SALE kick waits only in TENDER, and a NO_SALE kick only in IDLE: in CLOSING none waits. -/
theorem noWait_of_closing (h : u.kicksKept) (hc : u.txn.state = .closing) (p : Port) : (u.drw p).state ≠ .waitSupply := fun hw => by
  obtain ⟨-, ⟨-, hs, -⟩ | ⟨-, hs⟩⟩ := h.port p hw <;> simp [hs] at hc

/-- A SALE kick waits only at a fired port: in a transaction without a fired port that waits, none waits (R70, R72). -/
theorem noWait_of_fired (h : u.kicksKept) (hi : u.txn.state ≠ .idle) (hf : u.firedWaits = false) (p : Port) :
    (u.drw p).state ≠ .waitSupply := fun hw => by
  obtain ⟨-, ⟨-, -, -, hp⟩ | ⟨-, hs⟩⟩ := h.port p hw
  · cases p <;> simp_all [State.firedWaits, Txn.fired, State.drw]
  · exact hi hs

/-- Ports that stay as they are while none waits. -/
theorem of_noWait (h : ∀ p, (u.drw p).state ≠ .waitSupply) (hd₁ : t.drw1 = u.drw1 := by simp) (hd₂ : t.drw2 = u.drw2 := by simp) :
    t.kicksKept :=
  State.kicksKept_of_noWait (by rw [hd₁]; exact h .one) (by rw [hd₂]; exact h .two)

theorem ite {c : Prop} [Decidable c] (ht : c → t.kicksKept) (hu : ¬ c → u.kicksKept) : (if c then t else u).kicksKept := by
  split
  · exact ht ‹_›
  · exact hu ‹_›

/-- A port that is changed, the other as it stands. -/
theorem replace (h : u.kicksKept) (p : Port) {v : Drawer} (hv : (u.setDrw p v).waitAllowed p) : (u.setDrw p v).kicksKept :=
  of_ports fun q => by
    by_cases hq : q = p
    · exact hq ▸ hv
    · unfold State.waitAllowed
      rw [State.setDrw_drw_ne u hq, State.setDrw_txn]
      exact h.port q

/-- A port that does not wait, or that waits for the kick it waited for. -/
theorem setDrw (h : u.kicksKept) (p : Port) {v : Drawer}
    (hv : v.state = .waitSupply → (u.drw p).state = .waitSupply ∧ v.reason = (u.drw p).reason ∧ v.fitted = (u.drw p).fitted := by
      exact fun hw => ⟨hw, rfl, rfl⟩) : (u.setDrw p v).kicksKept :=
  h.replace p fun hw => by
    rw [State.setDrw_drw] at hw ⊢
    rw [State.setDrw_txn]
    obtain ⟨hs, hr, hf⟩ := hv hw
    rw [hr, hf]
    exact h.port p hs

/-- A port that does not wait. -/
theorem leave (h : u.kicksKept) (p : Port) {v : Drawer} (hv : v.state ≠ .waitSupply := by exact nofun) : (u.setDrw p v).kicksKept :=
  h.setDrw p fun hw => absurd hw hv

/-- A transaction in its state, with its cash tender and its fired ports. -/
theorem setTxn (h : u.kicksKept) {v : Txn} (hs : v.state = u.txn.state := by rfl) (hc : v.tenderCash = u.txn.tenderCash := by rfl)
    (hf : ∀ p, u.txn.fired p = true → v.fired p = true := by exact fun _ => id) : (u.setTxn v).kicksKept :=
  h.of_sale hs hc hf fun p => by cases p <;> rfl

/-! #### The operations that touch neither the ports nor the transaction -/

theorem setStore (h : u.kicksKept) (v : Store) : (u.setStore v).kicksKept := h
theorem setFlash (h : u.kicksKept) (v : List FlashSector) : (u.setFlash v).kicksKept := h
theorem evalCondition (h : u.kicksKept) : u.evalCondition.kicksKept := h.of_same
theorem spareCheck (h : u.kicksKept) : u.spareCheck.kicksKept := h.of_same
theorem retireSector (h : u.kicksKept) (i : Nat) : (u.retireSector i).kicksKept := h.of_same
theorem setCal (h : u.kicksKept) (v : Calib) : (u.setCal v).kicksKept := h
theorem checkStop (h : u.kicksKept) : u.checkStop.kicksKept := h.of_same
theorem convert (h : u.kicksKept) (c : Ch) (r : Int) : (u.convert c r).kicksKept := h.of_same
theorem handOnB (h : u.kicksKept) (wasFault formed : Bool) : (u.handOnB wasFault formed).kicksKept := h.of_same
theorem setBag (h : u.kicksKept) (v : Bag) : (u.setBag v).kicksKept := h
theorem setPw (h : u.kicksKept) (v : Pricing) : (u.setPw v).kicksKept := h
theorem setSupply (h : u.kicksKept) (v : Supply) : (u.setSupply v).kicksKept := h
theorem setPrn (h : u.kicksKept) (v : Printer) : (u.setPrn v).kicksKept := h
theorem setAttn (h : u.kicksKept) (v : Attention) : (u.setAttn v).kicksKept := h
theorem atExpiry (h : u.kicksKept) (t : Timer) : (u.atExpiry t).kicksKept := h
theorem raise (h : u.kicksKept) (k : Slot) (body : List Byte) : (u.raise k body).kicksKept := h.of_same
theorem assertSource (h : u.kicksKept) (k : SourceName) : (u.assertSource k).kicksKept := h
theorem releaseSource (h : u.kicksKept) (k : SourceName) (b : Bool) : (u.releaseSource k b).kicksKept := h.of_same
theorem testBudget (h : u.kicksKept) : u.testBudget.kicksKept := h.of_same
theorem phaseStart (h : u.kicksKept) : u.phaseStart.kicksKept := h.of_same
theorem offerPrinter (h : u.kicksKept) : u.offerPrinter.kicksKept := h.of_same
theorem workLine (h : u.kicksKept) (w : Work) : (u.workLine w).kicksKept := h.of_same
theorem setTare (h : u.kicksKept) (mg : Int) : (u.setTare mg).kicksKept := h.of_same
theorem raiseWeight (h : u.kicksKept) (c : Ch) : (u.raiseWeight c).kicksKept := h.of_same
theorem holdNotPlaced (h : u.kicksKept) (i : Nat) : (u.holdNotPlaced i).kicksKept := h.of_same
theorem clearHold (h : u.kicksKept) : u.clearHold.kicksKept := h.of_same
theorem withdraw (h : u.kicksKept) (i : Nat) (x : Expect) : (u.withdraw i x).kicksKept := h.of_same
theorem convertSlot (h : u.kicksKept) (ref : Nat) (expected tolerance : Int) : (u.convertSlot ref expected tolerance).kicksKept :=
  h.of_same
theorem takeTurn (h : u.kicksKept) : u.takeTurn.kicksKept := h.of_same

/-! #### The transaction context -/

/-- The closing condition ends a transaction in CLOSING, where no port waits (R71). -/
theorem examineClosing (h : u.kicksKept) : u.examineClosing.kicksKept :=
  ite (fun hc => of_noWait (h.noWait_of_closing hc.1)) fun _ => h

theorem setReceipt (h : u.kicksKept) (r : ReceiptState) : (u.setReceipt r).kicksKept := h.setTxn.examineClosing
theorem cancelReceiptState (h : u.kicksKept) : u.cancelReceiptState.kicksKept := ite (fun _ => h.setReceipt _) fun _ => h
theorem portChanged (h : u.kicksKept) (p : Port) : (u.portChanged p).kicksKept := ite (fun _ => h.examineClosing) fun _ => h
theorem receiptPrinted (h : u.kicksKept) (n : Nat) : (u.receiptPrinted n).kicksKept := ite (fun _ => h.setReceipt _) fun _ => h
theorem receiptDone (h : u.kicksKept) (n : Nat) : (u.receiptDone n).kicksKept := (h.setPrn _).receiptPrinted n

/-! #### The ports and their loads -/

theorem grantKick (h : u.kicksKept) (p : Port) : (u.grantKick p).kicksKept := (h.leave p).portChanged p

theorem servePort (h : u.kicksKept) (p : Port) : (u.servePort p).kicksKept := by
  fun_cases State.servePort p u
  case case2 => exact h.grantKick p
  case case4 => exact ((h.setSupply _).setPrn _).grantKick p
  all_goals exact h

theorem servePorts (h : u.kicksKept) : u.servePorts.kicksKept := (h.servePort _).servePort _
theorem afterRelease (h : u.kicksKept) : u.afterRelease.kicksKept := h.servePorts.offerPrinter.testBudget
theorem enterOpen (h : u.kicksKept) (p : Port) (forced : Bool) : (u.enterOpen p forced).kicksKept := h.leave p

theorem sampleSensor (h : u.kicksKept) (p : Port) : (u.sampleSensor p).kicksKept :=
  ite (fun _ => (h.leave p).enterOpen p _) fun _ => h.leave p

/-- A fitted value takes effect at a port at rest, which waits for no kick (R174). -/
theorem applyFitted (h : u.kicksKept) (p : Port) : (u.applyFitted p).kicksKept := by
  refine ite (fun _ => h) fun hr => ite (fun _ => ?_) fun _ => ((h.leave p).releaseSource _ _).releaseSource _ _
  refine sampleSensor (h.leave p fun hw => hr (.inr ?_)) p
  rw [show (u.drw p).state = .waitSupply from hw]
  rfl

theorem portMoved (h : u.kicksKept) (p : Port) : (u.portMoved p).kicksKept := (h.applyFitted p).portChanged p

theorem sensorEvent (h : u.kicksKept) (p : Port) (opens : Bool) : (u.sensorEvent p opens).kicksKept := by
  have hd : (u.setDrw p { u.drw p with sensorOpen := opens }).kicksKept := h.setDrw p
  fun_cases State.sensorEvent p opens u
  case case1 => exact ((hd.enterOpen p _).assertSource _).portMoved p
  case case3 => exact (hd.enterOpen p _).afterRelease.portMoved p
  case case2 | case4 => exact (hd.enterOpen p _).portMoved p
  case case5 | case6 => exact (((hd.leave p).releaseSource _ _).releaseSource _ _).portMoved p
  case case7 => exact hd

theorem evDrawerSensorChange (h : u.kicksKept) (p : Port) (high : Bool) : (evDrawerSensorChange p high u).kicksKept :=
  ite (fun _ => h) fun _ => ite (fun _ => (h.setDrw p).sensorEvent p _) fun _ => h.setDrw p

theorem evKickTimerExpiry (h : u.kicksKept) (p : Port) : (evKickTimerExpiry p u).kicksKept := by
  fun_cases Machine.evKickTimerExpiry p u
  · exact afterRelease (ite (fun _ => (h.atExpiry _).enterOpen p _) fun _ => (h.atExpiry _).leave p) |>.portMoved p
  · exact h

theorem evHoldLimitExpiry (h : u.kicksKept) (p : Port) : (evHoldLimitExpiry p u).kicksKept := by
  fun_cases Machine.evHoldLimitExpiry p u
  · exact ((h.atExpiry _).leave p).afterRelease.portMoved p
  · exact h

theorem evOverdueTimerExpiry (h : u.kicksKept) (p : Port) : (evOverdueTimerExpiry p u).kicksKept := by
  fun_cases Machine.evOverdueTimerExpiry p u
  · exact (((h.atExpiry _).leave p).assertSource _).portMoved p
  · exact h

theorem evStrobePhaseEnd (h : u.kicksKept) : (evStrobePhaseEnd u).kicksKept := by
  fun_cases Machine.evStrobePhaseEnd u
  · exact h
  · exact ((h.setSupply _).setPrn _).servePorts.setPrn _ |>.testBudget
  · exact ((h.setSupply _).setPrn _).servePorts.setPrn _
  · exact ((h.setSupply _).setPrn _).servePorts.phaseStart.testBudget

theorem coverStop (h : u.kicksKept) : u.coverStop.kicksKept :=
  ite (fun _ => ((h.setPrn _).setSupply _).afterRelease) fun _ => ((h.setPrn _).setSupply _).testBudget

theorem evCoverSensorChange (h : u.kicksKept) (isOpen : Bool) : (evCoverSensorChange isOpen u).kicksKept :=
  ite (fun _ => h.setPrn _) fun _ => ite (fun _ => h.setPrn _) fun _ => ((h.setPrn _).setPrn _).coverStop

theorem putPolarity (h : u.kicksKept) (p : Port) (v : Bool) : (u.putPolarity p v).kicksKept :=
  ite (fun _ => (h.setDrw p).sensorEvent p _) fun _ => h.setDrw p

theorem putDrawer (h : u.kicksKept) (p : Port) (setting v : Nat) : (u.putDrawer p setting v).kicksKept := by
  fun_cases State.putDrawer p setting v u
  case case1 => exact (h.setDrw p).portMoved p
  case case6 => exact h.putPolarity p _
  all_goals exact h.setDrw p

end State.kicksKept

/-- What a DRAWER_OPEN that is not refused has met (R168). -/
theorem drawerRefusal_none {p : Port} {reason : Nat} {s : State} (h : drawerRefusal p reason s = none) :
    (s.drw p).fitted = true ∧ (reason = 0 → s.txn.state = .tender ∧ s.txn.tenderCash = true) ∧ (reason ≠ 0 → s.txn.state = .idle) := by
  revert h
  fun_cases drawerRefusal p reason s
  case case5 hf _ hs hn => exact fun _ => ⟨by simpa using hf, fun h => not_not.1 fun ht => hs ⟨h, ht⟩, fun h => not_not.1 fun hi => hn ⟨h, hi⟩⟩
  all_goals nofun

theorem Txn.fire_keeps (t : Txn) (p : Port) : (t.fire p).state = t.state ∧ (t.fire p).tenderCash = t.tenderCash
    ∧ (t.fire p).fired p = true ∧ ∀ q, t.fired q = true → (t.fire p).fired q = true := by
  cases p with
  | one => exact ⟨rfl, rfl, rfl, fun q hq => match q with | .one => rfl | .two => hq⟩
  | two => exact ⟨rfl, rfl, rfl, fun q hq => match q with | .one => hq | .two => rfl⟩

namespace State.kicksKept
variable {u t : State}

/-- An accepted DRAWER_OPEN waits within the sale that R168 tests; a SALE kick joins the drawers-fired set (R75). -/
theorem reqDrawerOpen (h : u.kicksKept) (p : Port) (reason : Nat) : (reqDrawerOpen p reason u).1.kicksKept := by
  fun_cases Machine.reqDrawerOpen p reason u
  · exact h
  · next hr s₁ s₂ s₃ =>
    obtain ⟨hfit, hsale, hidle⟩ := drawerRefusal_none hr
    obtain ⟨hstate, hcash, hfired, hmore⟩ := u.txn.fire_keeps p
    have h₁ : s₁.kicksKept := ite (fun _ => h.setTxn hstate hcash hmore) fun _ => h
    have hd : (s₁.drw p).fitted = true := by simp only [s₁]; split <;> cases p <;> exact hfit
    refine (h₁.replace p fun _ => ?_).servePorts.takeTurn
    rw [State.setDrw_drw, State.setDrw_txn]
    refine ⟨hd, ?_⟩
    by_cases h0 : reason = 0
    · obtain ⟨ht, hc⟩ := hsale h0
      simp only [s₁, if_pos h0, State.setTxn_txn]
      exact .inl ⟨trivial, hstate.trans ht, hcash.trans hc, hfired⟩
    · simp only [s₁, if_neg h0]
      exact .inr ⟨trivial, hidle h0⟩

/-- A lane reset leaves a fitted port OPEN or CLOSED, and a port that waits is fitted (R175). -/
theorem resetBlocks (h : u.kicksKept) : u.resetBlocks.kicksKept := by
  have hd : ∀ p, (u.supplyReset.drw p).state ≠ .waitSupply := fun p hw => by
    rw [State.supplyReset_drw] at hw
    cases hf : (u.drw p).fitted
    · rw [Drawer.laneReset, if_pos hf] at hw
      exact Bool.false_ne_true (hf.symm.trans (h.port p hw).1)
    · rcases Drawer.laneReset_state hf u.clock with hs | hs <;> rw [hs] at hw <;> cases hw
  rw [State.resetBlocks_eq]
  exact of_noWait hd

/-! #### Bagging, pricing and the store -/

theorem addBagSkip (h : u.kicksKept) (n : Nat) : (u.addBagSkip n).kicksKept := h.setTxn
theorem clearInFlight (h : u.kicksKept) : u.clearInFlight.kicksKept := h.setTxn

theorem evDeadlineExpiry (h : u.kicksKept) (index : Nat) : (evDeadlineExpiry index u).kicksKept := by
  fun_cases Machine.evDeadlineExpiry index u
  · exact h
  · exact h
  · exact raise (ite (fun _ => ((h.atExpiry _).setBag _).addBagSkip 1) fun _ =>
    ite (fun _ => ((h.atExpiry _).setBag _).holdNotPlaced _) fun _ => (h.atExpiry _).setBag _) _ _

theorem reqBagClear (h : u.kicksKept) : (reqBagClear u).1.kicksKept := by
  fun_cases Machine.reqBagClear u
  case case5 => exact clearHold (ite (fun _ => ((h.setBag _).setBag _).addBagSkip 1) fun _ => h.setBag _)
  all_goals exact h

theorem reqBagSkip (h : u.kicksKept) (ref : Nat) : (reqBagSkip ref u).1.kicksKept := by
  fun_cases Machine.reqBagSkip ref u
  case case4 => exact (h.addBagSkip 1).withdraw _ _
  all_goals exact h

theorem endRequest (h : u.kicksKept) (result : PwResult) (reason : PwReason) : (u.endRequest result reason).kicksKept :=
  ((setPw (ite (fun _ => h.setBag _) fun _ => h) _).clearInFlight).raise _ _

theorem saleWritten (h : u.kicksKept) (number : Nat) : (u.saleWritten number).kicksKept := by
  fun_cases State.saleWritten number u
  · next s₁ s₂ s₃ s₄ =>
    have h₁ : s₁.kicksKept := h.setTxn
    have h₂ : s₂.kicksKept := ite (fun _ => h₁.convertSlot _ _ _) fun _ => h₁
    have h₃ : s₃.kicksKept := ite (fun _ => h₂.setTare 0) fun _ => h₂
    exact (h₃.clearInFlight.setPw _).raise _ _
  · exact (h.setPw _).raise _ _
  · exact h

theorem saleFailed (h : u.kicksKept) : u.saleFailed.kicksKept := by
  fun_cases State.saleFailed u
  · exact (h.setPw _).endRequest _ _
  · exact (h.setPw _).raise _ _
  · exact h

theorem abortRequest (h : u.kicksKept) : u.abortRequest.kicksKept := by
  obtain ⟨b, ht⟩ := u.abortRequest_txn
  exact h.of_sale (by rw [ht]) (by rw [ht]) (by rw [ht]; exact fun _ => id) fun p => by cases p <;> simp [State.drw]

theorem failWrite (h : u.kicksKept) (r : RecordBody) : (u.failWrite r).kicksKept := by
  cases r
  · exact h.saleFailed
  · exact h.of_same (by simp [State.failWrite])

theorem tellWritten (h : u.kicksKept) (number : Nat) (r : RecordBody) : (u.tellWritten number r).kicksKept := by
  cases r
  · exact h.saleWritten _
  · exact h.of_same (by simp [State.tellWritten])

/-- The next step of an erase, if one is in progress. -/
theorem serveErase (h : u.kicksKept) : (match u.store.erase with
    | some y => (u.setStore (u.store.eraseStep y), false)
    | none => (u, false)).1.kicksKept := by
  split
  · exact h.setStore _
  · exact h

theorem choose1 (h : u.kicksKept) : u.choose1.1.kicksKept := by
  fun_cases State.choose1 u
  case case7 | case9 => exact h.serveErase
  case case8 => exact (h.setStore _).failWrite _
  all_goals exact h.of_same

theorem pumpN (n : Nat) : ∀ {u : State}, u.kicksKept → (u.pumpN n).kicksKept := by
  induction n with
  | zero => exact id
  | succ n ih => exact fun h => ite (fun _ => h) fun _ => ite (fun _ => ih h.choose1) fun _ => h.choose1

theorem pump (h : u.kicksKept) : u.pump.kicksKept := ite (fun _ => h) fun _ => pumpN 16 h
theorem enqueue (h : u.kicksKept) (a : Access) : (u.enqueue a).kicksKept := (h.setStore _).pump

theorem handOverSale (h : u.kicksKept) (r : SaleFields) : (u.handOverSale r).kicksKept :=
  ite (fun _ => h.saleFailed) fun _ => h.enqueue _
theorem offerSale (h : u.kicksKept) (r : SaleFields) : (u.offerSale r).kicksKept :=
  ite (fun _ => (h.setPw _).setStore _) fun _ => h.handOverSale r
theorem offerLine (h : u.kicksKept) (n : Nat) : (u.offerLine n).kicksKept := ite (fun _ => h.setStore _) fun _ => h.enqueue _

theorem evSaleRecordHandover (h : u.kicksKept) : (evSaleRecordHandover u).kicksKept := by
  fun_cases Machine.evSaleRecordHandover u
  · exact ((h.setPw _).setStore _).handOverSale _
  all_goals exact h

theorem evWeighedLineReadHandover (h : u.kicksKept) : (evWeighedLineReadHandover u).kicksKept := by
  fun_cases Machine.evWeighedLineReadHandover u
  · exact (h.setStore _).enqueue _
  all_goals exact h

theorem evRecordProgramEnd (h : u.kicksKept) (verified : Bool) : (evRecordProgramEnd verified u).kicksKept := by
  fun_cases Machine.evRecordProgramEnd verified u
  · exact (tellWritten h.of_same _ _).pump
  case case4 | case6 => exact h
  all_goals exact pump h.of_same

theorem evHeaderMarkEnd (h : u.kicksKept) (verified : Bool) : (evHeaderMarkEnd verified u).kicksKept := by
  fun_cases Machine.evHeaderMarkEnd verified u
  case case1 | case2 | case4 | case5 | case7 | case8 => exact pump h.of_same
  case case10 => exact h
  all_goals exact h.setStore _

theorem evRecordReadEnd (h : u.kicksKept) (health : List Health) : (evRecordReadEnd health u).kicksKept := by
  fun_cases Machine.evRecordReadEnd health u
  · exact pump h.of_same
  · exact h

theorem evErasePulseEnd (h : u.kicksKept) : (evErasePulseEnd u).kicksKept := by
  fun_cases Machine.evErasePulseEnd u
  · exact ((h.setFlash _).setStore _).evalCondition.pump
  · exact h

theorem evBlankVerifyEnd (h : u.kicksKept) (blank : Bool) : (evBlankVerifyEnd blank u).kicksKept := by
  have ho : (u.setStore u.store.opEnds).kicksKept := h
  fun_cases Machine.evBlankVerifyEnd blank u
  · exact ((ho.setStore _).evalCondition.setStore _).spareCheck.pump
  · exact ((ho.setFlash _).setStore _).evalCondition.pump
  · exact ((ho.setFlash _).retireSector _).pump
  · exact h

theorem reqAlibiRead (h : u.kicksKept) (tag : Byte) (first count : Nat) : (reqAlibiRead tag first count u).1.kicksKept := by
  fun_cases Machine.reqAlibiRead tag first count u
  case case3 => exact h.enqueue _
  all_goals exact h

theorem reqAlibiRelease (h : u.kicksKept) (upTo : Nat) : (reqAlibiRelease upTo u).1.kicksKept := by
  fun_cases Machine.reqAlibiRelease upTo u
  · exact h.setStore _
  · exact h
  · exact (h.setStore _).enqueue _

theorem reqCalCommit (h : u.kicksKept) : (reqCalCommit u).1.kicksKept := by
  fun_cases Machine.reqCalCommit u
  case case6 => exact ((h.setCal _).raise _ _).enqueue _
  all_goals exact h

theorem acceptPrice (h : u.kicksKept) (unitPrice : Nat) (presetTare : Int) (bag : Bool) (tolerance : Int) :
    (u.acceptPrice unitPrice presetTare bag tolerance).kicksKept := by
  fun_cases State.acceptPrice unitPrice presetTare bag tolerance u
  next s₁ _ s₂ _ =>
    have h₁ : s₁.kicksKept := by
      simp only [s₁]
      split
      · exact h.setTare _
      · exact h
    have h₂ : s₂.kicksKept := ite (fun _ => h₁.setBag _) fun _ => h₁
    exact ((h₂.setPw _).setTxn).raise _ _

theorem reqPriceWeigh (h : u.kicksKept) (unitPrice : Nat) (presetTare : Int) (flags : Nat) (tolerance : Int) :
    (reqPriceWeigh unitPrice presetTare flags tolerance u).1.kicksKept := by
  fun_cases Machine.reqPriceWeigh unitPrice presetTare flags tolerance u
  · exact h
  · exact acceptPrice h _ _ _ _

theorem reqPriceCancel (h : u.kicksKept) : (reqPriceCancel u).1.kicksKept := by
  fun_cases Machine.reqPriceCancel u
  case case1 | case2 => exact h.endRequest _ _
  all_goals exact h

theorem evSettleTimerExpiry (h : u.kicksKept) : (evSettleTimerExpiry u).kicksKept := by
  fun_cases Machine.evSettleTimerExpiry u
  · exact h
  · exact (h.atExpiry _).endRequest _ _

theorem latchSale (h : u.kicksKept) (r : Report) : (u.latchSale r).kicksKept := by
  fun_cases State.latchSale r u
  · exact (h.setPw _).endRequest _ _
  · exact ((h.setPw _).raise _ _).offerSale _

theorem priceReading (h : u.kicksKept) : u.priceReading.kicksKept :=
  ite (fun _ => latchSale h.of_same _) fun _ => h.of_same

theorem evConversionComplete (h : u.kicksKept) (c : Ch) (raw : BitVec 24) : (evConversionComplete c raw u).kicksKept := by
  unfold Machine.evConversionComplete
  extract_lets wasFault n s₁ formed s₂
  have h₁ : s₁.kicksKept := h.convert c _
  have h₂ : s₂.kicksKept := by
    simp only [s₂]
    cases c
    · exact ite (fun _ => h₁.priceReading) fun _ => h₁
    · exact h₁.handOnB _ _
  exact ite (fun _ => h₂.raiseWeight c) fun _ => h₂

theorem evRecoveryScanEnd (h : u.kicksKept) (scan : Scan) : (evRecoveryScanEnd scan u).kicksKept :=
  ite (fun _ => h) fun _ => pump (of_sale h (by simp) (by simp) (fun p => by cases p <;> simp [Txn.fired])
    fun p => by cases p <;> simp [State.drw])

/-! #### The printer -/

theorem startRecord (h : u.kicksKept) (r : PrintRecord) : (u.startRecord r).kicksKept := by
  cases r
  case weighedLine n => exact (h.setPrn _).offerLine n
  all_goals exact h.of_same (by simp [State.startRecord]) (by simp [State.startRecord]) (by simp [State.startRecord])

theorem startNextN (n : Nat) : ∀ {u : State}, u.kicksKept → (u.startNextN n).kicksKept := by
  induction n with
  | zero => exact id
  | succ n ih =>
    intro u h
    unfold State.startNextN
    refine ite (fun _ => h) fun _ => ite (fun _ => h) fun _ => ?_
    split
    · exact h.setPrn _
    · split
      · exact ih ((h.setPrn _).setPrn _)
      · exact ih ((h.receiptDone _).setPrn _)
      · exact h.startRecord _

theorem startNext (h : u.kicksKept) : u.startNext.kicksKept := startNextN _ h

theorem goOn (h : u.kicksKept) : u.goOn.kicksKept := by
  fun_cases State.goOn u
  · exact h.setPrn _
  · exact h.workLine _
  · exact h.startNext

theorem weighedLinePrinted (h : u.kicksKept) (j : TextJob) : (u.weighedLinePrinted j).kicksKept := by
  have hd : (if j.damaged = true then u.setPrn { u.prn with damagedLine := true, damagedNumber := j.number } else u).kicksKept :=
    ite (fun _ => h.setPrn _) fun _ => h
  exact ite (fun _ => hd.setTxn) fun _ => hd

theorem evPaperAdvanceEnd (h : u.kicksKept) : (evPaperAdvanceEnd u).kicksKept := by
  have hl : ∀ w, (u.lineEnds w).kicksKept := fun w => by
    fun_cases State.lineEnds w u
    · exact ((h.setPrn _).setPrn _).goOn
    · exact ((h.setPrn _).setPrn _).goOn
    · next s₁ _ s₂ =>
      have h₂ : s₂.kicksKept := by
        simp only [s₂]
        split
        · exact (h.setPrn _).weighedLinePrinted _
        · exact h.setPrn _
      exact (h₂.setPrn _).goOn
  fun_cases Machine.evPaperAdvanceEnd u
  · exact hl _
  · exact h
  · exact h

theorem cycleEnds (h : u.kicksKept) : u.cycleEnds.kicksKept := by
  fun_cases State.cycleEnds u
  next s₁ s₂ =>
    have h₂ : s₂.kicksKept := by
      simp only [s₂]
      split
      · exact (h.setPrn _).setPrn _
      · exact h.setPrn _
    exact h₂.goOn

theorem evCutterDriveEnd (h : u.kicksKept) : (evCutterDriveEnd u).kicksKept := by
  fun_cases Machine.evCutterDriveEnd u
  · exact (h.atExpiry _).cycleEnds
  · exact (h.atExpiry _).setPrn _
  · exact h
  · exact h

theorem evCutterHomeChange (h : u.kicksKept) (home : Bool) : (evCutterHomeChange home u).kicksKept :=
  ite (fun _ => (h.setPrn _).cycleEnds) fun _ => h.setPrn _

theorem evJamTimerExpiry (h : u.kicksKept) : (evJamTimerExpiry u).kicksKept := by
  fun_cases Machine.evJamTimerExpiry u
  · exact ((h.atExpiry _).setPrn _).cycleEnds
  · exact h
  · exact h

theorem resume (h : u.kicksKept) : u.resume.kicksKept := by
  have hr : (u.setPrn { u.prn with restart := .none }).kicksKept := h
  fun_cases State.resume u
  · exact hr.workLine _
  · exact hr.setPrn _
  · exact hr.startNext
  · exact hr.setPrn _
  · exact hr.phaseStart
  · exact hr.workLine _

theorem tryResume (h : u.kicksKept) : u.tryResume.kicksKept := ite (fun _ => h.resume) fun _ => h

theorem evHeadMonitorSample (h : u.kicksKept) (v : SupplySamples) (temp : TempSamples) : (evHeadMonitorSample v temp u).kicksKept :=
  have ht := (h.setPrn _).checkStop.tryResume
  ite (fun _ => ht) fun _ => ht.raise _ _

theorem reqPrintResume (h : u.kicksKept) : (reqPrintResume u).1.kicksKept := by
  fun_cases Machine.reqPrintResume u
  · exact h
  · exact h
  · exact (h.setPrn _).tryResume

theorem endRecord (h : u.kicksKept) : u.endRecord.kicksKept := by
  fun_cases State.endRecord u
  · exact h
  · exact h
  · exact h.setPrn _
  · have hd : ((((u.setStore u.store.dropLineRead).completeRecord).setPrn
        { ((u.setStore u.store.dropLineRead).completeRecord).prn with restart := .none }).withdrawOwed).kicksKept :=
      (((h.setStore _).setPrn _).setPrn _).setSupply _ |>.testBudget
    exact ite (fun _ => hd) fun _ => hd.startNext

theorem reqPrintCancel (h : u.kicksKept) : (reqPrintCancel u).1.kicksKept :=
  ((h.setPrn _).endRecord.setPrn _).cancelReceiptState.raise _ _

theorem takeRecords (h : u.kicksKept) (t : Trial) : (u.takeRecords t).kicksKept :=
  ite (fun _ => (h.setPrn _).setTxn) fun _ => ((h.setPrn _).setTxn).setReceipt _

theorem reqPrintRecords (h : u.kicksKept) (rs : List PrintRecord) : (reqPrintRecords rs u).1.kicksKept := by
  fun_cases Machine.reqPrintRecords rs u
  · exact h
  · exact h
  · exact ite (fun _ => (h.takeRecords _).startNext) fun _ => h.takeRecords _

/-! #### The transaction's requests -/

/-- TXN_OPEN finds every port CLOSED or NO_OPEN (R66). -/
theorem reqTxnOpen (h : u.kicksKept) (laneTime : Nat) : (reqTxnOpen laneTime u).1.kicksKept := by
  cases hr : txnOpenRefusal u with
  | some r =>
    rw [Machine.reqTxnOpen, hr]
    exact h
  | none =>
    have hw : ∀ p, (u.drw p).state ≠ .waitSupply := fun p hw => by
      have hd : u.someDrawerOut = true := by cases p <;> simp_all [State.someDrawerOut, State.drw, DrawerState.unfinished]
      revert hr
      unfold txnOpenRefusal
      rw [hd]
      split <;> simp
    exact of_noWait hw

/-- A tender only widens what a port in TENDER may wait for, and in OPEN none waits (R68). -/
theorem reqTxnTender (h : u.kicksKept) (kind : Nat) : (reqTxnTender kind u).1.kicksKept := by
  cases hr : txnTenderRefusal u with
  | some r =>
    rw [Machine.reqTxnTender, hr]
    exact h
  | none =>
    have hi : u.txn.state ≠ .idle := fun hi => by simp [txnTenderRefusal, hi] at hr
    have ht : ∀ x : Txn, (x.tendered kind).fired = x.fired ∧ (x.tenderCash = true → (x.tendered kind).tenderCash = true) := fun x => by
      unfold Txn.tendered
      split
      · exact ⟨rfl, fun _ => rfl⟩
      · exact ⟨rfl, id⟩
      · exact ⟨rfl, id⟩
    rw [Machine.reqTxnTender, hr]
    dsimp only
    generalize hs : (if u.bag.enabled = true then u.dropSkippable else u) = u₁
    have h₁ : u₁.kicksKept ∧ u₁.txn.state = u.txn.state := by
      subst hs
      split
      · exact ⟨h.setTxn, rfl⟩
      · exact ⟨h, rfl⟩
    refine raise (of_ports fun p hw => ?_) _ _
    obtain ⟨hf, ⟨hr, -, hc, hp⟩ | ⟨-, hs⟩⟩ := h₁.1.port p (by cases p <;> exact hw)
    · have hd : ∀ v, (State.setTxn v u₁).drw p = u₁.drw p := fun v => by cases p <;> rfl
      rw [hd, State.setTxn_txn]
      obtain ⟨hfired, hcash⟩ := ht u₁.txn
      exact ⟨hf, .inl ⟨hr, rfl, hcash hc, (congrFun hfired p).trans hp⟩⟩
    · exact absurd (h₁.2.symm.trans hs) hi

/-- No port waits in a TENDER whose drawers-fired set is empty (R69). -/
theorem reqTxnResume (h : u.kicksKept) : (reqTxnResume u).1.kicksKept := by
  fun_cases Machine.reqTxnResume u
  · exact h
  · exact h
  · next hs hf =>
    have hw : u.firedWaits = false := by simp_all [State.firedWaits]
    have hi : u.txn.state ≠ .idle := by simp_all
    exact of_noWait (h.noWait_of_fired hi hw)

theorem reqTxnClose (h : u.kicksKept) : (reqTxnClose u).1.kicksKept := by
  fun_cases Machine.reqTxnClose u
  case case4 hs hw _ =>
    have hi : u.txn.state ≠ .idle := by simp_all
    exact of_noWait (h.noWait_of_fired hi (by simpa using hw))
  all_goals exact h

theorem reqTxnAbort (h : u.kicksKept) : (reqTxnAbort u).1.kicksKept := by
  by_cases hc : u.txn.state = .idle ∨ u.firedWaits = true
  · have hs : (Machine.reqTxnAbort u).1 = u := by
      unfold Machine.reqTxnAbort
      split
      · rfl
      · next hi => rw [if_pos (hc.resolve_left hi)]
    rw [hs]
    exact h
  · obtain ⟨hi, hw⟩ := not_or.1 hc
    exact of_noWait (h.noWait_of_fired hi (by simpa using hw))

/-! #### Requests and commands -/

theorem putSetting (h : u.kicksKept) (block setting v : Nat) : (u.putSetting block setting v).kicksKept := by
  fun_cases State.putSetting block setting v u
  case case5 => exact ite (fun _ => h) fun _ => h
  case case13 => exact (h.setSupply _).testBudget
  case case15 | case16 => exact h.putDrawer _ _ _
  case case20 => exact (h.setStore _).spareCheck.pump
  all_goals exact h

theorem reqSettingPut (h : u.kicksKept) (block setting value : Nat) : (reqSettingPut block setting value u).1.kicksKept := by
  fun_cases Machine.reqSettingPut block setting value u
  · exact h
  · exact h.putSetting _ _ _

theorem serveDrawerOpen (h : u.kicksKept) (p reason : Nat) : (serveDrawerOpen p reason u).1.kicksKept := by
  fun_cases Machine.serveDrawerOpen p reason u
  · exact h.reqDrawerOpen _ _
  · exact h

theorem forChannel (h : u.kicksKept) (c : Nat) {f : Ch → State → State × Answer} (hf : ∀ c, (f c u).1.kicksKept) :
    (forChannel c f u).1.kicksKept := by
  fun_cases Machine.forChannel c f u
  · exact hf _
  · exact h

theorem serve (h : u.kicksKept) (tag : Byte) (r : Request) : (serve tag r u).1.kicksKept := by
  cases r
  case settingPut b n v => exact h.reqSettingPut b n v
  case weightGet c => exact h.forChannel c fun _ => h
  case zero c => exact h.forChannel c fun _ => h.of_same
  case txnOpen t => exact h.reqTxnOpen t
  case txnTender k => exact h.reqTxnTender k
  case txnResume => exact h.reqTxnResume
  case txnClose => exact h.reqTxnClose
  case txnAbort => exact h.reqTxnAbort
  case priceWeigh u' t f tol => exact h.reqPriceWeigh u' t f tol
  case priceCancel => exact h.reqPriceCancel
  case alibiRead n c => exact h.reqAlibiRead tag n c
  case alibiRelease n => exact h.reqAlibiRelease n
  case calCommit => exact h.reqCalCommit
  case bagClear => exact h.reqBagClear
  case bagSkip r => exact h.reqBagSkip r
  case drawerOpen p r => exact h.serveDrawerOpen p r
  case printRecords rs => exact h.reqPrintRecords _
  case printCancel => exact h.reqPrintCancel
  case printResume => exact h.reqPrintResume
  all_goals exact h.of_same (by simp [Machine.serve, answered]) (by simp [Machine.serve, answered]) (by simp [Machine.serve, answered])

theorem answerRequest (h : u.kicksKept) (tag : Byte) (r : Request) : (u.answerRequest tag r).kicksKept := by
  have hd : (decide3 tag r u).1.kicksKept := by
    fun_cases decide3 tag r u
    · exact h.serve tag r
    · exact h
    · exact h.serve tag r
    · exact h
  unfold State.answerRequest
  split
  · next heq =>
    rw [heq] at hd
    exact hd
  · next heq =>
    rw [heq] at hd
    exact hd

theorem takeRequest (h : u.kicksKept) (tag : Byte) (r : Request) : (u.takeRequest tag r).kicksKept :=
  ite (fun _ => answerRequest (u := u.reservePlace) h tag r) fun _ => h

theorem evFrameTaken (h : u.kicksKept) : (evFrameTaken u).kicksKept := by
  fun_cases Machine.evFrameTaken u
  · exact h
  · next f rest _ _ =>
    fun_cases State.answerFrame f (State.setLink { u.link with rx := rest }.hunt u).reservePlace
    · exact h
    · exact h
    · exact answerRequest (u := (State.setLink { u.link with rx := rest }.hunt u).reservePlace) h _ _
  · exact h

theorem printRecordsStep (h : u.kicksKept) (tag : Byte) (body : List Byte) : (printRecordsStep tag body u).kicksKept := by
  fun_cases Machine.printRecordsStep tag body u
  · exact h.takeRequest tag _
  · exact h
  · exact h

theorem endReset (h : u.kicksKept) (tag : Byte) : (u.endReset tag).kicksKept := h

theorem applyLaneReset (h : u.kicksKept) (tag : Byte) : (u.applyLaneReset tag).kicksKept := by
  rw [State.applyLaneReset]
  exact h.resetBlocks.endReset tag

theorem laneResetStep (h : u.kicksKept) (tag : Byte) : (laneResetStep tag u).kicksKept := by
  fun_cases Machine.laneResetStep tag u
  · exact h.applyLaneReset _
  · exact (h.takeRequest tag .laneReset).applyLaneReset _
  · exact h.takeRequest tag .laneReset

/-- At power-on reset a port is CLOSED, or OPEN where its sensor reads open (R166). -/
theorem evPowerOnReset (pins : Pins) (fate : FlashFate) (s : State) : (evPowerOnReset pins fate s).kicksKept := by
  have h : (s.poweredOn pins fate).kicksKept := State.kicksKept_of_noWait
    (by simp only [State.poweredOn, Drawer.sampled]; split <;> nofun) (by simp only [State.poweredOn, Drawer.sampled]; split <;> nofun)
  rw [evPowerOnReset_eq]
  exact ite (fun _ => h.raise _ _) fun _ => h

theorem of_ended {s : State} (h : ended s u = .next t) (hu : u.kicksKept) : t.kicksKept := by
  rw [← Host.Outcome.next.inj h]
  exact hu.of_same

end State.kicksKept

/-- A request row other than LANE_RESET keeps the waiting kicks within their sale. -/
theorem exec_kicksKept_of_request {i : Instr} {tag : Byte} {r : Request} {s t : State} (hi : i.request? = some (tag, r))
    (h : exec i s = .next t) (hr : r ≠ .laneReset) (k : s.kicksKept) : t.kicksKept :=
  .of_ended ((exec_of_request hi hr s).symm.trans h) (k.takeRequest tag r)

/-- Every command keeps the waiting kicks within their sale. -/
theorem exec_kicksKept {i : Instr} {s t : State} (h : exec i s = .next t) (k : s.kicksKept) : t.kicksKept := by
  cases i
  case powerOnReset pins fate => cases h; exact .evPowerOnReset pins fate s
  case recoveryScanEnd scan => cases h; exact (k.evRecoveryScanEnd scan).of_same
  case laneReset tag => cases h; exact (k.laneResetStep tag).of_same
  case frameTaken => exact .of_ended h k.evFrameTaken
  case printRecords tag body => exact .of_ended h (k.printRecordsStep tag body)
  case conversionComplete c raw => exact .of_ended h (k.evConversionComplete c raw)
  case saleRecordHandover => exact .of_ended h k.evSaleRecordHandover
  case settleTimerExpiry => exact .of_ended h k.evSettleTimerExpiry
  case recordProgramEnd verified => exact .of_ended h (k.evRecordProgramEnd verified)
  case headerMarkEnd verified => exact .of_ended h (k.evHeaderMarkEnd verified)
  case recordReadEnd slots => exact .of_ended h (k.evRecordReadEnd slots)
  case erasePulseEnd => exact .of_ended h k.evErasePulseEnd
  case blankVerifyEnd blank => exact .of_ended h (k.evBlankVerifyEnd blank)
  case deadlineExpiry index => exact .of_ended h (k.evDeadlineExpiry index)
  case drawerSensorChange port high => exact .of_ended h (k.evDrawerSensorChange port high)
  case kickTimerExpiry port => exact .of_ended h (k.evKickTimerExpiry port)
  case holdLimitExpiry port => exact .of_ended h (k.evHoldLimitExpiry port)
  case overdueTimerExpiry port => exact .of_ended h (k.evOverdueTimerExpiry port)
  case strobePhaseEnd => exact .of_ended h k.evStrobePhaseEnd
  case paperAdvanceEnd => exact .of_ended h k.evPaperAdvanceEnd
  case weighedLineReadHandover => exact .of_ended h k.evWeighedLineReadHandover
  case cutterDriveEnd => exact .of_ended h k.evCutterDriveEnd
  case cutterHomeChange home => exact .of_ended h (k.evCutterHomeChange home)
  case jamTimerExpiry => exact .of_ended h k.evJamTimerExpiry
  case coverSensorChange coverOpen => exact .of_ended h (k.evCoverSensorChange coverOpen)
  case headMonitorSample supply temp => exact .of_ended h (k.evHeadMonitorSample supply temp)
  case byteReceived | candidateAbandoned | hrdyChange | frameSent | byteSent | conversionWatchdogExpiry | trackingStep
    | metrologySwitchChange | cardSwitchChange | fluxTransition | fluxGap | decodeEnd | cardLeftTimerExpiry | holdTimerExpiry
    | paperSensorChange | paperLowChange | hostBeepEnd | acceptEnd => exact .of_ended h k.of_same
  all_goals exact exec_kicksKept_of_request rfl h nofun k

/-- Settles O56: the queue of commands is nothing that a waiting kick depends on. -/
theorem everyStepKeepsKicksInsideTheirSale : Obligations.EveryStepKeepsKicksInsideTheirSale := fun s t k h => by
  unfold step at h
  split at h
  · cases h
    exact k.of_same (by simp [State.tick]) (by simp [State.tick]) (by simp [State.tick])
  · exact exec_kicksKept h k

end Sys2Proof.Machine

namespace Sys2Proof.Machine
set_option Elab.async false

/-! ### Requests of the transaction that are refused (R8, R66, R68 to R70, R72) -/

/-- A request that its block refuses, or answers with no effect, changes nothing beyond its reply. -/
theorem exec_of_unchanged {s : State} {c : Instr} {tag : Byte} {r : Request} {a : Answer} (h : s.ready)
    (hc : c.request? = some (tag, r)) (hr : r ≠ .laneReset) (hs : serve tag r s.reservePlace = (s.reservePlace, some a))
    (hf : r.fieldsOk = true := by rfl) : exec c s = .next (s.answer r.kind tag a).chooseFrame :=
  exec_of_answered h hc hr hf hs

/-- A port in the drawers-fired set waits for supply (R70, R72). -/
theorem State.firedWaits_iff (s : State) : s.firedWaits = true ↔ ∃ p, s.txn.fired p = true ∧ (s.drw p).state = .waitSupply := by
  simp only [State.firedWaits, Bool.or_eq_true, Bool.and_eq_true, beq_iff_eq]
  constructor
  · rintro (h | h)
    · exact ⟨.one, h⟩
    · exact ⟨.two, h⟩
  · rintro ⟨p, h⟩
    cases p
    · exact .inl h
    · exact .inr h

/-! ### TXN_RESUME (R69) -/

/-- A request that its block answers, the notices of what it changed behind its reply (R8, R78). -/
theorem exec_of_finished {s u : State} {c : Instr} {tag : Byte} {r : Request} {a : Answer} (h : s.ready)
    (hc : c.request? = some (tag, r)) (hr : r ≠ .laneReset) (hs : serve tag r s.reservePlace = (u.reservePlace, some a))
    (hf : r.fieldsOk = true := by rfl) : exec c s = .next ((u.answer r.kind tag a).finish s) := by
  have ha : s.takeRequest tag r = u.answer r.kind tag a :=
    State.takeRequest_of_answer h.1 (by rw [decide3_of_fieldsOk (s := s.reservePlace) tag h.2 hf, hs])
  rw [exec_of_request hc hr, ended, ha]

/-- A command that changed the transaction, and nothing else that a notice follows, raises TXN_STATE alone (R78). -/
theorem State.finish_of_txn {s t : State} (ht : t.txn ≠ s.txn) (hb : t.bag = s.bag) (h₁ : t.drw1 = s.drw1) (h₂ : t.drw2 = s.drw2)
    (hp : t.prn = s.prn) : t.finish s = (t.raise .txnState t.txn.bytes).chooseFrame := by
  have hr : t.raiseChanges s = t.raise .txnState t.txn.bytes := by
    simp [State.raiseChanges, State.raiseTxn, ht, hb, h₁, h₂, hp]
  rw [State.finish, hr]

section
variable {s : State}

theorem reqTxnResume_of_state (h : s.txn.state ≠ .tender) : reqTxnResume s = (s, .refuse .wrongState) := if_pos h

theorem reqTxnResume_of_fired (h : s.txn.state = .tender) (hf : s.txn.fired1 = true ∨ s.txn.fired2 = true) :
    reqTxnResume s = (s, .refuse .notAllowed) := by
  rw [reqTxnResume, if_neg (not_not.2 h), if_pos hf]

/-- The tender flags clear, and the state is OPEN (R69). -/
theorem reqTxnResume_of_accepted (h : s.txn.state = .tender) (h₁ : s.txn.fired1 = false) (h₂ : s.txn.fired2 = false) :
    reqTxnResume s =
      (s.setTxn { s.txn with tenderCash := false, tenderCard := false, tenderOther := false, state := .opened }, .accept []) := by
  simp [reqTxnResume, h, h₁, h₂]

end

/-- Settles O30. -/
theorem resumeReturnsATenderToOpen : Obligations.ResumeReturnsATenderToOpen := by
  refine fun s tag h => ⟨fun hs => ?_, fun hs hf => ?_, fun hs h₁ h₂ => ⟨_, rfl, ?_⟩⟩
  · exact exec_of_unchanged (c := .txnResume tag) (r := .txnResume) h rfl nofun
      (congrArg answered (reqTxnResume_of_state (s := s.reservePlace) hs))
  · exact exec_of_unchanged (c := .txnResume tag) (r := .txnResume) h rfl nofun
      (congrArg answered (reqTxnResume_of_fired (s := s.reservePlace) hs hf))
  · generalize htxn : ({ s.txn with state := .opened, tenderCash := false, tenderCard := false, tenderOther := false } : Txn) = txn
    have hne : txn ≠ s.txn := fun he => by
      rw [← he, ← htxn] at hs
      exact absurd hs nofun
    rw [exec_of_finished (c := .txnResume tag) (r := .txnResume) (u := s.setTxn txn) (a := .accept []) h rfl nofun
        (by rw [← htxn]; exact congrArg answered (reqTxnResume_of_accepted (s := s.reservePlace) hs h₁ h₂)),
      State.finish_of_txn (s := s) (t := (s.setTxn txn).answer Request.txnResume.kind tag (.accept [])) hne rfl rfl rfl rfl]
    rfl

/-! ### TXN_OPEN (R65 to R67) -/

section
variable {s : State}

/-- The tests of verification on an opening (R66, steps 4 to 7). -/
theorem openBagRefusal_none (hw : s.chB.state = .weighing) (hst : s.chB.isStable = true) (hv : (s.report .b).condition = .valid)
    (hc : s.bag.requireClear = true → ((s.report .b).gross.natAbs : Int) ≤ s.bag.band * (s.params .b).e) :
    openBagRefusal s = none := by
  have hclear : ¬ (s.bag.requireClear = true ∧ s.noiseBand < ((s.report .b).gross.natAbs : Int)) :=
    fun ⟨hr, hn⟩ => absurd (hc hr) (not_le.2 hn)
  simp only [openBagRefusal, hw, ChState.refusal, hst, hv, if_neg hclear]
  rfl

theorem txnOpenRefusal_none (hi : s.txn.state = .idle) (hd : ∀ p, (s.drw p).state = .closed ∨ (s.drw p).state = .noOpen)
    (hn : s.txn.number < Config.maxNumber) (hb : s.bag.enabled = true → openBagRefusal s = none) : txnOpenRefusal s = none := by
  have h₁ : s.drw1.state.unfinished = false := (DrawerState.unfinished_iff _).2 (hd .one)
  have h₂ : s.drw2.state.unfinished = false := (DrawerState.unfinished_iff _).2 (hd .two)
  simpa [txnOpenRefusal, hi, State.someDrawerOut, h₁, h₂, Nat.not_le.2 hn] using hb

/-- The verifier at an accepted opening (R126). -/
def Bag.atOpen (b : Bag) (gross : Int) : Bag :=
  if b.enabled then { b with
    state := .watching, baseline := gross, bagged := [], kind := .none, delta := 0, ref := none, lastMatched := none }
  else { b with bagged := [] }

theorem State.bagOpenDisabled_eq (s : State) :
    s.bagOpenDisabled = { s with link := s.bagOpenDisabled.link, bag := { s.bag with bagged := [] } } := by
  cases hb : s.bag.bagged.isEmpty
  · have he : s.bagOpenDisabled = (s.setBag { s.bag with bagged := [] }).raiseBag := by
      simp [State.bagOpenDisabled, hb]
    rw [he]
    exact State.raise_eq _ _ _
  · have he : s.bagOpenDisabled = s.setBag { s.bag with bagged := [] } := by
      simp [State.bagOpenDisabled, hb]
    rw [he]
    rfl

/-- The state that an opening leaves: a fresh transaction, no tare, and the verifier at its opening (R67). -/
def State.opens (s : State) (laneTime : Nat) : State :=
  let u := (s.setTxn (Txn.fresh (s.txn.number + 1) laneTime)).setTare 0
  if u.bag.enabled then u.bagBegin (u.report .b).gross else u.bagOpenDisabled

theorem State.opens_slots (s : State) (laneTime : Nat) : s.SlotsOnly (s.opens laneTime) := by
  have hu := ((State.SlotsOnly.of_link (s := s) (t := s) rfl).setTxn (Txn.fresh (s.txn.number + 1) laneTime)).setTare 0
  exact .ite (hu.setBag _) (.ite ((hu.setBag _).raise _ _) (hu.setBag _))

theorem State.opens_eq (s : State) (laneTime : Nat) : s.opens laneTime = { s with
    link := (s.opens laneTime).link
    txn := Txn.fresh (s.txn.number + 1) laneTime
    bag := s.bag.atOpen (s.report .b).gross
    chP := { s.chP with tare := 0, lastReport := (s.opens laneTime).chP.lastReport }
    pw := { s.pw with reference := (s.opens laneTime).pw.reference } } := by
  have ht := (s.setTxn (Txn.fresh (s.txn.number + 1) laneTime)).setTare_eq 0
  unfold State.opens
  generalize (s.setTxn (Txn.fresh (s.txn.number + 1) laneTime)).setTare 0 = u at *
  have hb : u.bag = s.bag := by rw [ht]; rfl
  have hr : u.report .b = s.report .b := by rw [ht]; rfl
  simp only [hb, hr, Bag.atOpen]
  split
  · rw [ht]
    rfl
  · rw [State.bagOpenDisabled_eq, ht]
    rfl

theorem reqTxnOpen_of_accepted (laneTime : Nat) (h : txnOpenRefusal s = none) :
    reqTxnOpen laneTime s = (s.opens laneTime, .accept (le32 (s.txn.number + 1))) := by
  have hn : (s.opens laneTime).txn.number = s.txn.number + 1 := by rw [State.opens_eq]; rfl
  rw [← hn]
  simp only [reqTxnOpen, h]
  rfl

end

/-- Settles O28. -/
theorem openBeginsAFreshTransaction : Obligations.OpenBeginsAFreshTransaction := by
  intro s tag laneTime hready hi hd hn hb
  have hr : txnOpenRefusal s.reservePlace = none := txnOpenRefusal_none hi hd hn fun he => by
    obtain ⟨hw, hst, hv, hc⟩ := hb he
    exact openBagRefusal_none (s := s.reservePlace) hw hst hv hc
  obtain ⟨t, ht, hrep, heq⟩ := exec_of_served (c := .txnOpen tag laneTime) hready rfl nofun rfl
    (show answered (reqTxnOpen _ _) = _ by rw [reqTxnOpen_of_accepted _ hr]; rfl) (State.opens_slots _ _)
  have he := heq.trans (congrArg (fun u : State => { u with link := t.link }) (s.reservePlace.opens_eq laneTime.toNat))
  have htxn : t.txn = _ := congrArg State.txn he
  have hbag : t.bag = _ := congrArg State.bag he
  have hchP : t.chP = _ := congrArg State.chP he
  have hpw : t.pw = _ := congrArg State.pw he
  refine ⟨t, ht, hrep, htxn, hbag, by rw [hchP], ?_⟩
  rw [htxn, hbag, hchP, hpw]
  exact he

/-! ### TXN_TENDER (R68, R128) -/

/-- The entries that refuse a tender are those of the opposite direction and those that cannot be skipped (R68). -/
theorem Bag.itemsPending_iff (b : Bag) : b.itemsPending = true ↔ ∃ e ∈ b.entries, e.dir = .remove ∨ e.skippable = false := by
  simp [Bag.itemsPending]

/-- Where no entry refuses the tender, every entry is skippable and leaves (R128). -/
theorem State.dropSkippable_of_notPending {s : State} (h : s.bag.itemsPending = false) : s.dropSkippable =
    { s with txn := { s.txn with bagSkip := min 65535 (s.txn.bagSkip + s.bag.entries.length) }
             bag := { s.bag with entries := [] } } := by
  have hgoes : ∀ e ∈ s.bag.entries, (e.dir == .add && e.skippable) = true := fun e he => by
    have hnot : ¬ (e.dir = .remove ∨ e.skippable = false) := fun hp =>
      absurd (s.bag.itemsPending_iff.2 ⟨e, he, hp⟩) (Bool.eq_false_iff.1 h)
    cases hd : e.dir <;> simp_all
  have hall : s.bag.entries.filter (fun e => e.dir == .add && e.skippable) = s.bag.entries := List.filter_eq_self.2 hgoes
  have hnone : s.bag.entries.filter (fun e => !(e.dir == .add && e.skippable)) = [] :=
    List.filter_eq_nil_iff.2 fun e he => by simp [hgoes e he]
  simp only [State.dropSkippable, State.addBagSkip, hall, hnone, sat16, Config.count16, Nat.min_comm _ 65535]
  rfl

/-- The flag of a kind that the tables name (R68). -/
theorem Txn.tendered_eq (x : Txn) {kind : Nat} (h : kind ≤ 2) : x.tendered kind = { x with
    tenderCash := x.tenderCash || kind == 0, tenderCard := x.tenderCard || kind == 1, tenderOther := x.tenderOther || kind == 2 } := by
  match kind, h with
  | 0, _ | 1, _ | 2, _ => simp [Txn.tendered]

section
variable {s : State} {kind : Nat}

theorem txnTenderRefusal_of_state (h : s.txn.state = .opened ∨ s.txn.state = .tender) : txnTenderRefusal s =
    if s.txn.inFlight then some .busy
    else if s.bag.enabled ∧ s.bag.state = .hold then some .bagHold
    else if s.bag.enabled ∧ s.bag.itemsPending then some .itemsPending
    else none :=
  if_neg fun ⟨ho, ht⟩ => h.elim ho ht

theorem reqTxnTender_of_refused {r : Result} (h : txnTenderRefusal s = some r) : reqTxnTender kind s = (s, .refuse r) := by
  rw [reqTxnTender, h]

theorem reqTxnTender_of_accepted (h : txnTenderRefusal s = none) : reqTxnTender kind s =
    (let u := if s.bag.enabled then s.dropSkippable else s
    (u.setTxn { u.txn.tendered kind with state := .tender }).raiseTxn, .accept []) := by
  rw [reqTxnTender, h]

end

/-- The state that a tender leaves (R68, R128). -/
def State.tenders (s : State) (kind : Nat) : State := { s with
  txn := { s.txn with
    state := .tender
    tenderCash := s.txn.tenderCash || kind == 0
    tenderCard := s.txn.tenderCard || kind == 1
    tenderOther := s.txn.tenderOther || kind == 2
    bagSkip := if s.bag.enabled then min 65535 (s.txn.bagSkip + s.bag.entries.length) else s.txn.bagSkip }
  bag := if s.bag.enabled then { s.bag with entries := [] } else s.bag }

theorem State.setTxn_tendered {s : State} {kind : Nat} (hk : kind ≤ 2) (h : s.bag.enabled = true → s.bag.itemsPending = false) :
    (let u := if s.bag.enabled then s.dropSkippable else s
    u.setTxn { u.txn.tendered kind with state := .tender }) = s.tenders kind := by
  simp only [Txn.tendered_eq _ hk]
  cases he : s.bag.enabled
  · simp [State.tenders, he, State.setTxn]
  · simp [State.tenders, he, State.setTxn, State.dropSkippable_of_notPending (h he)]

/-- Settles O29. -/
theorem tenderSetsItsKindAndDropsSkippables : Obligations.TenderSetsItsKindAndDropsSkippables := by
  intro s tag kind hready hs hk refuse pending
  have hf : (Request.txnTender kind.toNat).fieldsOk = true := decide_eq_true hk
  have hrefusal := txnTenderRefusal_of_state (s := s.reservePlace) hs
  have hrefuse : ∀ r, txnTenderRefusal s.reservePlace = some r → refuse r := fun r hr =>
    exec_of_unchanged (c := .txnTender tag kind) (r := .txnTender kind.toNat) hready rfl nofun
      (congrArg answered (reqTxnTender_of_refused hr)) hf
  have hpending : s.bag.itemsPending = true ↔ pending := s.bag.itemsPending_iff
  refine ⟨fun hi => hrefuse _ (hrefusal.trans ?_), fun hi he hh => hrefuse _ (hrefusal.trans ?_),
    fun hi he hh hp => hrefuse _ (hrefusal.trans ?_), fun hi hb => ?_⟩
  · exact if_pos hi
  · exact (if_neg (Bool.eq_false_iff.1 hi)).trans (if_pos ⟨he, hh⟩)
  · exact (if_neg (Bool.eq_false_iff.1 hi)).trans ((if_neg fun h => hh h.2).trans (if_pos ⟨he, hpending.2 hp⟩))
  · have hnone : txnTenderRefusal s.reservePlace = none := hrefusal.trans <|
      (if_neg (Bool.eq_false_iff.1 hi)).trans <| (if_neg fun h => (hb h.1).1 h.2).trans <| if_neg fun h => (hb h.1).2 (hpending.1 h.2)
    have hu := State.setTxn_tendered (s := s.reservePlace) hk fun he => Bool.eq_false_iff.2 fun hp => (hb he).2 (hpending.1 hp)
    obtain ⟨t, ht, hrep, heq⟩ := exec_of_served (c := .txnTender tag kind) (u := (s.reservePlace.tenders kind.toNat).raiseTxn)
      (r := .txnTender kind.toNat) hready rfl nofun hf
      (congrArg answered ((reqTxnTender_of_accepted hnone).trans (congrArg (fun u : State => (u.raiseTxn, Answer.accept [])) hu)))
      ((State.SlotsOnly.of_link rfl).raise _ _)
    exact ⟨t, ht, hrep, heq.trans (congrArg (fun u : State => { u with link := t.link }) (State.raise_eq _ _ _))⟩

/-! ### TXN_CLOSE (R70, R71, R127) -/

theorem State.bagEnd_of_inactive {s : State} (h : s.bag.state = .inactive) : s.bagEnd = s := if_pos h

theorem State.bagEnd_of_active {s : State} (h : s.bag.state ≠ .inactive) : s.bagEnd = { s with
    bag := { s.bag with state := .inactive, entries := [], reserved := 0, kind := .none, delta := 0, ref := none }
    attn := s.attn.bagHoldOff } := if_neg h

theorem State.bagEnd_eq (s : State) : s.bagEnd = { s with bag := s.bagEnd.bag, attn := s.bagEnd.attn } := by
  by_cases h : s.bag.state = .inactive
  · rw [State.bagEnd_of_inactive h]
  · rw [State.bagEnd_of_active h]

theorem State.examineClosing_of_closes {s : State} (h : s.closes s.txn) : s.examineClosing = { s with
    txn := { s.txn with state := .idle, endCause := .closed }, bag := { s.bag with enabled := s.bag.enableSet } } :=
  if_pos (s.closes_iff.1 h)

theorem State.examineClosing_of_not {s : State} (h : ¬ s.closes s.txn) : s.examineClosing = s := if_neg (mt s.closes_iff.2 h)

/-- The state in which a TXN_CLOSE examines the closing condition: CLOSING, the verification ended (R70, R127). -/
def State.atClose (s : State) : State := (s.setTxn { s.txn with state := .closing }).bagEnd

theorem State.atClose_eq (s : State) :
    s.atClose = { s with txn := { s.txn with state := .closing }, bag := s.atClose.bag, attn := s.atClose.attn } :=
  State.bagEnd_eq _

section
variable {s : State}

theorem State.atClose_of_inactive (h : s.bag.state = .inactive) : s.atClose = { s with txn := { s.txn with state := .closing } } :=
  State.bagEnd_of_inactive h

theorem State.atClose_of_active (h : s.bag.state ≠ .inactive) : s.atClose = { s with
    txn := { s.txn with state := .closing }
    bag := { s.bag with state := .inactive, entries := [], reserved := 0, kind := .none, delta := 0, ref := none }
    attn := s.attn.bagHoldOff } := State.bagEnd_of_active h

theorem reqTxnClose_of_state (h : s.txn.state ≠ .tender) : reqTxnClose s = (s, .refuse .wrongState) := if_pos h

theorem reqTxnClose_of_tender (h : s.txn.state = .tender) : reqTxnClose s =
    if s.firedWaits then (s, .refuse .busy)
    else if s.txn.sales ≠ [] ∧ s.txn.receipt = .none then (s, .refuse .notAllowed)
    else (s.atClose.examineClosing, .accept []) := if_neg (not_not.2 h)

end

/-- Neither bagging/enable as written nor as in force changes with the end of the verification (R119, R127). -/
theorem State.atClose_enable (s : State) : s.atClose.bag.enableSet = s.bag.enableSet ∧ s.atClose.bag.enabled = s.bag.enabled := by
  by_cases h : s.bag.state = .inactive
  · rw [State.atClose_of_inactive h]
    exact ⟨rfl, rfl⟩
  · rw [State.atClose_of_active h]
    exact ⟨rfl, rfl⟩

/-- The closing condition, of a transaction that is to close (R71). -/
def State.mayClose (s : State) : Prop := (s.txn.receipt = .none ∨ s.txn.receipt = .printed ∨ s.txn.receipt = .cancelled)
  ∧ ∀ p, s.txn.fired p = true → (s.drw p).state = .closed ∨ (s.drw p).state = .noOpen

theorem State.atClose_closes (s : State) : s.atClose.closes s.atClose.txn ↔ s.mayClose := by
  rw [s.atClose_eq]
  exact and_iff_right rfl

/-- The examination of the closing condition leaves CLOSING, or IDLE with bagging/enable as last written in force (R71, R119). -/
theorem State.atClose_examined (s : State) : ∃ x e,
    s.atClose.examineClosing = { s.atClose with txn := x, bag := { s.atClose.bag with enabled := e } }
    ∧ (s.mayClose → x = { s.txn with state := .idle, endCause := .closed } ∧ e = s.bag.enableSet)
    ∧ (¬ s.mayClose → x = { s.txn with state := .closing } ∧ e = s.bag.enabled) := by
  have htxn : s.atClose.txn = { s.txn with state := .closing } := congrArg State.txn s.atClose_eq
  obtain ⟨hset, hin⟩ := s.atClose_enable
  rw [← s.atClose_closes]
  by_cases h : s.atClose.closes s.atClose.txn
  · exact ⟨_, _, State.examineClosing_of_closes h, fun _ => ⟨by rw [htxn], hset⟩, fun hn => absurd h hn⟩
  · exact ⟨_, _, State.examineClosing_of_not h, fun hy => absurd hy h, fun _ => ⟨htxn, hin⟩⟩

/-- Settles O31. -/
theorem closeEndsOrWaitsForReceiptAndDrawers : Obligations.CloseEndsOrWaitsForReceiptAndDrawers := by
  intro s tag hready refuse waits done
  have hrefuse : ∀ r, reqTxnClose s.reservePlace = (s.reservePlace, .refuse r) → refuse r := fun r hr =>
    exec_of_unchanged (c := .txnClose tag) (r := .txnClose) hready rfl nofun (congrArg answered hr)
  have hwaits : s.reservePlace.firedWaits = true ↔ waits := s.reservePlace.firedWaits_iff
  have htender := fun h => reqTxnClose_of_tender (s := s.reservePlace) h
  refine ⟨fun h => hrefuse _ (reqTxnClose_of_state (s := s.reservePlace) h),
    fun h hw => hrefuse _ ((htender h).trans (if_pos (hwaits.2 hw))),
    fun h hw hs hr => hrefuse _ ((htender h).trans ((if_neg (mt hwaits.1 hw)).trans (if_pos ⟨hs, hr⟩))), fun h hw hs => ?_⟩
  have haccept := (htender h).trans ((if_neg (mt hwaits.1 hw)).trans (if_neg fun ⟨hne, hr⟩ => hs.elim hne fun hn => hn hr))
  obtain ⟨t, ht, hrep, heq⟩ := exec_of_served (c := .txnClose tag) (r := .txnClose) (u := s.reservePlace.atClose.examineClosing)
    hready rfl nofun rfl (congrArg answered haccept) (.of_link (by rw [(State.examineClosing_keeps _).2.1, State.atClose_eq]))
  obtain ⟨x, e, hu, hdone, hnot⟩ := s.reservePlace.atClose_examined
  generalize s.reservePlace.atClose.examineClosing = v at *
  subst hu
  have htxn : t.txn = x := congrArg State.txn heq
  have hbag : t.bag = { s.reservePlace.atClose.bag with enabled := e } := (congrArg (fun v : State => v.bag) heq :)
  have hattn : t.attn = s.reservePlace.atClose.attn := (congrArg State.attn heq :)
  refine ⟨t, ht, hrep, ?_, fun hd => ?_, fun hd => ?_, fun hi => ?_, fun hi => ?_⟩
  · rw [htxn, hbag, hattn]
    exact heq.trans (congrArg (fun u : State =>
      { u with link := t.link, txn := x, bag := { s.reservePlace.atClose.bag with enabled := e } }) s.reservePlace.atClose_eq)
  · rw [htxn, hbag]
    exact hdone hd
  · rw [htxn, hbag]
    exact hnot hd
  · rw [hbag, hattn, State.atClose_of_inactive (s := s.reservePlace) hi]
    exact ⟨rfl, rfl⟩
  · rw [hbag, hattn, State.atClose_of_active (s := s.reservePlace) hi]
    exact ⟨rfl, rfl⟩

end Sys2Proof.Machine

namespace Sys2Proof.Machine
set_option Elab.async false

/-! ### TXN_ABORT (R72, R93, R195) -/

/-- Of the sale nothing but a weighing in flight, with its reserved place of the verifier, may have come to an end. -/
structure State.SaleKept (s t : State) : Prop where
  txn : t.txn = { s.txn with inFlight := t.txn.inFlight }
  inFlight : s.txn.inFlight = false → t.txn.inFlight = false
  bag : t.bag = { s.bag with reserved := t.bag.reserved }
  reserved : s.bag.reserved = 0 → t.bag.reserved = 0

namespace State.SaleKept
variable {s t u : State}

theorem trans (h : s.SaleKept t) (k : t.SaleKept u) : s.SaleKept u where
  txn := k.txn.trans (by rw [h.txn])
  inFlight := k.inFlight ∘ h.inFlight
  bag := k.bag.trans (by rw [h.bag])
  reserved := k.reserved ∘ h.reserved

theorem of_same (ht : t.txn = s.txn := by simp) (hb : t.bag = s.bag := by simp) : s.SaleKept t where
  txn := by rw [ht]
  inFlight h := by rw [ht]; exact h
  bag := by rw [hb]
  reserved h := by rw [hb]; exact h

/-- A request that ends frees its reservation and clears the flag (R76, R92). -/
theorem ended (ht : t.txn = { s.txn with inFlight := false } := by simp [State.clearInFlight, State.ite_fields])
    (hb : t.bag = if s.pw.reserved then { s.bag with reserved := 0 } else s.bag := by
      simp [State.releaseSlot, apply_ite State.bag]) : s.SaleKept t where
  txn := by rw [ht]
  inFlight _ := by rw [ht]
  bag := by rw [hb]; split <;> rfl
  reserved h := by
    rw [hb]
    split
    · rfl
    · exact h

theorem endRequest (s : State) (result : PwResult) (reason : PwReason) : s.SaleKept (s.endRequest result reason) :=
  ended (by simp [State.endRequest, State.clearInFlight, State.ite_fields])
    (by simp [State.endRequest, State.releaseSlot, apply_ite State.bag])

theorem abortRequest (s : State) : s.SaleKept s.abortRequest := by
  unfold State.abortRequest
  split
  · exact endRequest s _ _
  · exact endRequest s _ _
  · exact ended
  · exact of_same rfl rfl
  · exact of_same rfl rfl

theorem saleFailed (s : State) : s.SaleKept s.saleFailed := by
  unfold State.saleFailed
  split
  · exact (of_same (t := s.setPw { s.pw with rearm := true })).trans (endRequest _ _ _)
  · exact of_same
  · exact of_same rfl rfl

theorem failWrite (s : State) (r : RecordBody) : s.SaleKept (s.failWrite r) := by
  cases r with
  | sale f => exact saleFailed s
  | cal k => exact of_same (by simp [State.failWrite]) (by simp [State.failWrite])

theorem serveErase (s : State) : s.SaleKept
    (match s.store.erase with | some y => (s.setStore (s.store.eraseStep y), false) | none => (s, false)).1 := by
  split
  · exact of_same
  · exact of_same rfl rfl

/-- Of one choice of the idle flash, only a write that ends failed reaches the sale (R91, R101). -/
theorem choose1 (s : State) : s.SaleKept s.choose1.1 := by
  fun_cases State.choose1 s
  case case8 => exact (of_same (t := s.popAccess)).trans (failWrite _ _)
  case case7 | case9 => exact serveErase s
  all_goals exact of_same

theorem pump (s : State) : s.SaleKept s.pump := by
  have hn : ∀ (k : Nat) (s : State), s.SaleKept (s.pumpN k) := fun k => by
    induction k with
    | zero => exact fun s => of_same rfl rfl
    | succ k ih =>
      intro s
      rw [State.pumpN]
      dsimp only
      split
      · exact of_same rfl rfl
      · split
        · exact (choose1 s).trans (ih _)
        · exact choose1 s
  unfold State.pump
  split
  · exact of_same rfl rfl
  · exact hn 16 s

theorem offerLine (s : State) (number : Nat) : s.SaleKept (s.offerLine number) := by
  unfold State.offerLine State.enqueue
  split
  · exact of_same
  · exact (of_same (t := s.setStore _)).trans (pump _)

theorem startRecord (s : State) (r : PrintRecord) : s.SaleKept (s.startRecord r) := by
  cases r with
  | weighedLine n => exact (of_same (t := s.setPrn { s.prn with work := some (.reading n), engine := .waitStore })).trans (offerLine _ _)
  | raster repeats dots => exact of_same (by simp [State.startRecord]) (by simp [State.startRecord])
  | feed lines => exact of_same (by simp [State.startRecord]) (by simp [State.startRecord])
  | cut kind => exact of_same rfl rfl
  | receiptBegin n => exact of_same rfl rfl
  | receiptEnd => exact of_same rfl rfl

/-- The RECEIPT_END of a receipt that is not the current transaction's prints nothing of it (R193). -/
theorem receiptDone {receipt : Nat} (h : s.txn.owns receipt = false) : s.SaleKept (s.receiptDone receipt) := by
  have hn : ¬ ((s.setPrn { s.prn with lastDone := receipt, doneCount := (s.prn.doneCount + 1) % 256 }).txn.owns receipt = true
      ∧ (s.setPrn { s.prn with lastDone := receipt, doneCount := (s.prn.doneCount + 1) % 256 }).txn.receipt = .queued) :=
    fun ho => absurd ho.1 (Bool.eq_false_iff.1 h)
  rw [State.receiptDone, State.receiptPrinted, if_neg hn]
  exact of_same

theorem owns (h : s.SaleKept t) (n : Nat) : t.txn.owns n = s.txn.owns n := by
  rw [Txn.owns, h.txn]
  rfl

/-- With only records of other receipts queued, the engine's next record does not reach the sale (R181, R193). -/
theorem startNextN (k : Nat) (s : State) (h : ∀ q ∈ s.prn.queue, s.txn.owns q.receipt = false) : s.SaleKept (s.startNextN k) := by
  induction k generalizing s with
  | zero => exact of_same rfl rfl
  | succ k ih =>
    have hgo : ∀ {u : State}, s.SaleKept u → u.prn.queue = s.prn.queue → s.SaleKept (u.completeRecord.startNextN k) :=
      fun {u} hu hq => (hu.trans of_same).trans (ih u.completeRecord fun q hm => by
        rw [State.completeRecord, State.setPrn_prn, hq] at hm
        exact (hu.owns q.receipt).trans (h q (List.mem_of_mem_tail hm)))
    unfold State.startNextN
    split
    · exact of_same
    · split
      · exact of_same rfl rfl
      · split
        · exact of_same
        · next q rest hq =>
          split
          · exact hgo of_same rfl
          · exact hgo (receiptDone (h q (hq ▸ List.mem_cons_self))) (by simp [State.receiptDone])
          · exact startRecord s _

theorem dropRecord (h : ∀ q ∈ s.prn.queue.tail, s.txn.owns q.receipt = false) : s.SaleKept s.dropRecord := by
  unfold State.dropRecord
  dsimp only
  split
  · exact of_same
  · exact (of_same (s := s)).trans (startNextN _ _ (by simpa [State.completeRecord] using h))

theorem endRecord (h : ∀ q ∈ s.prn.queue.tail, s.txn.owns q.receipt = false) : s.SaleKept s.endRecord := by
  unfold State.endRecord
  split
  · exact of_same rfl rfl
  · split
    · exact of_same rfl rfl
    · split
      · exact of_same
      · exact dropRecord h

end State.SaleKept

/-- The records that a cancel of the current transaction's receipt leaves behind the started one belong to other receipts (R195). -/
theorem State.cancelReceipt_kept (s : State) : s.SaleKept (s.cancelReceipt s.txn.number) := by
  unfold State.cancelReceipt
  dsimp only
  split
  · refine (State.SaleKept.of_same (s := s)).trans (State.SaleKept.endRecord fun q hq => ?_)
    have hm : q ∈ s.prn.unstarted.filter fun q => q.receipt != s.txn.number := by
      have ht : ∀ l : List Queued, (s.prn.started ++ l).tail ⊆ l := fun l => by
        unfold Printer.started
        split
        · cases s.prn.queue with
          | nil => exact List.tail_subset l
          | cons q rest => exact List.Subset.refl l
        · exact List.tail_subset l
      exact ht _ hq
    have hne := (List.mem_filter.1 hm).2
    simp only [Txn.owns, State.setPrn_txn, Bool.and_eq_false_iff]
    exact .inr (by simpa using hne)
  · exact .of_same

/-- With no record in progress a cancel of a receipt takes its records and its opening from the printer, and no more (R195). -/
theorem State.cancelReceipt_of_rest {s : State} (h : s.prn.work = none) (n : Nat) : s.cancelReceipt n = { s with prn := { s.prn with
    queue := s.prn.queue.filter fun q => q.receipt != n, openReceipt := s.prn.openReceipt.filter fun o => o.number != n } } := by
  simp [State.cancelReceipt, Printer.started, Printer.unstarted, h, State.setPrn]

/-- A request that its block answers behind the replies of reads that ended with it (R9, R111). -/
theorem exec_of_kept {s u : State} {c : Instr} {tag : Byte} {r : Request} {a : Answer} (h : s.ready)
    (hc : c.request? = some (tag, r)) (hr : r ≠ .laneReset) (hs : serve tag r s.reservePlace = (u, some a))
    (hk : State.Keeps 0 0 s.reservePlace u) (hf : r.fieldsOk = true := by rfl) :
    ∃ t mid, exec c s = .next t ∧ t.link.replies = s.link.replies ++ mid ++ [replyFrame r.kind tag a]
      ∧ (u.link.replies = s.link.replies → mid = []) ∧ t = { u with link := t.link } := by
  have ha : s.takeRequest tag r = u.reply r.kind tag a :=
    State.takeRequest_of_answer h.1 (by rw [decide3_of_fieldsOk (s := s.reservePlace) tag h.2 hf, hs])
  obtain ⟨mid, hm, -⟩ := hk.replies
  refine ⟨(u.reply r.kind tag a).finish s, mid, by rw [exec_of_request hc hr, ended, ha], ?_, fun he => ?_,
    (State.finish_eq _ _).trans rfl⟩
  · rw [State.finish_replies, ← show s.reservePlace.link.replies = s.link.replies from rfl, ← hm]
    rfl
  · exact List.append_right_eq_self.1 (hm.symm.trans he)

/-! #### What the abort leaves -/

/-- The state in which the weighing in flight has ended (R72). -/
def State.weighingEnded (s : State) : State := if s.txn.inFlight then s.abortRequest else s

/-- The receipt of the transaction is cancelled where it is open or queued (R72, R195). -/
def State.receiptCancelled (s : State) : State :=
  if s.txn.receipt = .opened ∨ s.txn.receipt = .queued then s.cancelReceipt s.txn.number else s

/-- The state that an abort leaves (R72). -/
def State.aborts (s : State) : State :=
  let u := s.weighingEnded.bagEnd.receiptCancelled
  (u.setTxn { u.txn with receipt := u.txn.receipt.aborted }).txnToIdle .aborted

section
variable {s : State}

theorem reqTxnAbort_of_idle (h : s.txn.state = .idle) : reqTxnAbort s = (s, .refuse .wrongState) := if_pos h

theorem reqTxnAbort_of_waits (h : s.txn.state ≠ .idle) (hw : s.firedWaits = true) : reqTxnAbort s = (s, .refuse .busy) := by
  rw [reqTxnAbort, if_neg h, if_pos hw]

theorem reqTxnAbort_of_accepted (h : s.txn.state ≠ .idle) (hw : s.firedWaits = false) : reqTxnAbort s = (s.aborts, .accept []) := by
  rw [reqTxnAbort, if_neg h, if_neg (Bool.eq_false_iff.1 hw)]
  rfl

end

section
variable (s : State)

theorem State.weighingEnded_kept : s.SaleKept s.weighingEnded := by
  unfold State.weighingEnded
  split
  · exact .abortRequest s
  · exact .of_same rfl rfl

theorem State.receiptCancelled_kept : s.SaleKept s.receiptCancelled := by
  unfold State.receiptCancelled
  split
  · exact s.cancelReceipt_kept
  · exact .of_same rfl rfl

/-- The transaction reaches IDLE with cause ABORTED, its receipt cancelled (R72). -/
theorem State.aborts_txn : s.aborts.txn = { s.txn with
    state := .idle, endCause := .aborted, receipt := s.txn.receipt.aborted, inFlight := s.aborts.txn.inFlight } := by
  have hu : s.weighingEnded.bagEnd.receiptCancelled.txn =
      { s.txn with inFlight := s.weighingEnded.bagEnd.receiptCancelled.txn.inFlight } := by
    have hb : s.weighingEnded.bagEnd.txn = s.weighingEnded.txn := by simp
    rw [(State.receiptCancelled_kept _).txn, hb, s.weighingEnded_kept.txn]
  show ({ s.weighingEnded.bagEnd.receiptCancelled.txn with receipt := _, state := _, endCause := _ } : Txn) = _
  rw [hu]
  rfl

theorem State.weighingEnded_flag (h : s.pw.inFlight = s.txn.inFlight) : s.weighingEnded.txn.inFlight = false := by
  unfold State.weighingEnded
  split
  · next hf =>
    rw [hf] at h
    unfold State.abortRequest
    cases hs : s.pw.state <;> simp_all [Pricing.inFlight, State.endRequest, State.clearInFlight]
  · next hf => exact Bool.eq_false_iff.2 hf

theorem State.aborts_flag (h : s.pw.inFlight = s.txn.inFlight) : s.aborts.txn.inFlight = false := by
  have hu := s.weighingEnded.bagEnd.receiptCancelled_kept.inFlight (by simpa using s.weighingEnded_flag h)
  exact hu

/-- The verifier's entries have left with its state (R127). -/
theorem State.aborts_bag : s.aborts.bag.state = .inactive
    ∧ (s.bag.state ≠ .inactive → s.aborts.bag.entries = [] ∧ s.aborts.bag.reserved = 0) := by
  have hk := State.receiptCancelled_kept s.weighingEnded.bagEnd
  have hb : s.aborts.bag = { s.weighingEnded.bagEnd.receiptCancelled.bag with
    enabled := s.weighingEnded.bagEnd.receiptCancelled.bag.enableSet } := rfl
  have hs : s.weighingEnded.bag.state = s.bag.state := by rw [s.weighingEnded_kept.bag]
  rw [hb]
  by_cases hi : s.bag.state = .inactive
  · refine ⟨?_, fun h => absurd hi h⟩
    rw [hk.bag, State.bagEnd_of_inactive (hs.trans hi)]
    exact hs.trans hi
  · have he : s.weighingEnded.bagEnd.bag = _ := congrArg State.bag (State.bagEnd_of_active (mt hs.symm.trans hi))
    refine ⟨?_, fun _ => ⟨?_, hk.reserved ?_⟩⟩
    · rw [hk.bag, he]
    · rw [hk.bag, he]
    · rw [he]

theorem State.aborts_frame : s.aborts.drw1 = s.drw1 ∧ s.aborts.drw2 = s.drw2 ∧ s.aborts.card = s.card ∧ s.aborts.flash = s.flash
    ∧ s.aborts.clock = s.clock ∧ s.aborts.noSale = s.noSale ∧ s.aborts.pending = s.pending := by
  simp [State.aborts, State.weighingEnded, State.receiptCancelled, State.ite_fields]

/-- The printer of an abort that has no record in progress to end (R195). -/
def State.prnCancelled (s : State) : Printer :=
  if s.txn.receipt = .opened ∨ s.txn.receipt = .queued then { s.prn with
    queue := s.prn.queue.filter fun q => q.receipt != s.txn.number
    openReceipt := s.prn.openReceipt.filter fun o => o.number != s.txn.number } else s.prn

theorem State.receiptCancelled_of_rest (h : s.txn.receipt ≠ .opened ∧ s.txn.receipt ≠ .queued ∨ s.prn.work = none) :
    s.receiptCancelled = { s with prn := s.prnCancelled } := by
  unfold State.receiptCancelled State.prnCancelled
  by_cases hr : s.txn.receipt = .opened ∨ s.txn.receipt = .queued
  · rw [if_pos hr, if_pos hr, State.cancelReceipt_of_rest (h.resolve_left fun hn => hr.elim hn.1 hn.2)]
  · rw [if_neg hr, if_neg hr]

theorem State.weighingEnded_pw :
    (s.txn.inFlight = true → s.pw.state = .waitRearm ∨ s.pw.state = .waitStable →
      s.weighingEnded.pw.state = .idle ∧ s.weighingEnded.pw.result = .aborted ∧ s.weighingEnded.pw.reserved = false)
    ∧ (s.txn.inFlight = true → s.pw.state = .storing → s.weighingEnded.pw = { s.pw with state := .detached, reserved := false })
    ∧ (s.txn.inFlight = false → s.weighingEnded.pw = s.pw) := by
  have ht : s.txn.inFlight = true → s.weighingEnded = s.abortRequest := fun h => if_pos h
  refine ⟨fun h hs => ?_, fun h hs => ?_, fun h => ?_⟩
  · rw [ht h, State.abortRequest_pw_waiting hs]
    exact ⟨rfl, rfl, rfl⟩
  · rw [ht h, State.abortRequest_pw_storing hs]
  · rw [State.weighingEnded, if_neg (Bool.eq_false_iff.1 h)]

/-- With no record of a receipt to end, an abort touches of the link the notice slots alone, and of the rest the transaction, the
verifier, the weighing in flight and the records that it cancels. -/
theorem State.aborts_of_rest (h : s.txn.receipt ≠ .opened ∧ s.txn.receipt ≠ .queued ∨ s.prn.work = none) :
    s.SlotsOnly s.aborts ∧ s.aborts.chP = s.chP ∧ s.aborts.chB = s.chB ∧ s.aborts.cal = s.cal ∧ s.aborts.store = s.store
      ∧ s.aborts.supply = s.supply ∧ s.aborts.pw = s.weighingEnded.pw ∧ s.aborts.prn = s.prnCancelled := by
  have hw : s.SlotsOnly s.weighingEnded := .ite (State.SlotsOnly.of_link (s := s) (t := s) rfl).abortRequest (.of_link rfl)
  obtain ⟨hchP, hchB, hcal, hstore, hsupply, hprn⟩ : s.weighingEnded.chP = s.chP ∧ s.weighingEnded.chB = s.chB ∧ s.weighingEnded.cal = s.cal
      ∧ s.weighingEnded.store = s.store ∧ s.weighingEnded.supply = s.supply ∧ s.weighingEnded.prn = s.prn := by
    simp [State.weighingEnded, State.ite_fields]
  have hr : s.weighingEnded.txn.receipt = s.txn.receipt := by rw [s.weighingEnded_kept.txn]
  have hn : s.weighingEnded.txn.number = s.txn.number := by rw [s.weighingEnded_kept.txn]
  have hc : s.weighingEnded.bagEnd.receiptCancelled = { s.weighingEnded.bagEnd with prn := s.prnCancelled } := by
    have hp : s.weighingEnded.bagEnd.prnCancelled = s.prnCancelled := by
      simp only [State.prnCancelled, State.bagEnd_keeps, hprn, hr, hn]
    rw [State.receiptCancelled_of_rest _ (by simpa only [State.bagEnd_keeps, hprn, hr] using h), hp]
  unfold State.aborts
  rw [hc, State.bagEnd_eq]
  exact ⟨hw, hchP, hchB, hcal, hstore, hsupply, rfl, rfl⟩

end

/-- Settles O32. -/
theorem abortEndsTheTransaction : Obligations.AbortEndsTheTransaction := by
  intro s tag hready waits
  have hwaits : s.reservePlace.firedWaits = true ↔ waits := s.reservePlace.firedWaits_iff
  have hrefuse : ∀ r, reqTxnAbort s.reservePlace = (s.reservePlace, .refuse r) →
      exec (.txnAbort tag) s = .next (s.answer 0x24 tag (.refuse r)).chooseFrame := fun r hr =>
    exec_of_unchanged (c := .txnAbort tag) (r := .txnAbort) hready rfl nofun (congrArg answered hr)
  refine ⟨fun h => hrefuse _ (reqTxnAbort_of_idle (s := s.reservePlace) h),
    fun h hw => hrefuse _ (reqTxnAbort_of_waits (s := s.reservePlace) h (hwaits.2 hw)), fun h hw => ?_⟩
  have haccept := reqTxnAbort_of_accepted (s := s.reservePlace) h (Bool.eq_false_iff.2 (mt hwaits.1 hw))
  obtain ⟨t, mid, ht, hrep, hmid, heq⟩ := exec_of_kept (c := .txnAbort tag) (r := .txnAbort) hready rfl nofun
    (congrArg answered haccept) (congrArg Prod.fst haccept ▸ (State.Keeps.refl s.reservePlace).reqTxnAbort)
  obtain ⟨l, rfl⟩ : ∃ l, t = { s.reservePlace.aborts with link := l } := ⟨_, heq⟩
  have htxn := s.reservePlace.aborts_txn
  have hflag := s.reservePlace.aborts_flag
  obtain ⟨hbag, hentries⟩ := s.reservePlace.aborts_bag
  obtain ⟨hd₁, hd₂, hcard, hflash, hclock, hnoSale, hpending⟩ := s.reservePlace.aborts_frame
  obtain ⟨hwaiting, hstoring, hnone⟩ := s.reservePlace.weighingEnded_pw
  have hrest := s.reservePlace.aborts_of_rest
  have hreceipt : s.txn.receipt.aborted = if s.txn.receipt = .opened ∨ s.txn.receipt = .queued then .cancelled else s.txn.receipt := by
    cases s.txn.receipt <;> rfl
  generalize s.reservePlace.aborts = u at *
  refine ⟨_, mid, ht, hrep, (congrArg Txn.state htxn :), (congrArg Txn.endCause htxn :), (congrArg Txn.number htxn :),
    (congrArg Txn.sales htxn :), (congrArg Txn.tenderCash htxn :), (congrArg Txn.fired1 htxn :), (congrArg Txn.fired2 htxn :),
    (congrArg Txn.receipt htxn).trans hreceipt, hflag, hbag, hentries, hd₁, hd₂, hcard, hflash, hclock, hnoSale, hpending,
    fun h => ?_⟩
  obtain ⟨⟨slots, hslots⟩, hchP, hchB, hcal, hstore, hsupply, hpw, hprn⟩ := hrest h
  rw [← hpw] at hwaiting hstoring hnone
  exact ⟨hmid (congrArg Link.replies hslots :), hchP, hchB, hcal, hstore, hsupply, hwaiting, hstoring, hnone, hprn⟩

end Sys2Proof.Machine

namespace Sys2Proof.Machine
set_option Elab.async false

/-! ### A print message on trial (R178 to R180) -/

section
variable {x : Txn} {tr : Trial}

theorem Trial.run_cons_ok {r : PrintRecord} {tr' : Trial} (h : tr.record x r = .ok tr') (rs : List PrintRecord) :
    Trial.run x (r :: rs) tr = Trial.run x rs tr' := by
  rw [Trial.run, h]

theorem Trial.run_cons_error {r : PrintRecord} {e : Result} (h : tr.record x r = .error e) (rs : List PrintRecord) :
    Trial.run x (r :: rs) tr = .error e := by
  rw [Trial.run, h]

/-- With no receipt open only a RECEIPT_BEGIN may stand (R179). -/
theorem Trial.record_of_closed (h : tr.opened = none) {r : PrintRecord} (hr : ∀ k, r ≠ .receiptBegin k) :
    tr.record x r = .error .wrongState := by
  cases r with
  | receiptBegin k => exact absurd rfl (hr k)
  | _ => simp only [Trial.record, h]

theorem Trial.record_begin (k : Nat) : tr.record x (.receiptBegin k) =
    if tr.opened = none ∧ (k = 0 ∨ k = x.number ∧ x.state ≠ .idle ∧ tr.receipt = .none) then .ok {
      opened := some ⟨k, []⟩, receipt := if k = 0 then tr.receipt else .opened
      records := tr.records ++ [{ record := .receiptBegin k, receipt := k }] }
    else .error .wrongState := by
  have hr : tr.record x (.receiptBegin k) = tr.begin x k := by
    unfold Trial.record
    cases tr.opened <;> rfl
  rw [hr, Trial.begin]
  cases ho : tr.opened with
  | some o => simp
  | none =>
    by_cases hk : k = 0
    · simp [hk, Trial.push]
    · by_cases hb : k = x.number ∧ x.state ≠ .idle ∧ tr.receipt = .none
      · simp [hb, Trial.push]
      · simp only [hk, hb, Option.isSome_none, Bool.false_eq_true, ne_eq, not_false_eq_true, and_self, or_self, and_false, if_true,
          if_false]

theorem Trial.line_of_unlisted {o : OpenReceipt} {n : Nat} (h : ¬ (o.number ≠ 0 ∧ ∃ e ∈ x.sales, e.number = n)) :
    tr.line x o n = .error .notFound := by
  refine if_pos ?_
  by_cases h0 : o.number = 0
  · exact .inl h0
  · refine .inr (List.find?_eq_none.2 fun e he hn => h ⟨h0, e, he, beq_iff_eq.1 hn⟩)

theorem Trial.line_of_listed {o : OpenReceipt} {n : Nat} (h : o.number ≠ 0 ∧ ∃ e ∈ x.sales, e.number = n) : tr.line x o n =
    if n ∈ o.queued then .error .badValue else .ok { tr with
      opened := some ⟨o.number, o.queued ++ [n]⟩, records := tr.records ++ [{ record := .weighedLine n, receipt := o.number }] } := by
  obtain ⟨h0, e, he, hn⟩ := h
  have hs : x.sale? n ≠ none := fun hnone => List.find?_eq_none.1 hnone e he (beq_iff_eq.2 hn)
  rw [Trial.line, if_neg fun h => h.elim h0 hs, List.contains_eq_mem]
  simp [Trial.push]

/-- A RECEIPT_END first queues the lines of the sales that have none (R180). -/
theorem Trial.push_lines (o : Nat) (l : List Nat) (t : Trial) : l.foldl (fun t n => t.push o (.weighedLine n)) t =
    { t with records := t.records ++ l.map fun n => { record := .weighedLine n, receipt := o } } := by
  induction l generalizing t with
  | nil => simp
  | cons n l ih =>
    rw [List.foldl_cons, ih]
    simp [Trial.push]

theorem unqueuedSales_of_number {o : OpenReceipt} (h : o.number ≠ 0) :
    unqueuedSales x o = (x.sales.filter fun e => !o.queued.contains e.number).map (·.number) := by
  rw [unqueuedSales, if_neg h, List.filter_map]
  rfl

theorem Trial.end_of_flight {o : OpenReceipt} (h : o.number ≠ 0) (hf : x.inFlight = true) : tr.end_ x o = .error .busy :=
  if_pos ⟨h, hf⟩

theorem Trial.end_of_number {o : OpenReceipt} (h : o.number ≠ 0) (hf : x.inFlight = false) : tr.end_ x o = .ok {
    opened := none, receipt := .queued
    records := tr.records ++ ((x.sales.filter fun e => !o.queued.contains e.number).map fun e =>
      { record := .weighedLine e.number, receipt := o.number }) ++ [{ record := .receiptEnd, receipt := o.number }] } := by
  rw [Trial.end_, if_neg (by simp [hf]), Trial.push_lines, unqueuedSales_of_number h, List.map_map]
  simp [Trial.push, h, Function.comp_def]

theorem Trial.end_of_zero {o : OpenReceipt} (h : o.number = 0) : tr.end_ x o = .ok {
    opened := none, receipt := tr.receipt, records := tr.records ++ [{ record := .receiptEnd, receipt := 0 }] } := by
  simp [Trial.end_, unqueuedSales, Trial.push, h]

/-- A record leaves the receipt state as it was, or makes it open or queued (R74). -/
theorem Trial.record_receipt {r : PrintRecord} {tr' : Trial} (h : tr.record x r = .ok tr') :
    tr'.receipt = tr.receipt ∨ tr'.receipt = .opened ∨ tr'.receipt = .queued := by
  cases ho : tr.opened with
  | none =>
    cases r with
    | receiptBegin k =>
      rw [Trial.record_begin] at h
      split at h
      · cases h
        by_cases hk : k = 0 <;> simp [hk]
      · cases h
    | _ => cases (Trial.record_of_closed ho (by nofun)).symm.trans h
  | some o =>
    cases r with
    | receiptBegin k =>
      rw [Trial.record_begin, if_neg (by simp [ho])] at h
      cases h
    | raster | feed =>
      simp only [Trial.record, ho] at h
      split at h <;> cases h
      exact .inl rfl
    | cut =>
      simp only [Trial.record, ho] at h
      cases h
      exact .inl rfl
    | weighedLine n =>
      simp only [Trial.record, ho] at h
      by_cases hl : o.number ≠ 0 ∧ ∃ e ∈ x.sales, e.number = n
      · rw [Trial.line_of_listed hl] at h
        split at h <;> cases h
        exact .inl rfl
      · rw [Trial.line_of_unlisted hl] at h
        cases h
    | receiptEnd =>
      simp only [Trial.record, ho] at h
      by_cases h0 : o.number = 0
      · rw [Trial.end_of_zero h0] at h
        cases h
        exact .inl rfl
      · cases hf : x.inFlight with
        | true =>
          rw [Trial.end_of_flight h0 hf] at h
          cases h
        | false =>
          rw [Trial.end_of_number h0 hf] at h
          cases h
          exact .inr (.inr rfl)

theorem Trial.run_receipt {rs : List PrintRecord} {tr' : Trial} (h : Trial.run x rs tr = .ok tr') :
    tr'.receipt = tr.receipt ∨ tr'.receipt = .opened ∨ tr'.receipt = .queued := by
  induction rs generalizing tr with
  | nil =>
    cases h
    exact .inl rfl
  | cons r rs ih =>
    cases hr : tr.record x r with
    | error e =>
      rw [Trial.run_cons_error hr] at h
      cases h
    | ok t =>
      rw [Trial.run_cons_ok hr] at h
      rcases ih h with he | he
      · rw [he]
        exact Trial.record_receipt hr
      · exact .inr he

end

/-! ### A message that is taken (R178, R74) -/

/-- The transaction of a message that is taken: its receipt, and the sales whose lines it queues. -/
def Txn.takes (x : Txn) (tr : Trial) : Txn := { x with
  receipt := tr.receipt
  sales := x.sales.map fun e =>
    if (tr.records.any fun q => q.record == .weighedLine e.number) = true then { e with queued := true } else e }

theorem mem_lineNumbers {l : List Queued} {n : Nat} :
    (lineNumbers l).contains n = l.any fun q => q.record == .weighedLine n := by
  rw [Bool.eq_iff_iff, List.contains_iff_mem, lineNumbers, List.mem_filterMap, List.any_eq_true]
  refine exists_congr fun q => and_congr_right fun _ => ?_
  cases q.record <;> simp

/-- A receipt that is open or queued keeps a transaction from closing (R71). -/
theorem State.takeRecords_eq {s : State} {tr : Trial}
    (h : tr.receipt = s.txn.receipt ∨ tr.receipt = .opened ∨ tr.receipt = .queued) : s.takeRecords tr = { s with
      txn := s.txn.takes tr, prn := { s.prn with queue := s.prn.queue ++ tr.records, openReceipt := tr.opened } } := by
  simp only [State.takeRecords, mem_lineNumbers]
  split
  · next he => rw [Txn.takes, he]; rfl
  · next hne =>
    refine State.examineClosing_of_not fun hc => ?_
    have hr : tr.receipt = .none ∨ tr.receipt = .printed ∨ tr.receipt = .cancelled := hc.2.1
    rcases h.resolve_left hne with he | he <;> simp [he] at hr

section
variable {s : State} {rs : List PrintRecord} {tr : Trial}

theorem reqPrintRecords_of_error {e : Result}
    (h : Trial.run s.txn rs { opened := s.prn.openReceipt, receipt := s.txn.receipt, records := [] } = .error e) :
    reqPrintRecords rs s = (s, .refuse e) := by
  rw [reqPrintRecords, h]

theorem reqPrintRecords_of_ok
    (h : Trial.run s.txn rs { opened := s.prn.openReceipt, receipt := s.txn.receipt, records := [] } = .ok tr) :
    reqPrintRecords rs s = if s.prn.recordsFree < tr.records.length
        ∨ s.prn.bytesFree < 80 * tr.records.countP (fun q => q.record.isRaster) then (s, .refuse .full)
      else
        let u := s.takeRecords tr
        (if u.prn.engine = .idle then u.startNext else u,
          .accept (countField tr.records.length ++ le16 u.prn.recordsFree ++ le16 u.prn.bytesFree)) := by
  rw [reqPrintRecords, h]
  rfl

end

end Sys2Proof.Machine

namespace Sys2Proof.Machine
set_option Elab.async false

/-! ### The engine's next record (R181) -/

section
variable {s : State}

/-- With nothing queued the engine stands IDLE. -/
theorem State.startNext_of_empty (hr : s.prn.reasons.any = false) (hc : s.prn.cutter = none) (hq : s.prn.queue = []) :
    s.startNext = s.setPrn { s.prn with engine := .idle } := by
  simp [State.startNext, State.startNextN, hr, hc, hq]

theorem State.startNext_of_reasons (hr : s.prn.reasons.any = true) : s.startNext = s.suspend := by
  simp [State.startNext, State.startNextN, hr]

/-- A RECEIPT_BEGIN takes no time (R181, R188). -/
theorem State.startNext_of_begin {q : Queued} {rest : List Queued} {n : Nat} (hr : s.prn.reasons.any = false)
    (hc : s.prn.cutter = none) (hq : s.prn.queue = q :: rest) (hb : q.record = .receiptBegin n) :
    s.startNext = ((s.setPrn { s.prn with damagedLine := false, damagedNumber := 0 }).completeRecord).startNext := by
  rw [State.startNext, hq, List.length_cons, State.startNextN]
  simp only [hr, hc, hq, hb, State.startNext, State.completeRecord, State.setPrn_prn, Bool.false_eq_true, if_false, Option.isSome_none,
    List.tail_cons]

/-- A RECEIPT_END takes no time (R181, R193). -/
theorem State.startNext_of_end {q : Queued} {rest : List Queued} (hr : s.prn.reasons.any = false)
    (hc : s.prn.cutter = none) (hq : s.prn.queue = q :: rest) (hb : q.record = .receiptEnd) :
    s.startNext = (s.receiptDone q.receipt).completeRecord.startNext := by
  rw [State.startNext, hq, List.length_cons, State.startNextN]
  simp only [hr, hc, hq, hb, State.startNext, State.completeRecord, State.receiptDone, State.receiptPrinted_keeps, State.setPrn_prn,
    Bool.false_eq_true, if_false, Option.isSome_none, List.tail_cons]

/-- A record that takes time is taken up. -/
theorem State.startNext_of_record {q : Queued} {rest : List Queued} (hr : s.prn.reasons.any = false)
    (hc : s.prn.cutter = none) (hq : s.prn.queue = q :: rest) (hb : ∀ n, q.record ≠ .receiptBegin n) (he : q.record ≠ .receiptEnd) :
    s.startNext = s.startRecord q.record := by
  rw [State.startNext, State.startNextN]
  simp only [hr, hc, hq, Bool.false_eq_true, if_false, Option.isSome_none]

end

/-! ### A line goes on (R182, R183) -/

/-- The printer's load, and its line up to the advance: its blocks, their loads, its temperature, and the record it belongs to
stay. -/
structure State.LineKept (s t : State) : Prop where
  frame : t = { s with supply := t.supply, prn := t.prn }
  queue : t.prn.queue = s.prn.queue
  work : t.prn.work = s.prn.work
  restart : t.prn.restart = s.prn.restart
  darkness : t.prn.darkness = s.prn.darkness
  line : t.prn.line = s.prn.line ∨ ∃ l, s.prn.line = some l ∧ t.prn.line = some { l with advancing := true }

namespace State.LineKept
variable {s : State}

theorem refl (s : State) : s.LineKept s := ⟨rfl, rfl, rfl, rfl, rfl, .inl rfl⟩

theorem claimOwed (s : State) (ph : Phase) : s.LineKept (s.claimOwed ph) := by
  unfold State.claimOwed
  split
  · exact ⟨rfl, rfl, rfl, rfl, rfl, .inl rfl⟩
  · exact ⟨rfl, rfl, rfl, rfl, rfl, .inl rfl⟩

theorem plan (s : State) (l : Line) : s.LineKept (s.plan l) := by
  unfold State.plan
  dsimp only
  split
  · exact ⟨rfl, rfl, rfl, rfl, rfl, .inl rfl⟩
  · split
    · exact ⟨rfl, rfl, rfl, rfl, rfl, .inl rfl⟩
    · exact ⟨rfl, rfl, rfl, rfl, rfl, .inl rfl⟩

theorem phaseStart (s : State) : s.LineKept s.phaseStart := by
  unfold State.phaseStart
  split
  · exact claimOwed s _
  · split
    · exact refl s
    · next l hl =>
      split
      · exact ⟨rfl, rfl, rfl, rfl, rfl, .inr ⟨l, hl, rfl⟩⟩
      · exact plan s l

end State.LineKept

/-- A line start (R182). -/
theorem State.lineStart_starts (s : State) (loads : List Nat) : s.startsLine (s.lineStart loads) loads
    ∧ (s.lineStart loads).prn.queue = s.prn.queue ∧ (s.lineStart loads).prn.work = s.prn.work
    ∧ (s.lineStart loads).prn.restart = s.prn.restart
    ∧ s.lineStart loads = { s with supply := (s.lineStart loads).supply, prn := (s.lineStart loads).prn } := by
  let u := s.sampleTemp.setPrn { s.sampleTemp.prn with
    darkness := s.prn.darknessSet
    line := some { loads := loads, printed := loads.map (· == 0), advancing := false, temp := s.sampleTemp.prn.headTemp } }
  have hk : u.LineKept (s.lineStart loads) := .phaseStart u
  refine ⟨?_, hk.queue, hk.work, hk.restart, hk.frame⟩
  rcases hk.line with hl | ⟨l, hl, ha⟩
  · exact ⟨_, hl, rfl, rfl, rfl, hk.darkness⟩
  · cases hl
    exact ⟨_, ha, rfl, rfl, rfl, hk.darkness⟩

/-! ### A record is taken up (R181, R186, R189) -/

/-- The read of a weighed line that no place is free for waits at the printer (R186). -/
theorem State.offerLine_of_taken {s : State} {n : Nat} (h : 4 ≤ s.store.queue.length + s.store.waiters.length) :
    s.offerLine n = s.setStore { s.store with waiters := s.store.waiters ++ [.line] } := if_pos (decide_eq_true h)

theorem State.offerLine_of_free {s : State} {n : Nat} (h : s.store.queue.length + s.store.waiters.length < 4) :
    s.offerLine n = s.enqueue (.readPrinter n true) := by
  have hf : s.store.placesTaken = false := decide_eq_false (Nat.not_le.2 h)
  rw [State.offerLine, hf]
  rfl

/-- A record that takes time is taken up (R181): but for the link, that is all that happens. -/
theorem State.startRecord_takesUp (s : State) (r : PrintRecord) (l : Link) : s.takesUp ((s.startRecord r).setLink l) r := by
  cases r with
  | receiptBegin | receiptEnd => trivial
  | feed | cut => rfl
  | raster repeats dots =>
    obtain ⟨hs, hq, hw, -, hf⟩ := (s.setPrn { s.prn with work := some (.raster repeats dots) }).lineStart_starts (rasterLoads dots)
    exact ⟨congrArg (State.setLink l) hf, hq, hw, hs⟩
  | weighedLine n =>
    let u := s.setPrn { s.prn with work := some (.reading n), engine := .waitStore }
    refine ⟨fun hf => ?_, fun hf store hr => ?_⟩
    · exact congrArg (State.setLink l) (State.offerLine_of_taken (s := u) (Nat.not_lt.1 hf))
    · exact congrArg (State.setLink l) ((State.offerLine_of_free (s := u) hf).trans (State.enqueue_of_receives (s := u) hr))

/-! #### A read of the printer's own produces no reply (R186) -/

/-- The reads of a queue are the printer's. -/
def Store.lineReads (x : Store) : Prop := ∀ a ∈ x.queue, ∃ n live, a = .readPrinter n live

theorem State.SlotsOnly.congr {s t u : State} (h : s.SlotsOnly t) (hl : u.link = t.link := by simp) : s.SlotsOnly u := by
  rw [State.SlotsOnly, hl]
  exact h

theorem State.SlotsOnly.trans {s t u : State} (h : s.SlotsOnly t) (k : t.SlotsOnly u) : s.SlotsOnly u := by
  obtain ⟨a, ha⟩ := h
  obtain ⟨b, hb⟩ := k
  exact ⟨b, by rw [hb, ha]⟩

theorem State.evalCondition_slots (s : State) : s.SlotsOnly s.evalCondition := by
  have h : s.SlotsOnly (s.setStore { s.store with condition := s.store.judge }) := .of_link rfl
  exact .ite (.of_link rfl) (h.raise _ _)

theorem State.endRead_slots (s : State) (n : Nat) (live : Bool) (health : List Health) :
    s.SlotsOnly (s.endRead (.readPrinter n live) health) := by
  unfold State.endRead
  dsimp only
  have hp : ∀ x, s.SlotsOnly (s.popAccess.setStore x) := fun x => .of_link (by simp)
  have hl : ∀ {u : State} x, s.SlotsOnly u → s.SlotsOnly (u.lineResult x) := fun x hu => hu.congr
  exact .ite (hl _ (.ite ((hp _).raise _ _) (hp _))) (.ite ((hp _).raise _ _) (hp _))

theorem State.endRead_queue (s : State) (n : Nat) (live : Bool) (health : List Health) :
    (s.endRead (.readPrinter n live) health).store.queue = s.store.queue.tail := by
  simp [State.endRead, State.ite_fields, State.popAccess]

theorem Store.lineReads.tail {x y : Store} (h : x.lineReads) (hq : y.queue = x.queue.tail) : y.lineReads :=
  fun a ha => h a (List.mem_of_mem_tail (hq ▸ ha))

theorem Store.lineReads.of_queue {x y : Store} (h : x.lineReads) (hq : y.queue = x.queue) : y.lineReads :=
  fun a ha => h a (hq ▸ ha)

/-- With only reads of the printer queued, the idle flash produces no reply. -/
theorem State.choose1_lineReads {s : State} (h : s.store.lineReads) : s.SlotsOnly s.choose1.1 ∧ s.choose1.1.store.lineReads := by
  have hset : ∀ x : Store, x.queue = s.store.queue → s.SlotsOnly (s.setStore x) ∧ (s.setStore x).store.lineReads := fun x hx =>
    ⟨.of_link rfl, h.of_queue hx⟩
  have herase : s.SlotsOnly (match s.store.erase with | some y => (s.setStore (s.store.eraseStep y), false) | none => (s, false)).1
      ∧ (match s.store.erase with | some y => (s.setStore (s.store.eraseStep y), false) | none => (s, false)).1.store.lineReads := by
    split
    · exact hset _ (by simp)
    · exact ⟨.of_link rfl, h⟩
  have hhead : ∀ {a rest}, s.store.queue = a :: rest → ∃ n live, a = .readPrinter n live := fun hq => h _ (hq ▸ List.mem_cons_self)
  fun_cases State.choose1 s
  case case5 =>
    exact ⟨State.SlotsOnly.trans (.of_link (t := s.setStore s.store.fail) rfl) (State.evalCondition_slots _),
      h.of_queue (by simp [State.failCopies, State.evalCondition_store])⟩
  case case7 => exact herase
  case case8 hq _ _ | case9 hq _ _ _ | case10 hq _ _ _ | case11 hq _ _ | case12 hq _ _ _ _ =>
    obtain ⟨n, live, ha⟩ := hhead hq
    cases ha
  case case14 a rest _ _ hq _ _ =>
    obtain ⟨n, live, rfl⟩ := hhead hq
    exact ⟨s.endRead_slots n live [], h.tail (s.endRead_queue n live [])⟩
  all_goals exact hset _ rfl

theorem State.pump_lineReads {s : State} (h : s.store.lineReads) : s.SlotsOnly s.pump := by
  have hn : ∀ k (s : State), s.store.lineReads → s.SlotsOnly (s.pumpN k) := fun k => by
    induction k with
    | zero => exact fun s _ => .of_link rfl
    | succ k ih =>
      intro s h
      obtain ⟨hs, hq⟩ := State.choose1_lineReads h
      rw [State.pumpN]
      exact .ite (.of_link rfl) (.ite (hs.trans (ih _ hq)) hs)
  exact .ite (.of_link rfl) (hn 16 s h)

theorem Store.headBlocked_append {x : Store} {l : List Access} (h : x.headBlocked = true) :
    ({ x with queue := x.queue ++ l } : Store).headBlocked = true := by
  unfold Store.headBlocked at h ⊢
  cases hq : x.queue with
  | nil => simp [hq] at h
  | cons a rest =>
    rw [hq] at h
    cases a <;> exact h

theorem State.offerLine_slots {s : State} (n : Nat) (h : s.takesAlone (.weighedLine n)) : s.SlotsOnly (s.offerLine n) := by
  by_cases hf : s.store.queue.length + s.store.waiters.length < 4
  · have hjoin : s.store.op ≠ .idle → (s.store.op ≠ .pulse false ∨ s.store.eraseFirst = true
        ∨ ({ s.store with queue := s.store.queue ++ [.readPrinter n true] } : Store).headBlocked = true) →
        s.SlotsOnly (s.enqueue (.readPrinter n true)) := fun ho hk => by
      rw [State.enqueue_of_receives (.inl ⟨ho, hk, rfl⟩)]
      exact .of_link rfl
    rw [State.offerLine_of_free hf]
    rcases h with h4 | ⟨ho, hb⟩ | ⟨ho, hb⟩ | hq
    · omega
    · exact hjoin ho (hb.imp_right .inl)
    · exact hjoin ho (.inr (.inr (Store.headBlocked_append hb)))
    · have hj : (s.store.join (.readPrinter n true)).lineReads := fun a ha => by
        have hq' : (s.store.join (.readPrinter n true)).queue = [.readPrinter n true] := by
          simp [hq]
        rw [hq', List.mem_singleton] at ha
        exact ⟨n, true, ha⟩
      exact State.SlotsOnly.trans (.of_link (t := s.setStore _) rfl) (State.pump_lineReads hj)
  · rw [State.offerLine_of_taken (Nat.not_lt.1 hf)]
    exact .of_link rfl

/-- A record that is taken up alone produces no reply (R181, R186). -/
theorem State.startRecord_slots {s : State} {r : PrintRecord} (h : s.takesAlone r) : s.SlotsOnly (s.startRecord r) := by
  cases r with
  | receiptBegin | receiptEnd => exact .of_link rfl
  | feed | cut | raster => exact .of_link (by simp [State.startRecord])
  | weighedLine n =>
    have hu : s.SlotsOnly (s.setPrn { s.prn with work := some (.reading n), engine := .waitStore }) := .of_link rfl
    exact hu.trans (State.offerLine_slots n h)

end Sys2Proof.Machine

namespace Sys2Proof.Machine
set_option Elab.async false

/-! ### The receipt takes a state (R71, R74, R193) -/

theorem State.setReceipt_becomes (s : State) (r : ReceiptState) : s.receiptBecomes (s.setReceipt r) { s.txn with receipt := r }
    ∧ s.setReceipt r = { s with txn := (s.setReceipt r).txn, bag := (s.setReceipt r).bag } := by
  by_cases hc : s.closes { s.txn with receipt := r }
  · have he : s.setReceipt r = _ := State.examineClosing_of_closes (s := s.setTxn { s.txn with receipt := r }) hc
    rw [he]
    exact ⟨⟨fun _ => ⟨rfl, rfl⟩, fun hn => absurd hc hn⟩, rfl⟩
  · have he : s.setReceipt r = _ := State.examineClosing_of_not (s := s.setTxn { s.txn with receipt := r }) hc
    rw [he]
    exact ⟨⟨fun hy => absurd hy hc, fun _ => ⟨rfl, rfl⟩⟩, rfl⟩

/-- The RECEIPT_END of the current transaction's queued receipt prints it, and another is nothing to it (R193). -/
theorem State.receiptPrinted_becomes (s : State) (n : Nat) :
    (if s.txn.state ≠ .idle ∧ n = s.txn.number ∧ s.txn.receipt = .queued then
        s.receiptBecomes (s.receiptPrinted n) { s.txn with receipt := .printed }
      else (s.receiptPrinted n).txn = s.txn ∧ (s.receiptPrinted n).bag = s.bag)
    ∧ s.receiptPrinted n = { s with txn := (s.receiptPrinted n).txn, bag := (s.receiptPrinted n).bag } := by
  have hiff : (s.txn.owns n = true ∧ s.txn.receipt = .queued) ↔ (s.txn.state ≠ .idle ∧ n = s.txn.number ∧ s.txn.receipt = .queued) := by
    simp [Txn.owns, and_assoc]
  by_cases h : s.txn.state ≠ .idle ∧ n = s.txn.number ∧ s.txn.receipt = .queued
  · have he : s.receiptPrinted n = s.setReceipt .printed := if_pos (hiff.2 h)
    rw [if_pos h, he]
    exact s.setReceipt_becomes .printed
  · have he : s.receiptPrinted n = s := if_neg (mt hiff.1 h)
    rw [if_neg h, he]
    exact ⟨⟨rfl, rfl⟩, rfl⟩

/-! ### PRINT_RECORDS (R178) -/

/-- A body that is no sequence of records is answered BAD_FRAME (R7). -/
theorem exec_printRecords_of_badBody {s : State} (h : s.ready) (tag : Byte) {body : List Byte} (hp : parseRecords body = none) :
    exec (.printRecords tag body) s = .next (s.answer 0x36 tag (.refuse .badFrame)).chooseFrame := by
  have hb : parseBody printKind body = none := by simp only [parseBody, if_true, hp, Option.map_none]
  have hs : printRecordsStep tag body s = s.answer 0x36 tag (.refuse .badFrame) := by
    rw [printRecordsStep, hb]
    exact if_pos h.1
  show ended s (printRecordsStep tag body s) = _
  rw [ended, hs]
  exact congrArg _ State.finish_of_same

section
variable {s : State} {tag : Byte} {body : List Byte} {rs : List (PrintRecord × Bool)} {tr : Trial}

/-- The printer of a message that is taken (R178). -/
def Printer.takes (p : Printer) (tr : Trial) : Printer := { p with queue := p.queue ++ tr.records, openReceipt := tr.opened }

/-- The reply of a message that is taken: the records, and the free places and bytes behind them (R178). -/
def Printer.takenAnswer (p : Printer) (tr : Trial) : Answer :=
  .accept (countField tr.records.length ++ le16 (256 - (p.queue.length + tr.records.length))
    ++ le16 (16384 - 80 * (p.queue.countP (fun q => q.record.isRaster) + tr.records.countP (fun q => q.record.isRaster))))

theorem exec_printRecords_of_refused (h : s.ready) (hp : parseRecords body = some rs) (hf : rs.all (·.2) = true) {e : Result}
    (hs : reqPrintRecords (rs.map Prod.fst) s.reservePlace = (s.reservePlace, .refuse e)) :
    exec (.printRecords tag body) s = .next (s.answer 0x36 tag (.refuse e)).chooseFrame :=
  exec_of_unchanged (c := .printRecords tag body) (r := .printRecords rs) h (by simp [Instr.request?, hp]) nofun
    (congrArg answered hs) hf

/-- A message that has passed is taken where it fits, and refused FULL where it does not (R177, R178). -/
theorem reqPrintRecords_of_run
    (h : Trial.run s.txn (rs.map Prod.fst) { opened := s.prn.openReceipt, receipt := s.txn.receipt, records := [] } = .ok tr) :
    reqPrintRecords (rs.map Prod.fst) s =
      if 256 - s.prn.queue.length < tr.records.length
          ∨ 16384 - 80 * s.prn.queue.countP (fun q => q.record.isRaster) < 80 * tr.records.countP (fun q => q.record.isRaster) then
        (s, .refuse .full)
      else
        let u := { s with txn := s.txn.takes tr, prn := s.prn.takes tr }
        (if s.prn.engine = .idle then u.startNext else u, s.prn.takenAnswer tr) := by
  have ha : (s.prn.takes tr).recordsFree = 256 - (s.prn.queue.length + tr.records.length)
      ∧ (s.prn.takes tr).bytesFree =
        16384 - 80 * (s.prn.queue.countP (fun q => q.record.isRaster) + tr.records.countP (fun q => q.record.isRaster)) := by
    simp [Printer.takes, Printer.recordsFree, Printer.bytesFree, Config.printPlaces, Config.printBytes, Config.rasterBytes]
  rw [reqPrintRecords_of_ok h, State.takeRecords_eq (Trial.run_receipt h), Printer.takenAnswer, ← ha.1, ← ha.2]
  rfl

/-- A taken message is answered, and what it leaves is as the engine's turn leaves it. -/
theorem exec_printRecords_of_taken (h : s.ready) (hp : parseRecords body = some rs) (hf : rs.all (·.2) = true) {u : State} {a : Answer}
    (hs : reqPrintRecords (rs.map Prod.fst) s.reservePlace = (u, a)) (hu : s.reservePlace.SlotsOnly u) :
    ∃ t, exec (.printRecords tag body) s = .next t ∧ s.replied t 0x36 tag a ∧ t = u.setLink t.link :=
  exec_of_served (c := .printRecords tag body) (r := .printRecords rs) h (by simp [Instr.request?, hp]) nofun hf
    (congrArg answered hs) hu

end

/-! #### An idle engine starts the first record at once (R181) -/

/-- The printer once a RECEIPT_BEGIN at the head of a message, which takes no time, is behind it, and the records that are left. -/
def Printer.starts (p : Printer) (tr : Trial) (first : List Queued) (prn : Printer) : Prop :=
  first = tr.records ∧ prn = { p with queue := tr.records, openReceipt := tr.opened }
    ∨ (∃ q k, tr.records = q :: first ∧ q.record = .receiptBegin k)
      ∧ prn = { p with queue := first, openReceipt := tr.opened, damagedLine := false, damagedNumber := 0 }

/-- A printer that stands IDLE with records to start. -/
structure Printer.standing (p : Printer) (first : List Queued) : Prop where
  queue : p.queue = first
  engine : p.engine = .idle
  cutter : p.cutter = none
  reasons : p.reasons.any = false

section
variable {s : State} {tr : Trial} {first : List Queued} {prn : Printer}

theorem Printer.starts.standing (hi : s.engineIdle) (h : s.prn.starts tr first prn) : prn.standing first := by
  obtain ⟨he, -, -, hc, hr⟩ := hi
  rcases h with ⟨rfl, rfl⟩ | ⟨-, rfl⟩
  · exact ⟨rfl, he, hc, hr⟩
  · exact ⟨rfl, he, hc, hr⟩

theorem Printer.starts.rest {p : Printer} (h : p.starts tr first prn) :
    prn.work = p.work ∧ prn.ending = p.ending ∧ prn.line = p.line ∧ prn.doneCount = p.doneCount := by
  rcases h with ⟨-, rfl⟩ | ⟨-, rfl⟩ <;> exact ⟨rfl, rfl, rfl, rfl⟩

theorem State.startNext_of_starts (x : Txn) (hi : s.engineIdle) (hl : s.prn.line = none) (he : s.prn.ending = false)
    (h : s.prn.starts tr first prn) :
    ({ s with txn := x, prn := s.prn.takes tr } : State).startNext = ({ s with txn := x, prn := prn } : State).startNext := by
  obtain ⟨-, hq, hw, hc, hr⟩ := hi
  have ht : s.prn.takes tr = { s.prn with queue := tr.records, openReceipt := tr.opened } := by rw [Printer.takes, hq]; rfl
  rw [ht]
  rcases h with ⟨rfl, rfl⟩ | ⟨⟨q, k, hrec, hb⟩, rfl⟩
  · rfl
  · rw [State.startNext_of_begin (s := { s with
      txn := x, prn := { s.prn with queue := tr.records, openReceipt := tr.opened } }) hr hc hrec hb]
    simp only [State.completeRecord, State.setPrn, hrec, List.tail_cons, hw, hl, he]

variable (hstand : prn.standing first) (x : Txn)
include hstand

theorem Printer.standing.startNext_nil (h : first = []) :
    ({ s with txn := x, prn := prn } : State).startNext = { s with txn := x, prn := prn } := by
  rw [State.startNext_of_empty (s := { s with txn := x, prn := prn }) hstand.reasons hstand.cutter (hstand.queue.trans h),
    State.setPrn, ← hstand.engine]

/-- The first record, where it takes time, is taken up (R181). -/
theorem Printer.standing.startNext_cons {q : Queued} {more : List Queued} (h : first = q :: more) (ha : s.takesAlone q.record) :
    ({ s with txn := x, prn := prn } : State).startNext = ({ s with txn := x, prn := prn } : State).startRecord q.record :=
  State.startNext_of_record (s := { s with txn := x, prn := prn }) hstand.reasons hstand.cutter (hstand.queue.trans h)
    (fun n hn => by rw [hn] at ha; exact ha) (fun hn => by rw [hn] at ha; exact ha)

/-- A lone RECEIPT_END prints its receipt at once (R181, R193). -/
theorem Printer.standing.startNext_end {q : Queued} (h : first = [q]) (hq : q.record = .receiptEnd) : ∃ t : State,
    ({ s with txn := x, prn := prn } : State).startNext = t
    ∧ t = { s with txn := t.txn, bag := t.bag, prn := { prn with
        queue := [], work := none, ending := false, line := none, lastDone := q.receipt, doneCount := (prn.doneCount + 1) % 256 } }
    ∧ (if x.state ≠ .idle ∧ q.receipt = x.number ∧ x.receipt = .queued then
        s.receiptBecomes t { x with receipt := .printed } else t.txn = x ∧ t.bag = s.bag) := by
  let v : State := { s with txn := x, prn := { prn with lastDone := q.receipt, doneCount := (prn.doneCount + 1) % 256 } }
  obtain ⟨hb, hf⟩ := v.receiptPrinted_becomes q.receipt
  refine ⟨{ v.receiptPrinted q.receipt with prn := { v.prn with queue := [], work := none, ending := false, line := none } }, ?_, ?_, hb⟩
  · rw [State.startNext_of_end (s := { s with txn := x, prn := prn }) hstand.reasons hstand.cutter (hstand.queue.trans h) hq]
    have hp : (v.receiptPrinted q.receipt).prn = v.prn := (congrArg State.prn hf :)
    have hd : ({ s with txn := x, prn := prn } : State).receiptDone q.receipt = v.receiptPrinted q.receipt := rfl
    have hc : (v.receiptPrinted q.receipt).completeRecord =
        { v.receiptPrinted q.receipt with prn := { v.prn with queue := [], work := none, ending := false, line := none } } := by
      rw [State.completeRecord, hp, show v.prn.queue = [q] from hstand.queue.trans h]
      rfl
    rw [hd, hc]
    exact Printer.standing.startNext_nil (s := v.receiptPrinted q.receipt) (first := [])
      (prn := { v.prn with queue := [], work := none, ending := false, line := none })
      ⟨rfl, hstand.engine, hstand.cutter, hstand.reasons⟩ _ rfl
  · exact congrArg (fun u : State => { u with prn := { v.prn with queue := [], work := none, ending := false, line := none } }) hf

end

/-! #### What becomes of a message -/

section
variable {s : State} {tag : Byte} {body : List Byte} {rs : List (PrintRecord × Bool)} {tr : Trial}
variable (h : s.ready) (hp : parseRecords body = some rs) (hf : rs.all (·.2) = true)
  (hrun : Trial.run s.txn (rs.map (·.1)) { opened := s.prn.openReceipt, receipt := s.txn.receipt, records := [] } = .ok tr)
include h hp hf hrun

theorem exec_printRecords_of_full (hk : s.printQueueKept) (hover : 256 < s.prn.queue.length + tr.records.length
      ∨ 16384 < 80 * (s.prn.queue.countP (fun q => q.record.isRaster) + tr.records.countP (fun q => q.record.isRaster))) :
    exec (.printRecords tag body) s = .next (s.answer 0x36 tag (.refuse .full)).chooseFrame := by
  obtain ⟨hl, hb⟩ := hk
  exact exec_printRecords_of_refused h hp hf ((reqPrintRecords_of_run (s := s.reservePlace) hrun).trans (if_pos (hover.imp
    (fun ho => show 256 - s.prn.queue.length < _ by omega) fun ho => show 16384 - 80 * s.prn.queue.countP _ < _ by omega)))

variable (hl : s.prn.queue.length + tr.records.length ≤ 256)
  (hb : 80 * (s.prn.queue.countP (fun q => q.record.isRaster) + tr.records.countP (fun q => q.record.isRaster)) ≤ 16384)
include hl hb

omit h hp hf in
theorem reqPrintRecords_of_fits : reqPrintRecords (rs.map Prod.fst) s.reservePlace =
    (let u := { s.reservePlace with txn := s.txn.takes tr, prn := s.prn.takes tr }
    if s.prn.engine = .idle then u.startNext else u, s.prn.takenAnswer tr) :=
  (reqPrintRecords_of_run (s := s.reservePlace) hrun).trans (if_neg (not_or.2
    ⟨show ¬ 256 - s.prn.queue.length < _ by omega, show ¬ 16384 - 80 * s.prn.queue.countP _ < _ by omega⟩))

/-- An engine at work goes on with it (R178). -/
theorem exec_printRecords_of_busy (he : s.prn.engine ≠ .idle) : ∃ t, exec (.printRecords tag body) s = .next t
    ∧ s.replied t 0x36 tag (s.prn.takenAnswer tr)
    ∧ t = { s with link := t.link, txn := s.txn.takes tr, prn := s.prn.takes tr } :=
  exec_printRecords_of_taken h hp hf ((reqPrintRecords_of_fits hrun hl hb).trans (congrArg (·, _) (if_neg he))) (.of_link rfl)

variable {first : List Queued} {prn : Printer} (hi : s.engineIdle) (hline : s.prn.line = none) (hend : s.prn.ending = false)
  (hst : s.prn.starts tr first prn)
include hi hline hend hst

theorem exec_printRecords_of_idle {u : State}
    (hu : ({ s.reservePlace with txn := s.txn.takes tr, prn := prn } : State).startNext = u) (hslots : s.reservePlace.SlotsOnly u) :
    ∃ t, exec (.printRecords tag body) s = .next t ∧ s.replied t 0x36 tag (s.prn.takenAnswer tr) ∧ t = u.setLink t.link :=
  exec_printRecords_of_taken h hp hf ((reqPrintRecords_of_fits hrun hl hb).trans (congrArg (·, _) ((if_pos hi.1).trans
    ((State.startNext_of_starts (s := s.reservePlace) (s.txn.takes tr) hi hline hend hst).trans hu)))) hslots

theorem exec_printRecords_nil (hn : first = []) : ∃ t, exec (.printRecords tag body) s = .next t
    ∧ s.replied t 0x36 tag (s.prn.takenAnswer tr) ∧ t = { s with link := t.link, txn := s.txn.takes tr, prn := prn } :=
  exec_printRecords_of_idle h hp hf hrun hl hb hi hline hend hst
    ((hst.standing hi).startNext_nil (s := s.reservePlace) _ hn) (.of_link rfl)

theorem exec_printRecords_cons {q : Queued} {more : List Queued} (hq : first = q :: more) (ha : s.takesAlone q.record) :
    ∃ t, exec (.printRecords tag body) s = .next t ∧ s.replied t 0x36 tag (s.prn.takenAnswer tr)
      ∧ ({ s with txn := s.txn.takes tr, prn := prn } : State).takesUp t q.record := by
  let v : State := { s.reservePlace with txn := s.txn.takes tr, prn := prn }
  have hslots : s.reservePlace.SlotsOnly (v.startRecord q.record) := State.startRecord_slots (s := v) ha
  obtain ⟨t, ht, hrep, heq⟩ := exec_printRecords_of_idle h hp hf hrun hl hb hi hline hend hst
    ((hst.standing hi).startNext_cons (s := s.reservePlace) _ hq ha) hslots
  have htakes := v.startRecord_takesUp q.record t.link
  rw [← heq] at htakes
  exact ⟨t, ht, hrep, htakes⟩

theorem exec_printRecords_end {q : Queued} (hq : first = [q]) (hr : q.record = .receiptEnd) :
    ∃ t, exec (.printRecords tag body) s = .next t ∧ s.replied t 0x36 tag (s.prn.takenAnswer tr)
      ∧ t = { s with link := t.link, txn := t.txn, bag := t.bag, prn := { prn with
          queue := [], lastDone := q.receipt, doneCount := (s.prn.doneCount + 1) % 256 } }
      ∧ (if s.txn.state ≠ .idle ∧ q.receipt = s.txn.number ∧ tr.receipt = .queued then
          s.receiptBecomes t { s.txn.takes tr with receipt := .printed } else t.txn = s.txn.takes tr ∧ t.bag = s.bag) := by
  have hstand := hst.standing hi
  obtain ⟨u, hu, heq, hrec⟩ := hstand.startNext_end (s := s.reservePlace) (s.txn.takes tr) hq hr
  obtain ⟨t, ht, hrep, hlink⟩ := exec_printRecords_of_idle (tag := tag) h hp hf hrun hl hb hi hline hend hst hu (.of_link (by rw [heq]))
  obtain ⟨hwork, hending, hnoLine, hcount⟩ := hst.rest
  rw [hi.2.2.1] at hwork
  rw [hend] at hending
  rw [hline] at hnoLine
  have hprn : ({ prn with
      queue := [], work := none, ending := false, line := none, lastDone := q.receipt
      doneCount := (prn.doneCount + 1) % 256 } : Printer) =
      { prn with queue := [], lastDone := q.receipt, doneCount := (s.prn.doneCount + 1) % 256 } := by
    rw [← hwork, ← hending, ← hnoLine, ← hcount]
  rw [hprn] at heq
  obtain ⟨l, rfl⟩ : ∃ l, t = u.setLink l := ⟨_, hlink⟩
  exact ⟨_, ht, hrep, congrArg (State.setLink l) heq, hrec⟩

end

end Sys2Proof.Machine

namespace Sys2Proof.Machine
set_option Elab.async false

/-! ### PRINT_CANCEL (R194) -/

theorem State.cancelReceiptState_becomes (s : State) :
    (if s.txn.receipt = .opened ∨ s.txn.receipt = .queued then s.receiptBecomes s.cancelReceiptState { s.txn with receipt := .cancelled }
      else s.cancelReceiptState.txn = s.txn ∧ s.cancelReceiptState.bag = s.bag)
    ∧ s.cancelReceiptState = { s with txn := s.cancelReceiptState.txn, bag := s.cancelReceiptState.bag } := by
  by_cases h : s.txn.receipt = .opened ∨ s.txn.receipt = .queued
  · have he : s.cancelReceiptState = s.setReceipt .cancelled := if_pos h
    rw [if_pos h, he]
    exact s.setReceipt_becomes .cancelled
  · have he : s.cancelReceiptState = s := if_neg h
    rw [if_neg h, he]
    exact ⟨⟨rfl, rfl⟩, rfl⟩

theorem reqPrintCancel_of_ended {s u : State} (h : (s.setPrn { s.prn with queue := s.prn.started }).endRecord = u) : reqPrintCancel s =
    ((u.setPrn { u.prn with restart := .none, openReceipt := none }).cancelReceiptState.raisePrint,
      .accept (le16 s.prn.unstarted.length)) := by
  rw [← h]
  rfl

/-- What an accepted PRINT_CANCEL leaves (R194): its reply, the store, the printer's load and the printer, and what the cancelled
receipt makes of the transaction. -/
def State.cancelsTo (s : State) (tag : Byte) (count : Nat) (store : Store) (supply : Supply) (prn : Printer) : Prop :=
  ∃ t, exec (.printCancel tag) s = .next t ∧ s.replied t 0x37 tag (.accept (le16 count))
    ∧ t = { s with link := t.link, store := store, supply := supply, prn := prn, txn := t.txn, bag := t.bag }
    ∧ (if s.txn.receipt = .opened ∨ s.txn.receipt = .queued then s.receiptBecomes t { s.txn with receipt := .cancelled }
      else t.txn = s.txn ∧ t.bag = s.bag)

/-- The record in progress ends (R194), and the cancel of the rest follows. -/
theorem exec_printCancel_of_ended {s : State} (h : s.ready) (tag : Byte) {store : Store} {supply : Supply} {p : Printer}
    (he : (s.reservePlace.setPrn { s.prn with queue := s.prn.started }).endRecord =
      { s.reservePlace with store := store, supply := supply, prn := p }) :
    s.cancelsTo tag s.prn.unstarted.length store supply { p with restart := .none, openReceipt := none } := by
  obtain ⟨v, hv⟩ : ∃ v : State, v =
      { s.reservePlace with store := store, supply := supply, prn := { p with restart := .none, openReceipt := none } } := ⟨_, rfl⟩
  have hserve : reqPrintCancel s.reservePlace = (v.cancelReceiptState.raisePrint, .accept (le16 s.prn.unstarted.length)) :=
    (reqPrintCancel_of_ended he).trans (by rw [hv]; rfl)
  obtain ⟨hb, hf⟩ := v.cancelReceiptState_becomes
  obtain ⟨t, ht, hrep, heq⟩ := exec_of_served (c := .printCancel tag) (r := .printCancel) h rfl nofun rfl (congrArg answered hserve)
    (State.SlotsOnly.raise (.of_link (by rw [hf, hv])) _ _)
  have hraise := State.raise_eq .printState v.cancelReceiptState.prn.bytes v.cancelReceiptState
  obtain ⟨l, rfl⟩ : ∃ l, t = v.cancelReceiptState.setLink l :=
    ⟨t.link, heq.trans (congrArg (State.setLink t.link) hraise :)⟩
  subst hv
  exact ⟨_, ht, hrep, congrArg (State.setLink l) hf, hb⟩

section
variable {s : State}

theorem State.endRecord_of_none (h : s.prn.work = none) : s.endRecord = s := by
  rw [State.endRecord, h]

theorem State.endRecord_of_cutter {w : Work} (h : s.prn.work = some w) (hc : s.prn.cutter ≠ none) : s.endRecord = s := by
  rw [State.endRecord, h]
  exact if_pos (Option.isSome_iff_ne_none.2 hc)

/-- A line in progress is let go to its end (R194). -/
theorem State.endRecord_of_line {w : Work} (h : s.prn.work = some w) (hc : s.prn.cutter = none) (hl : s.prn.line ≠ none)
    (he : s.prn.engine ≠ .suspended) : s.endRecord = s.setPrn { s.prn with ending := true } := by
  rw [State.endRecord, h]
  exact (if_neg (by simp [hc])).trans (if_pos ⟨Option.isSome_iff_ne_none.2 hl, he⟩)

theorem State.endRecord_of_rest {w : Work} (h : s.prn.work = some w) (hc : s.prn.cutter = none)
    (hl : s.prn.line = none ∨ s.prn.engine = .suspended) : s.endRecord = s.dropRecord := by
  have hn : ¬ (s.prn.line.isSome = true ∧ s.prn.engine ≠ .suspended) := fun ⟨hs, he⟩ =>
    hl.elim (fun hn => by simp [hn] at hs) he
  rw [State.endRecord, h]
  exact (if_neg (by simp [hc])).trans (if_neg hn)

/-- The printer's load with its owed re-application withdrawn: the staged budget takes effect where no grant is held (R160, R185). -/
def State.supplyFreed (s : State) : Supply := { s.supply with
  owed := none
  budget := if s.supply.phase = none ∧ ¬ (s.drw1.state = .kick ∨ s.drw1.state = .hold)
    ∧ ¬ (s.drw2.state = .kick ∨ s.drw2.state = .hold) then s.supply.staged else s.supply.budget }

theorem State.withdrawOwed_eq (s : State) : s.withdrawOwed = { s with supply := s.supplyFreed } := by
  have hg : ∀ x : DrawerState, (!x.holdsGrant) = true ↔ ¬ (x = .kick ∨ x = .hold) := fun x => by cases x <;> decide
  unfold State.withdrawOwed State.testBudget State.supplyFreed
  by_cases hh : s.supply.phase = none ∧ ¬ (s.drw1.state = .kick ∨ s.drw1.state = .hold)
      ∧ ¬ (s.drw2.state = .kick ∨ s.drw2.state = .hold)
  · rw [if_pos hh]
    exact if_pos ⟨hh.1, rfl, (hg _).2 hh.2.1, (hg _).2 hh.2.2⟩
  · rw [if_neg hh]
    exact if_neg fun ⟨hp, _, h₁, h₂⟩ => hh ⟨hp, (hg _).1 h₁, (hg _).1 h₂⟩

/-- A record that ends alone in the queue leaves the engine SUSPENDED where it stood so or a reason is set, and IDLE else (R194). -/
theorem State.dropRecord_of_last {q : Queued} (hq : s.prn.queue = [q]) (hc : s.prn.cutter = none) : s.dropRecord = { s with
    store := s.store.dropLineRead
    supply := s.supplyFreed
    prn := { s.prn with
      queue := [], work := none, ending := false, line := none, restart := .none
      engine := if s.prn.engine = .suspended ∨ s.prn.reasons.any = true then .suspended else .idle } } := by
  let v : State := { s with
    store := s.store.dropLineRead, supply := s.supplyFreed
    prn := { s.prn with queue := [], work := none, ending := false, line := none, restart := .none } }
  have hv : s.dropRecord = if v.prn.engine = .suspended then v else v.startNext := by
    rw [State.dropRecord, State.withdrawOwed_eq, State.completeRecord, State.setStore_prn, hq]
    rfl
  rw [hv]
  by_cases hs : s.prn.engine = .suspended
  · rw [if_pos hs, if_pos (.inl hs), ← hs]
  · rw [if_neg hs]
    cases hr : s.prn.reasons.any with
    | true =>
      rw [State.startNext_of_reasons (s := v) hr, if_pos (.inr rfl)]
      rfl
    | false =>
      rw [State.startNext_of_empty (s := v) hr hc rfl, if_neg (by simp [hs])]
      rfl

/-! #### The four ends of a record in progress -/

theorem Printer.started_of_none {p : Printer} (h : p.work = none) : p.started = [] ∧ p.unstarted = p.queue := by
  simp [Printer.started, Printer.unstarted, h]

theorem Printer.started_of_work {p : Printer} {w : Work} {q : Queued} {more : List Queued} (h : p.work = some w)
    (hq : p.queue = q :: more) : p.started = [q] ∧ p.unstarted = more := by
  simp [Printer.started, Printer.unstarted, h, hq]

variable (h : s.ready) (tag : Byte)
include h

theorem exec_printCancel_of_none (hw : s.prn.work = none) : s.cancelsTo tag s.prn.queue.length s.store s.supply
    { s.prn with queue := [], openReceipt := none, restart := .none } := by
  obtain ⟨hs, hu⟩ := Printer.started_of_none hw
  have hc := exec_printCancel_of_ended h tag (p := { s.prn with queue := s.prn.started })
    (State.endRecord_of_none (s := s.reservePlace.setPrn { s.prn with queue := s.prn.started }) hw)
  rwa [hs, hu] at hc

variable {w : Work} {q : Queued} {more : List Queued} (hw : s.prn.work = some w) (hq : s.prn.queue = q :: more)
include hw hq

theorem exec_printCancel_of_cutter (hc : s.prn.cutter ≠ none) : s.cancelsTo tag more.length s.store s.supply
    { s.prn with queue := [q], openReceipt := none, restart := .none } := by
  obtain ⟨hs, hu⟩ := Printer.started_of_work hw hq
  have hc := exec_printCancel_of_ended h tag (p := { s.prn with queue := s.prn.started })
    (State.endRecord_of_cutter (s := s.reservePlace.setPrn { s.prn with queue := s.prn.started }) hw hc)
  rwa [hs, hu] at hc

theorem exec_printCancel_of_line (hc : s.prn.cutter = none) (hl : s.prn.line ≠ none) (he : s.prn.engine ≠ .suspended) :
    s.cancelsTo tag more.length s.store s.supply { s.prn with queue := [q], openReceipt := none, restart := .none, ending := true } := by
  obtain ⟨hs, hu⟩ := Printer.started_of_work hw hq
  have hc := exec_printCancel_of_ended h tag (p := { s.prn with queue := s.prn.started, ending := true })
    (State.endRecord_of_line (s := s.reservePlace.setPrn { s.prn with queue := s.prn.started }) hw hc hl he)
  rwa [hs, hu] at hc

theorem exec_printCancel_of_rest (hc : s.prn.cutter = none) (hl : s.prn.line = none ∨ s.prn.engine = .suspended) :
    s.cancelsTo tag more.length s.store.dropLineRead s.supplyFreed { s.prn with
      queue := [], openReceipt := none, restart := .none, work := none, ending := false, line := none
      engine := if s.prn.engine = .suspended ∨ s.prn.reasons.any = true then .suspended else .idle } := by
  obtain ⟨hs, hu⟩ := Printer.started_of_work hw hq
  have hd := exec_printCancel_of_ended h tag
    ((State.endRecord_of_rest (s := s.reservePlace.setPrn { s.prn with queue := s.prn.started }) hw hc hl).trans
      (State.dropRecord_of_last (s := s.reservePlace.setPrn { s.prn with queue := s.prn.started }) hs hc))
  rwa [hu] at hd

end

end Sys2Proof.Machine

namespace Sys2Proof.Machine
set_option Elab.async false

/-! ### Phases: the longest run and the strobe width (R183, R184) -/

/-- The run of a phase is a front of the unprinted blocks, within the available load, and not to be prolonged (R183). -/
theorem fitRun_longest (available : Nat) (l : List (Nat × Nat)) : ∃ rest, l = fitRun available l ++ rest
    ∧ ((fitRun available l).map Prod.snd).sum ≤ available
    ∧ ∀ k load more, rest = (k, load) :: more → available < ((fitRun available l).map Prod.snd).sum + load := by
  induction l generalizing available with
  | nil => exact ⟨[], rfl, Nat.zero_le _, nofun⟩
  | cons b l ih =>
    obtain ⟨k, load⟩ := b
    by_cases hfit : load ≤ available
    · obtain ⟨rest, happ, hsum, hmax⟩ := ih (available - load)
      have hrun : fitRun available ((k, load) :: l) = (k, load) :: fitRun (available - load) l := if_pos hfit
      rw [hrun, List.map_cons, List.sum_cons]
      refine ⟨rest, by rw [List.cons_append, ← happ], by omega, fun k' load' more hr => ?_⟩
      have := hmax k' load' more hr
      omega
    · have hrun : fitRun available ((k, load) :: l) = [] := if_neg hfit
      rw [hrun]
      refine ⟨(k, load) :: l, rfl, Nat.zero_le _, fun k' load' more hr => ?_⟩
      cases hr
      simp
      omega

/-- The strobe width follows the four steps of R184. -/
theorem strobeWidth_time (d : Nat) {v : Nat} (temp : Int) (hv : 180 ≤ v) : strobeTime d v temp (strobeWidth d v temp) := by
  have hpos : 0 < v ^ 2 := Nat.pow_pos (by omega)
  let t := (200 + 40 * d) * 57600 / v ^ 2
  let t' := if 25 < temp then t * max 60 (100 - (temp - 25)).toNat / 100 else t
  refine ⟨t, t', Nat.div_mul_le_self _ _, ?_, fun h => if_neg (not_lt.2 h), fun h => ⟨_, rfl, ?_⟩, ?_⟩
  · rw [Nat.mul_comm (t + 1)]
    exact Nat.lt_mul_div_succ _ hpos
  · have hf : ((max 60 (100 - (temp - 25)).toNat : Nat) : Int) = max 60 (100 - (temp - 25)) := by omega
    have ht' : t' = t * max 60 (100 - (temp - 25)).toNat / 100 := if_pos h
    rw [← hf, ht']
    exact ⟨by exact_mod_cast Nat.mul_div_le _ 100, by exact_mod_cast Nat.lt_mul_div_succ _ (by decide)⟩
  · have ht : t = (200 + 40 * d) * 57600 / (v * v) := by rw [← Nat.pow_two]
    rw [strobeWidth, ← ht]
    rfl

/-- What a planning leaves (R183). -/
theorem State.plan_plansPhase {s : State} {l : Line} (hl : s.prn.line = some l) (hlow : s.prn.reasons.lowSupply = false)
    (hp : s.supply.phase = none) : s.plansPhase (s.plan l) l s.available := by
  let v := s.prn.supplyInput.headD s.prn.headSupply
  by_cases hv : v < 180
  · have he : s.plan l = s.sampleSupply.suspend := if_pos hv
    rw [he]
    have hr : s.prn.reasons.sampleSupply v = { s.prn.reasons with lowSupply := true } := by simp [Reasons.sampleSupply, hv]
    exact ⟨rfl, rfl, hl, rfl, fun _ => ⟨rfl, hr, hp⟩, fun hn => absurd hv (Nat.not_lt.2 hn)⟩
  · have hr : s.prn.reasons.sampleSupply v = s.prn.reasons := by
      unfold Reasons.sampleSupply
      rw [if_neg hv, hlow, ite_self, ← hlow]
    obtain ⟨rest, happ, hsum, hmax⟩ := fitRun_longest s.available l.unprinted
    cases hrun : fitRun s.available l.unprinted with
    | nil =>
      have he : s.plan l = s.sampleSupply.setPrn { s.sampleSupply.prn with engine := .waitSupply } :=
        (if_neg hv).trans (by rw [show s.sampleSupply.available = s.available from rfl, hrun])
      rw [hrun] at happ hsum hmax
      rw [he]
      exact ⟨rfl, rfl, hl, rfl, fun hn => absurd hn hv, fun _ => ⟨hr, [], rest, happ, hsum, hmax, fun _ => ⟨hp, rfl⟩,
        fun hn => absurd rfl hn⟩⟩
    | cons b run =>
      let ph : Phase := { blocks := (b :: run).map Prod.fst, load := ((b :: run).map Prod.snd).sum,
                          width := strobeWidth s.prn.darkness v l.temp, reapplied := false }
      have he : s.plan l = (s.sampleSupply.setSupply { s.supply with phase := some ph }).setPrn
          { s.sampleSupply.prn with engine := .printing } :=
        (if_neg hv).trans (by rw [show s.sampleSupply.available = s.available from rfl, hrun]; rfl)
      rw [hrun] at happ hsum hmax
      rw [he]
      exact ⟨rfl, rfl, hl, rfl, fun hn => absurd hn hv, fun hge => ⟨hr, b :: run, rest, happ, hsum, hmax, nofun,
        fun _ => ⟨rfl, ph, rfl, rfl, rfl, rfl, strobeWidth_time _ _ hge⟩⟩⟩

/-! ### PRINT_RESUME (R192) -/

section
variable {s : State}

theorem reqPrintResume_of_none (h₁ : s.prn.reasons.paperOut = false) (h₂ : s.prn.reasons.coverOpen = false)
    (h₃ : s.prn.reasons.cutterJam = false) : reqPrintResume s = (s, .refuse .wrongState) := by
  simp [reqPrintResume, h₁, h₂, h₃]

theorem reqPrintResume_of_stuck
    (h : s.prn.reasons.paperOut = true ∨ s.prn.reasons.coverOpen = true ∨ s.prn.reasons.cutterJam = true)
    (he : s.prn.cleared = s.prn.reasons) : reqPrintResume s = (s, .refuse .notAllowed) := by
  have ho : (s.prn.reasons.paperOut || s.prn.reasons.coverOpen || s.prn.reasons.cutterJam) = true := by
    simpa only [Bool.or_eq_true, or_assoc] using h
  rw [reqPrintResume, if_neg (by simp only [ho]; decide), if_pos he]

/-- A PRINT_RESUME that clears a reason is accepted (R192). -/
theorem reqPrintResume_of_cleared (he : s.prn.cleared ≠ s.prn.reasons) : reqPrintResume s =
    ((s.setPrn { s.prn with reasons := s.prn.cleared }).tryResume, .accept [Byte.of (reasonBits s.prn.cleared)]) := by
  have hn : ¬ (!(s.prn.reasons.paperOut || s.prn.reasons.coverOpen || s.prn.reasons.cutterJam)) = true := fun h => by
    simp only [Bool.not_eq_true', Bool.or_eq_false_iff] at h
    obtain ⟨⟨h₁, h₂⟩, h₃⟩ := h
    refine he ?_
    cases hr : s.prn.reasons
    simp_all [Printer.cleared]
  rw [reqPrintResume, if_neg hn, if_neg he]
  rfl

theorem State.tryResume_of_stopped (h : s.prn.engine ≠ .suspended ∨ s.prn.reasons.any = true) : s.tryResume = s :=
  if_neg fun ⟨he, hr⟩ => h.elim (fun hn => hn he) fun ha => by simp [ha] at hr

theorem State.tryResume_of_suspended (h : s.prn.engine = .suspended) (hr : s.prn.reasons.any = false) : s.tryResume = s.resume :=
  if_pos ⟨h, by simp [hr]⟩

end

/-- The printer of an engine that resumes: the reasons cleared, and nothing to be restarted (R192). -/
def Printer.awake (p : Printer) : Printer := { p with reasons := p.cleared, restart := .none }

/-- The state in which an engine resumes. -/
def State.awake (s : State) : State := { s with prn := s.prn.awake }

/-- What an engine takes up as it resumes (R192). -/
def State.resumed (s : State) : State := (s.setPrn { s.prn with reasons := s.prn.cleared }).resume

/-- The order of R192 on a state whose owed restart has been taken from it. -/
def State.takesBack (restart : Restart) (work : Option Work) (s : State) : State :=
  match restart, work with
  | .reprintLine, some w => s.workLine w
  | .repeatCut kind, _ => s.startCut kind
  | _, none => s.startNext
  | _, some (.reading _) => s.setPrn { s.prn with engine := .waitStore }
  | _, some w => if s.prn.line.isSome then s.phaseStart else s.workLine w

theorem State.resumed_eq (s : State) : s.resumed = s.awake.takesBack s.prn.restart s.prn.work := by
  unfold State.resumed State.resume State.takesBack
  rfl

section
variable {s : State}

theorem State.resumed_of_cut {kind : Bool} (h : s.prn.restart = .repeatCut kind) : s.resumed = s.awake.startCut kind := by
  rw [State.resumed_eq, h]
  cases s.prn.work <;> rfl

theorem State.resumed_of_next (h : s.prn.restart = .none) (hw : s.prn.work = none) : s.resumed = s.awake.startNext := by
  rw [State.resumed_eq, h, hw]
  rfl

theorem State.resumed_of_reading {n : Nat} (h : s.prn.restart = .none) (hw : s.prn.work = some (.reading n)) :
    s.resumed = s.awake.setPrn { s.prn.awake with engine := .waitStore } := by
  rw [State.resumed_eq, h, hw]
  rfl

theorem State.resumed_of_work {w : Work} (h : s.prn.restart = .none) (hw : s.prn.work = some w) (hn : ∀ n, w ≠ .reading n) :
    s.resumed = if s.prn.line.isSome then s.awake.phaseStart else s.awake.workLine w := by
  cases w with
  | reading n => exact absurd rfl (hn n)
  | _ =>
    rw [State.resumed_eq, h, hw]
    rfl

/-- A line is started anew, after a stop by COVER_OPEN or where none is in progress (R192). -/
theorem State.resumed_of_anew {w : Work} (h : s.prn.restart = .reprintLine ∨ s.prn.restart = .none ∧ s.prn.line = none)
    (hw : s.prn.work = some w) (hn : ∀ n, w ≠ .reading n) : s.resumed = s.awake.workLine w := by
  rcases h with hr | ⟨hr, hl⟩
  · rw [State.resumed_eq, hr, hw]
    rfl
  · rw [State.resumed_of_work hr hw hn, hl]
    rfl

end

/-! #### What becomes of the request -/

/-- An accepted PRINT_RESUME with which the printer and its load alone go on. -/
def State.resumesWith (s : State) (tag : Byte) (P : State → Prop) : Prop := ∃ t, exec (.printResume tag) s = .next t
  ∧ s.replied t 0x38 tag (.accept [Byte.of (reasonBits s.prn.cleared)])
  ∧ t = { s with link := t.link, supply := t.supply, prn := t.prn } ∧ t.prn.queue = s.prn.queue ∧ t.prn.restart = .none ∧ P t

section
variable {s : State} (h : s.ready) (tag : Byte)
include h

theorem exec_printResume_of_refused {r : Result} (hr : reqPrintResume s.reservePlace = (s.reservePlace, .refuse r)) :
    exec (.printResume tag) s = .next (s.answer 0x38 tag (.refuse r)).chooseFrame :=
  exec_of_unchanged (c := .printResume tag) (r := .printResume) h rfl nofun (congrArg answered hr)

variable (hne : s.prn.cleared ≠ s.prn.reasons)
include hne

theorem exec_printResume_of_cleared {u : State} (hu : (s.reservePlace.setPrn { s.prn with reasons := s.prn.cleared }).tryResume = u)
    (hslots : s.reservePlace.SlotsOnly u) : ∃ t, exec (.printResume tag) s = .next t
      ∧ s.replied t 0x38 tag (.accept [Byte.of (reasonBits s.prn.cleared)]) ∧ t = u.setLink t.link :=
  exec_of_served (c := .printResume tag) (r := .printResume) h rfl nofun rfl
    (congrArg answered ((reqPrintResume_of_cleared (s := s.reservePlace) hne).trans (congrArg (·, _) hu))) hslots

/-- An engine that stands at another reason, or is not SUSPENDED, only loses the reasons (R192). -/
theorem exec_printResume_of_stopped (hs : s.prn.engine ≠ .suspended ∨ s.prn.cleared.any = true) :
    ∃ t, exec (.printResume tag) s = .next t ∧ s.replied t 0x38 tag (.accept [Byte.of (reasonBits s.prn.cleared)])
      ∧ t = { s with link := t.link, prn := { s.prn with reasons := s.prn.cleared } } :=
  exec_printResume_of_cleared h tag hne
    (State.tryResume_of_stopped (s := s.reservePlace.setPrn { s.prn with reasons := s.prn.cleared }) hs) (.of_link rfl)

variable (he : s.prn.engine = .suspended) (ha : s.prn.cleared.any = false)
include he ha

theorem exec_printResume_of_resumed {u : State} (hu : s.reservePlace.resumed = u) (hslots : s.reservePlace.SlotsOnly u) :
    ∃ t, exec (.printResume tag) s = .next t ∧ s.replied t 0x38 tag (.accept [Byte.of (reasonBits s.prn.cleared)])
      ∧ t = u.setLink t.link :=
  exec_printResume_of_cleared h tag hne
    ((State.tryResume_of_suspended (s := s.reservePlace.setPrn { s.prn with reasons := s.prn.cleared }) he ha).trans hu) hslots

theorem State.resumesWith_of_resumed {P : State → Prop} {u : State} (hu : s.reservePlace.resumed = u)
    (hf : u = { s.reservePlace with supply := u.supply, prn := u.prn }) (hq : u.prn.queue = s.prn.queue)
    (hr : u.prn.restart = .none) (hP : ∀ l, P (u.setLink l)) : s.resumesWith tag P := by
  obtain ⟨t, ht, hrep, heq⟩ := exec_printResume_of_resumed h tag hne he ha hu (.of_link (congrArg State.link hf :))
  obtain ⟨l, rfl⟩ : ∃ l, t = u.setLink l := ⟨_, heq⟩
  exact ⟨_, ht, hrep, congrArg (State.setLink l) hf, hq, hr, hP l⟩

theorem exec_printResume_of_cut {kind : Bool} (hk : s.prn.restart = .repeatCut kind) : ∃ t, exec (.printResume tag) s = .next t
    ∧ s.replied t 0x38 tag (.accept [Byte.of (reasonBits s.prn.cleared)])
    ∧ t = { s with link := t.link, prn := { s.prn with
        reasons := s.prn.cleared, restart := .none, engine := .cutting, cutter := some ⟨kind, true⟩, jamTimer := some (s.clock + 500) } } :=
  exec_printResume_of_resumed h tag hne he ha (State.resumed_of_cut (s := s.reservePlace) hk) (.of_link rfl)

/-- A line is started anew (R182, R192). -/
theorem State.resumesWith_of_line {w : Work} {loads : List Nat}
    (hr : s.prn.restart = .reprintLine ∨ s.prn.restart = .none ∧ s.prn.line = none) (hw : s.prn.work = some w)
    (hn : ∀ n, w ≠ .reading n) (hl : ∀ u : State, u.workLine w = u.lineStart loads) :
    s.resumesWith tag fun t => s.startsLine t loads ∧ t.prn.work = s.prn.work := by
  obtain ⟨hs, hq, hwork, hrestart, hf⟩ := s.reservePlace.awake.lineStart_starts loads
  exact State.resumesWith_of_resumed h tag hne he ha ((State.resumed_of_anew (s := s.reservePlace) hr hw hn).trans (hl _)) hf hq
    hrestart fun l => ⟨hs, hwork⟩

theorem State.resumesWith_of_feed {left : Nat} (hr : s.prn.restart = .reprintLine ∨ s.prn.restart = .none ∧ s.prn.line = none)
    (hw : s.prn.work = some (.feed left)) : s.resumesWith tag fun t => t.supply = s.supply ∧ t.prn = { s.prn.awake with
      engine := .printing, line := some { loads := [], printed := [], advancing := true, temp := s.prn.headTemp } } :=
  State.resumesWith_of_resumed h tag hne he ha (State.resumed_of_anew (s := s.reservePlace) hr hw nofun) rfl rfl rfl fun _ => ⟨rfl, rfl⟩

theorem State.resumesWith_of_reading {n : Nat} (hr : s.prn.restart = .none) (hw : s.prn.work = some (.reading n)) :
    s.resumesWith tag fun t => t.supply = s.supply ∧ t.prn = { s.prn.awake with engine := .waitStore } :=
  State.resumesWith_of_resumed h tag hne he ha (State.resumed_of_reading (s := s.reservePlace) hr hw) rfl rfl rfl fun _ => ⟨rfl, rfl⟩

/-- A partly printed line goes on with its next phase (R183, R192). -/
theorem State.resumesWith_of_phase {w : Work} {l : Line} {P : State → Prop} (hr : s.prn.restart = .none) (hw : s.prn.work = some w)
    (hn : ∀ n, w ≠ .reading n) (hl : s.prn.line = some l) (hP : ∀ v, P (s.reservePlace.awake.phaseStart.setLink v)) :
    s.resumesWith tag P := by
  have hk : s.reservePlace.awake.LineKept s.reservePlace.awake.phaseStart := .phaseStart _
  have hu : s.reservePlace.resumed = s.reservePlace.awake.phaseStart :=
    (State.resumed_of_work (s := s.reservePlace) hr hw hn).trans (if_pos (Option.isSome_iff_exists.2 ⟨l, hl⟩))
  exact State.resumesWith_of_resumed h tag hne he ha hu hk.frame hk.queue hk.restart hP

/-- With no record in progress the next is taken up (R181, R192). -/
theorem exec_printResume_of_record {q : Queued} {more : List Queued} (hr : s.prn.restart = .none) (hw : s.prn.work = none)
    (hc : s.prn.cutter = none) (hq : s.prn.queue = q :: more) (hal : s.takesAlone q.record) :
    ∃ t, exec (.printResume tag) s = .next t ∧ s.replied t 0x38 tag (.accept [Byte.of (reasonBits s.prn.cleared)])
      ∧ s.awake.takesUp t q.record := by
  have hnext : s.reservePlace.resumed = s.reservePlace.awake.startRecord q.record :=
    (State.resumed_of_next (s := s.reservePlace) hr hw).trans <|
      State.startNext_of_record (s := s.reservePlace.awake) ha hc hq (fun n hn => by rw [hn] at hal; exact hal)
        (fun hn => by rw [hn] at hal; exact hal)
  obtain ⟨t, ht, hrep, heq⟩ := exec_printResume_of_resumed h tag hne he ha hnext (State.startRecord_slots (s := s.reservePlace.awake) hal)
  have htakes := s.reservePlace.awake.startRecord_takesUp q.record t.link
  rw [← heq] at htakes
  exact ⟨t, ht, hrep, htakes⟩

theorem exec_printResume_of_empty (hr : s.prn.restart = .none) (hw : s.prn.work = none) (hc : s.prn.cutter = none)
    (hq : s.prn.queue = []) : ∃ t, exec (.printResume tag) s = .next t
      ∧ t.prn = { s.prn with reasons := s.prn.cleared, engine := .idle } := by
  obtain ⟨t, ht, -, heq⟩ := exec_printResume_of_resumed h tag hne he ha ((State.resumed_of_next (s := s.reservePlace) hr hw).trans
    (State.startNext_of_empty (s := s.reservePlace.awake) ha hc hq)) (.of_link rfl)
  have hp : s.prn.awake = { s.prn with reasons := s.prn.cleared } := by rw [Printer.awake, ← hr]
  refine ⟨t, ht, ?_⟩
  calc t.prn = { s.prn.awake with engine := .idle } := (congrArg State.prn heq :)
    _ = { s.prn with reasons := s.prn.cleared, engine := .idle } := by rw [hp]

end

end Sys2Proof.Machine

namespace Sys2Proof.Machine
set_option Elab.async false

/-! ### A partly printed line (R183, R185) -/

section
variable {s : State}

theorem State.phaseStart_of_owed {ph : Phase} (h : s.supply.owed = some ph) : s.phaseStart = s.claimOwed ph := by
  rw [State.phaseStart, h]

theorem State.phaseStart_of_printed {l : Line} (h : s.supply.owed = none) (hl : s.prn.line = some l) (hu : l.unprinted = []) :
    s.phaseStart = s.advance l := by
  rw [State.phaseStart, h, hl]
  exact if_pos hu

theorem State.phaseStart_of_unprinted {l : Line} (h : s.supply.owed = none) (hl : s.prn.line = some l) (hu : l.unprinted ≠ []) :
    s.phaseStart = s.plan l := by
  rw [State.phaseStart, h, hl]
  exact if_neg hu

end

section
variable {s : State} (h : s.ready) (tag : Byte) (hne : s.prn.cleared ≠ s.prn.reasons) (he : s.prn.engine = .suspended)
  (ha : s.prn.cleared.any = false) {w : Work} {l : Line} (hr : s.prn.restart = .none) (hw : s.prn.work = some w)
  (hn : ∀ n, w ≠ .reading n) (hl : s.prn.line = some l)
include h hne he ha hr hw hn hl

/-- The owed re-application comes first, whole or not at all (R163, R185). -/
theorem State.resumesWith_of_owed {ph : Phase} (ho : s.supply.owed = some ph) :
    (ph.load ≤ s.available → s.resumesWith tag fun t =>
      t.supply = { s.supply with phase := some ph } ∧ t.prn = { s.prn.awake with engine := .printing })
    ∧ (s.available < ph.load → s.resumesWith tag fun t => t.supply = s.supply ∧ t.prn = { s.prn.awake with engine := .waitSupply }) := by
  have hp := State.phaseStart_of_owed (s := s.reservePlace.awake) ho
  refine ⟨fun hfit => State.resumesWith_of_phase h tag hne he ha hr hw hn hl fun v => ?_,
    fun hno => State.resumesWith_of_phase h tag hne he ha hr hw hn hl fun v => ?_⟩
  · rw [hp, State.claimOwed, if_pos (show ph.load ≤ s.reservePlace.awake.available from hfit)]
    exact ⟨rfl, rfl⟩
  · rw [hp, State.claimOwed, if_neg (show ¬ ph.load ≤ s.reservePlace.awake.available from Nat.not_le.2 hno)]
    exact ⟨rfl, rfl⟩

theorem State.resumesWith_of_unprinted (ho : s.supply.owed = none) (hu : l.unprinted ≠ []) (hp : s.supply.phase = none) :
    s.resumesWith tag fun t => s.awake.plansPhase t l s.available := by
  have hlow : s.prn.cleared.lowSupply = false := by
    have hany := ha
    simp only [Reasons.any, Bool.or_eq_false_iff] at hany
    simp [hany]
  refine State.resumesWith_of_phase h tag hne he ha hr hw hn hl fun v => ?_
  rw [State.phaseStart_of_unprinted (s := s.reservePlace.awake) ho hl hu]
  exact State.plan_plansPhase (s := s.reservePlace.awake) hl hlow hp

theorem State.resumesWith_of_printed (ho : s.supply.owed = none) (hu : l.unprinted = []) :
    s.resumesWith tag fun t => t.supply = s.supply
      ∧ t.prn = { s.prn.awake with line := some { l with advancing := true }, engine := .printing } := by
  refine State.resumesWith_of_phase h tag hne he ha hr hw hn hl fun v => ?_
  rw [State.phaseStart_of_printed (s := s.reservePlace.awake) ho hl hu]
  exact ⟨rfl, rfl⟩

end

/-! ### The trial, record by record -/

theorem Trial.record_open {x : Txn} {tr : Trial} {o : OpenReceipt} (h : tr.opened = some o) :
    (∀ repeats dots, tr.record x (.raster repeats dots) =
      if 1 ≤ repeats ∧ repeats ≤ 255 then .ok { tr with records := tr.records ++ [{ record := .raster repeats dots, receipt := o.number }] }
      else .error .badValue)
    ∧ (∀ lines, tr.record x (.feed lines) =
      if 1 ≤ lines ∧ lines ≤ 1000 then .ok { tr with records := tr.records ++ [{ record := .feed lines, receipt := o.number }] }
      else .error .badValue)
    ∧ (∀ kind, tr.record x (.cut kind) = .ok { tr with records := tr.records ++ [{ record := .cut kind, receipt := o.number }] })
    ∧ (∀ n, tr.record x (.weighedLine n) = tr.line x o n) ∧ tr.record x .receiptEnd = tr.end_ x o := by
  simp [Trial.record, Trial.push, h]

/-- Settles O52. -/
theorem printRequestsQueueCancelAndResume : Obligations.PrintRequestsQueueCancelAndResume := by
  intro s tag h
  refine ⟨fun body hp => exec_printRecords_of_badBody h tag hp, fun body rs tr hp hf hrun => ⟨?_, ?_, ?_⟩, fun x tr => ?_,
    fun body rs e hp hf hrun => exec_printRecords_of_refused h hp hf (reqPrintRecords_of_error (s := s.reservePlace) hrun),
    ⟨fun hw => exec_printCancel_of_none h tag hw, fun w q more hw hq => ⟨?_, ?_, ?_⟩⟩, ?_⟩
  · exact exec_printRecords_of_full h hp hf hrun
  · exact fun hl hb he => exec_printRecords_of_busy h hp hf hrun hl hb he
  · intro hl hb hi hline hend first prn hst
    exact ⟨exec_printRecords_nil h hp hf hrun hl hb hi hline hend hst,
      fun q more => exec_printRecords_cons h hp hf hrun hl hb hi hline hend hst,
      fun q => exec_printRecords_end h hp hf hrun hl hb hi hline hend hst⟩
  · refine ⟨fun rs => ⟨rfl, fun r tr' hr => Trial.run_cons_ok hr rs, fun r e hr => Trial.run_cons_error hr rs⟩,
      fun r ho hr => Trial.record_of_closed ho hr,
      fun k => ⟨fun hn => (Trial.record_begin k).trans (if_neg hn), fun hm => (Trial.record_begin k).trans (if_pos hm)⟩, fun o ho => ?_⟩
    obtain ⟨hraster, hfeed, hcut, hline, hend⟩ := Trial.record_open (x := x) ho
    exact ⟨hraster, hfeed, hcut, fun n => ⟨fun hn => (hline n).trans (Trial.line_of_unlisted hn),
        fun hl hq => (hline n).trans ((Trial.line_of_listed hl).trans (if_pos hq)),
        fun hl hq => (hline n).trans ((Trial.line_of_listed hl).trans (if_neg hq))⟩,
      fun h0 hf => hend.trans (Trial.end_of_flight h0 hf), fun h0 hf => hend.trans (Trial.end_of_number h0 hf),
      fun h0 => hend.trans (Trial.end_of_zero h0)⟩
  · exact fun hc => exec_printCancel_of_cutter h tag hw hq hc
  · exact fun hc hl he => exec_printCancel_of_line h tag hw hq hc hl he
  · exact fun hc hl => exec_printCancel_of_rest h tag hw hq hc hl
  · refine ⟨fun h₁ h₂ h₃ => exec_printResume_of_refused h tag (reqPrintResume_of_none (s := s.reservePlace) h₁ h₂ h₃),
      fun hr he => exec_printResume_of_refused h tag (reqPrintResume_of_stuck (s := s.reservePlace) hr he),
      fun hne hs => exec_printResume_of_stopped h tag hne hs,
      fun hne he ha hq hw hc hr => exec_printResume_of_empty h tag hne he ha hr hw hc hq,
      fun kind hne he ha hk => exec_printResume_of_cut h tag hne he ha hk, fun hne he ha => ⟨?_, ?_, ?_, ?_, ?_, ?_⟩⟩
    · exact fun left dots hw hr => State.resumesWith_of_line h tag hne he ha hr hw nofun fun _ => rfl
    · exact fun j hw hr => State.resumesWith_of_line h tag hne he ha hr hw nofun fun _ => rfl
    · exact fun left hw hr => State.resumesWith_of_feed h tag hne he ha hr hw
    · exact fun w l hw hn hr hl => ⟨fun ph ho => State.resumesWith_of_owed h tag hne he ha hr hw hn hl ho,
        fun ho hu hp => State.resumesWith_of_unprinted h tag hne he ha hr hw hn hl ho hu hp,
        fun ho hu => State.resumesWith_of_printed h tag hne he ha hr hw hn hl ho hu⟩
    · exact fun n hw hr => State.resumesWith_of_reading h tag hne he ha hr hw
    · exact fun q more hw hr hc hq hal => exec_printResume_of_record h tag hne he ha hr hw hc hq hal

end Sys2Proof.Machine
